-- ==== Sys2Proof/Word.lean ====
section
/-! DEFINITION. The character data byte of a station link (spec/11, R164, R165). -/

namespace Sys2Proof

/-- The eight data bits of one link character (R164). -/
abbrev Byte := BitVec 8

end Sys2Proof
end

