-- ==== Sys2Proof/Config.lean ====
section
/-! DEFINITION. The fixed capacities, limits and tables of the part, each with the rule that gives it.
Two values are open: what STATUS sends in the fields of an empty station entry, and a bundle's count beyond its range. -/

namespace Sys2Proof.Config

/-- Messages a port's transmit queue holds (R171). -/
def txCapacity : Nat := 32
/-- Characters the text pool holds (R46). -/
def textCapacity : Nat := 131072
/-- LOAD is accepted while the dispatch queue holds fewer records (R47, R48). -/
def loadLimit : Nat := 512
/-- Records the remake lane holds (R52). -/
def laneCapacity : Nat := 16
/-- The backlog is released while the address port's queue holds fewer messages (R55). -/
def backlogThreshold : Nat := 16
/-- Orders the carrier queue holds (R93). -/
def carrierCapacity : Nat := 96
/-- The last order number before the counter goes to 1 (R93). -/
def lastOrderNumber : Nat := 16777215
/-- The last tag before the counter goes to 1 (R71). -/
def lastTag : Nat := 65535
/-- Reprints a piece may have (R100). -/
def reprintLimit : Nat := 2
/-- Pocket indices the lockout set may hold (R37). -/
def lockoutCapacity : Nat := 32
/-- Every pocket index lies below this bound (R37). -/
def pocketBound : Nat := 1024
/-- A kind count stays at this value (R160). -/
def countLimit : Nat := 65535
/-- A log's next count stays at this value (R157). -/
def nextLimit : Nat := 255
/-- A bundle's delivered, off-sequence and suspect counts are at most this (R136). -/
def bundleCountLimit : Nat := 16777215
/-- Milliseconds of silence after which the setup claim expires (R29). -/
def claimLimit : Nat := 10000
/-- Milliseconds after which a tie timer expires (R145). -/
def tieLimit : Nat := 30000
/-- Payload bytes a message may carry (R165). -/
def payloadLimit : Nat := 240
/-- Bays the bay map names (R136). -/
def bayCount : Nat := 16

/-- The speed code after power-on: 57,600 baud (R164). -/
def powerOnSpeed : Fin 7 := 3

/-- The gap limit in milliseconds of each speed code (R164). -/
def gapLimit (speed : Fin 7) : Nat :=
  match speed.val with
  | 0 => 19
  | 1 => 10
  | 2 => 5
  | 3 => 4
  | 4 => 2
  | _ => 1

/-- A free value: the bytes that STATUS sends in the fields of an empty station entry, which the spec states only for an
entry that is present (R173, log 19). Nothing constrains it; State counts the bytes already taken. -/
opaque freeByte : Nat → BitVec 8

/-- A free value: what a count of a bundle holds once a rise takes it beyond 16,777,215, where R136's range ends (log 24).
Nothing constrains it but the width of the count. -/
opaque freeCount : Nat → BitVec 24

end Sys2Proof.Config
end

