-- ==== Sys2Proof/Syntax.lean ====
section
/-! DEFINITION. The commands the part takes: one constructor for each row of spec/opcode_table.json.
The table gives its rows no operands; the operands here are what the rules say an event carries. -/

namespace Sys2Proof

/-- The four ports, numbered 0 to 3 in this order (R170). -/
inductive Port
  | line
  | address
  | carrier
  | delivery
  deriving DecidableEq, Repr

/-- One character as a receiver takes it: the data bits, the marker bit, and whether the stop bit is good (R164, R166). -/
structure Character where
  data : Byte
  marker : Bool
  stopGood : Bool
  deriving DecidableEq, Repr

/-- The block events that share one count or one pitch boundary (R2, R3).
A list of them is the order in which the world has them taken; the spec fixes none (log 6).
The verify settlement is none of them: it is part of the track's advance, before them all (R118). -/
inductive PulseTask
  /-- the mark window's opening or closing (R8) -/
  | window
  /-- the call and detect phase events of one station (R82, R83) -/
  | station (s : Fin 12)
  /-- the entry event of a boundary (R61) -/
  | entry
  /-- the carrier unit's dump and apply phases, or its settlement at a boundary (R103, R104, R106) -/
  | carrier
  /-- the gate phase, or the confirms and the arrival at a boundary (R128, R129, R124) -/
  | disposition
  deriving DecidableEq, Repr

/-- The commands. A message command carries the port it was taken on, its request number and its payload;
it stands for the completion of that message with a good check byte (R168, log 1). -/
inductive Instr
  /-- R1: a forward pulse on the encoder input, with the detect lines' levels (bit s for station s) as they stand -/
  | encoderPulse (detectA detectB : BitVec 12) (order : List PulseTask)
  /-- R7: a leading edge on the home mark input -/
  | homeMark (order : List PulseTask)
  /-- R131: the oldest pending confirm reaches its second boundary -/
  | pendingConfirmExpiry
  /-- R130: a leading edge on the gate confirm input -/
  | gateConfirm
  /-- R29: the holder's expiry timer reaches 10,000 ms -/
  | claimExpiry
  /-- R145: the tie timer of the named bundle reaches 30,000 ms -/
  | tieTimerExpiry (bundle : Nat)
  /-- R167: the gap on the port passes its gap limit -/
  | gapLimitExpiry (p : Port)
  /-- R39: power-on or the reset input -/
  | powerOn
  /-- R166: a character arrives on a port -/
  | receiveCharacter (p : Port) (c : Character)
  /-- R168: a message with this kind and number completes with a bad check byte -/
  | checkFail (p : Port) (kind num : Byte)
  /-- R169: a message of a kind that is not receivable is taken with a good check -/
  | unknownKind (p : Port) (kind num : Byte)
  /-- R171: the last character of the message at the head of the port's transmit queue has been sent -/
  | messageSent (p : Port)
  /-- R164: the ACCEPT of a SET SPEED has been sent and the port changes speed -/
  | speedChange (p : Port)
  /-- R55: the oldest backlog entry is released -/
  | outcomeBacklogRelease
  /-- R173 -/
  | status (p : Port) (num : Byte) (payload : List Byte)
  /-- R27 -/
  | claim (p : Port) (num : Byte) (payload : List Byte)
  /-- R28 -/
  | release (p : Port) (num : Byte) (payload : List Byte)
  /-- R161 -/
  | subscribe (p : Port) (num : Byte) (payload : List Byte)
  /-- R164 -/
  | setSpeed (p : Port) (num : Byte) (payload : List Byte)
  /-- R158 -/
  | readLog (p : Port) (num : Byte) (payload : List Byte)
  /-- R159 -/
  | clearLog (p : Port) (num : Byte) (payload : List Byte)
  /-- R160 -/
  | readCounts (p : Port) (num : Byte) (payload : List Byte)
  /-- R160 -/
  | clearCounts (p : Port) (num : Byte) (payload : List Byte)
  /-- R90 -/
  | readTrack (p : Port) (num : Byte) (payload : List Byte)
  /-- R59 -/
  | readQueue (p : Port) (num : Byte) (payload : List Byte)
  /-- R148 -/
  | readBundle (p : Port) (num : Byte) (payload : List Byte)
  /-- R112 -/
  | readOrders (p : Port) (num : Byte) (payload : List Byte)
  /-- R32, R33 -/
  | setGeometry (p : Port) (num : Byte) (payload : List Byte)
  /-- R34 -/
  | setStation (p : Port) (num : Byte) (payload : List Byte)
  /-- R35 -/
  | clearStation (p : Port) (num : Byte) (payload : List Byte)
  /-- R152 -/
  | setAction (p : Port) (num : Byte) (payload : List Byte)
  /-- R37 -/
  | setLockout (p : Port) (num : Byte) (payload : List Byte)
  /-- R38 -/
  | restart (p : Port) (num : Byte) (payload : List Byte)
  /-- R155 -/
  | setLineMask (p : Port) (num : Byte) (payload : List Byte)
  /-- R21 -/
  | run (p : Port) (num : Byte) (payload : List Byte)
  /-- R22 -/
  | hold (p : Port) (num : Byte) (payload : List Byte)
  /-- R23 -/
  | drain (p : Port) (num : Byte) (payload : List Byte)
  /-- R25 -/
  | stopClear (p : Port) (num : Byte) (payload : List Byte)
  /-- R16 -/
  | chainClear (p : Port) (num : Byte) (payload : List Byte)
  /-- R89 -/
  | stationOn (p : Port) (num : Byte) (payload : List Byte)
  /-- R87 -/
  | stationOff (p : Port) (num : Byte) (payload : List Byte)
  /-- R134 -/
  | proof (p : Port) (num : Byte) (payload : List Byte)
  /-- R156 -/
  | alertClear (p : Port) (num : Byte) (payload : List Byte)
  /-- R121 -/
  | wrapFault (p : Port) (num : Byte) (payload : List Byte)
  /-- R41 -/
  | jobOpen (p : Port) (num : Byte) (payload : List Byte)
  /-- R48 -/
  | load (p : Port) (num : Byte) (payload : List Byte)
  /-- R53 -/
  | withdraw (p : Port) (num : Byte) (payload : List Byte)
  /-- R42 -/
  | jobEnd (p : Port) (num : Byte) (payload : List Byte)
  /-- R43 -/
  | jobAbort (p : Port) (num : Byte) (payload : List Byte)
  /-- R54 -/
  | closeShort (p : Port) (num : Byte) (payload : List Byte)
  /-- R98, R99 -/
  | printed (p : Port) (num : Byte) (payload : List Byte)
  /-- R100, R101 -/
  | spoiled (p : Port) (num : Byte) (payload : List Byte)
  /-- R102 -/
  | orderWithdrawn (p : Port) (num : Byte) (payload : List Byte)
  /-- R102 -/
  | orderLate (p : Port) (num : Byte) (payload : List Byte)
  /-- R115 -/
  | codeRead (p : Port) (num : Byte) (payload : List Byte)
  /-- R117 -/
  | noRead (p : Port) (num : Byte) (payload : List Byte)
  /-- R110 -/
  | purged (p : Port) (num : Byte) (payload : List Byte)
  /-- R143, R144 -/
  | tied (p : Port) (num : Byte) (payload : List Byte)
  /-- R146 -/
  | jam (p : Port) (num : Byte) (payload : List Byte)
  deriving DecidableEq, Repr

end Sys2Proof
end

