-- ==== Sys2Proof/Decode.lean ====
section
/-! DEFINITION. spec/opcode_table.json gives none of its rows bits ("fields": [] in every row, no "fixed"), so no word of
the table's bits spells a command. What the links' bytes spell is Machine/Kinds.lean's `commandOfMessage` (R169). -/

namespace Sys2Proof

/-- The command a word spells by the table's bits: no row has bits, so none. -/
def decodeTableWord (_nbits _w : Nat) : Option Instr := none

end Sys2Proof
end

