-- ==== Sys2Proof/Machine/Kinds.lean ====
section
/-! DEFINITION. The kind table of spec/11 section 11.8: which kind codes are receivable, which are requests, which are
reports (R168, R169), and the command that a taken message is. -/

namespace Sys2Proof.Machine

/-- The request kinds: the groups any port, claim holder, line port and address port, but not WRAP FAULT (R168). -/
def isRequestKind (kind : Byte) : Bool :=
  let k := kind.toNat
  (0x01 ≤ k && k ≤ 0x0D) || (0x10 ≤ k && k ≤ 0x16) || (0x20 ≤ k && k ≤ 0x28) || (0x30 ≤ k && k ≤ 0x35)

/-- The report kinds: WRAP FAULT, the carrier reports, TIED and JAM (R169). -/
def isReportKind (kind : Byte) : Bool :=
  let k := kind.toNat
  k == 0x29 || (0x40 ≤ k && k ≤ 0x46) || k == 0x50 || k == 0x51

/-- A kind the part takes from a partner; every other code is refused UNKNOWN_KIND (R169). -/
def isReceivableKind (kind : Byte) : Bool := isRequestKind kind || isReportKind kind

/-- The command that a message taken with a good check is, by the kind table (R169). -/
def commandOfMessage (p : Port) (kind num : Byte) (payload : List Byte) : Instr :=
  match kind.toNat with
  | 0x01 => .status p num payload
  | 0x02 => .claim p num payload
  | 0x03 => .release p num payload
  | 0x04 => .subscribe p num payload
  | 0x05 => .setSpeed p num payload
  | 0x06 => .readLog p num payload
  | 0x07 => .clearLog p num payload
  | 0x08 => .readCounts p num payload
  | 0x09 => .clearCounts p num payload
  | 0x0A => .readTrack p num payload
  | 0x0B => .readQueue p num payload
  | 0x0C => .readBundle p num payload
  | 0x0D => .readOrders p num payload
  | 0x10 => .setGeometry p num payload
  | 0x11 => .setStation p num payload
  | 0x12 => .clearStation p num payload
  | 0x13 => .setAction p num payload
  | 0x14 => .setLockout p num payload
  | 0x15 => .restart p num payload
  | 0x16 => .setLineMask p num payload
  | 0x20 => .run p num payload
  | 0x21 => .hold p num payload
  | 0x22 => .drain p num payload
  | 0x23 => .stopClear p num payload
  | 0x24 => .chainClear p num payload
  | 0x25 => .stationOn p num payload
  | 0x26 => .stationOff p num payload
  | 0x27 => .proof p num payload
  | 0x28 => .alertClear p num payload
  | 0x29 => .wrapFault p num payload
  | 0x30 => .jobOpen p num payload
  | 0x31 => .load p num payload
  | 0x32 => .withdraw p num payload
  | 0x33 => .jobEnd p num payload
  | 0x34 => .jobAbort p num payload
  | 0x35 => .closeShort p num payload
  | 0x40 => .printed p num payload
  | 0x41 => .spoiled p num payload
  | 0x42 => .orderWithdrawn p num payload
  | 0x43 => .orderLate p num payload
  | 0x44 => .codeRead p num payload
  | 0x45 => .noRead p num payload
  | 0x46 => .purged p num payload
  | 0x50 => .tied p num payload
  | 0x51 => .jam p num payload
  | _ => .unknownKind p kind num

end Sys2Proof.Machine
end

