-- ==== Sys2Proof/WellFormed.lean ====
section
/-! DEFINITION. Which commands can come about: the bounds the rules put on what an event carries. -/

namespace Sys2Proof

/-- A message carries at most 240 payload bytes (R165). -/
def payloadOk (payload : List Byte) : Bool := payload.length ≤ Config.payloadLimit

/-- The check on a command's operands. A taken message has a length byte of 0..240 (R165, R166), the order of block
events names each at most once, a bundle number is 1..16,777,215 (R45), and UNKNOWN_KIND is of a kind that is not
receivable (R169). -/
def Instr.wellFormed : Instr → Bool
  | .encoderPulse _ _ order => order.Nodup
  | .homeMark order => order.Nodup
  | .pendingConfirmExpiry => true
  | .gateConfirm => true
  | .claimExpiry => true
  | .tieTimerExpiry bundle => 1 ≤ bundle && bundle ≤ 16777215
  | .gapLimitExpiry _ => true
  | .powerOn => true
  | .receiveCharacter _ _ => true
  | .checkFail _ _ _ => true
  | .unknownKind _ kind _ => !Machine.isReceivableKind kind
  | .messageSent _ => true
  | .speedChange _ => true
  | .outcomeBacklogRelease => true
  | .status _ _ payload => payloadOk payload
  | .claim _ _ payload => payloadOk payload
  | .release _ _ payload => payloadOk payload
  | .subscribe _ _ payload => payloadOk payload
  | .setSpeed _ _ payload => payloadOk payload
  | .readLog _ _ payload => payloadOk payload
  | .clearLog _ _ payload => payloadOk payload
  | .readCounts _ _ payload => payloadOk payload
  | .clearCounts _ _ payload => payloadOk payload
  | .readTrack _ _ payload => payloadOk payload
  | .readQueue _ _ payload => payloadOk payload
  | .readBundle _ _ payload => payloadOk payload
  | .readOrders _ _ payload => payloadOk payload
  | .setGeometry _ _ payload => payloadOk payload
  | .setStation _ _ payload => payloadOk payload
  | .clearStation _ _ payload => payloadOk payload
  | .setAction _ _ payload => payloadOk payload
  | .setLockout _ _ payload => payloadOk payload
  | .restart _ _ payload => payloadOk payload
  | .setLineMask _ _ payload => payloadOk payload
  | .run _ _ payload => payloadOk payload
  | .hold _ _ payload => payloadOk payload
  | .drain _ _ payload => payloadOk payload
  | .stopClear _ _ payload => payloadOk payload
  | .chainClear _ _ payload => payloadOk payload
  | .stationOn _ _ payload => payloadOk payload
  | .stationOff _ _ payload => payloadOk payload
  | .proof _ _ payload => payloadOk payload
  | .alertClear _ _ payload => payloadOk payload
  | .wrapFault _ _ payload => payloadOk payload
  | .jobOpen _ _ payload => payloadOk payload
  | .load _ _ payload => payloadOk payload
  | .withdraw _ _ payload => payloadOk payload
  | .jobEnd _ _ payload => payloadOk payload
  | .jobAbort _ _ payload => payloadOk payload
  | .closeShort _ _ payload => payloadOk payload
  | .printed _ _ payload => payloadOk payload
  | .spoiled _ _ payload => payloadOk payload
  | .orderWithdrawn _ _ payload => payloadOk payload
  | .orderLate _ _ payload => payloadOk payload
  | .codeRead _ _ payload => payloadOk payload
  | .noRead _ _ payload => payloadOk payload
  | .purged _ _ payload => payloadOk payload
  | .tied _ _ payload => payloadOk payload
  | .jam _ _ payload => payloadOk payload

end Sys2Proof
end

