-- ==== Sys2Proof/Machine/State.lean ====
section
/-! DEFINITION. The whole state of the part as plain data, block by block as the spec divides it, its value after
power-on, and the setters every operation uses. -/

namespace Sys2Proof.Machine

/-- Why a step can stop with a fault. The spec gives every command an effect in every state, and the part's own fault
kinds are counts, logs and latches of the state, so there is no such reason: the type has no constructor. -/
inductive Fault
  deriving DecidableEq, Repr

/-- Why a command can be refused by the model. -/
inductive Refusal
  /-- Raised by exec's arm for a command that has no meaning yet, and by nothing else. Safe: the model stops where the
  hardware goes on. -/
  | notModelled (mnemonic : String)
  deriving DecidableEq, Repr

/-! ## Registration unit (chapter 1) -/

/-- Registration states (R10 to R15). -/
inductive RegState
  | unregistered
  | seeking
  | registered
  | lost
  deriving DecidableEq, Repr

/-- The mark window (R8). -/
structure MarkWindow where
  isOpen : Bool
  markSeen : Bool
  /-- the tolerance in use, taken when the window opens -/
  tolerance : Nat
  deriving DecidableEq, Repr

/-- State of the registration unit (R19). -/
structure Registration where
  /-- pulses taken since the last count, 0..D−1 (R1) -/
  remainder : Nat
  /-- phase counter, 0..P−1 (R2) -/
  phase : Nat
  /-- phases 1..issuedTo of the present pitch were issued before an alignment in it, and are not issued again (R9); 0 where
  there was none -/
  issuedTo : Nat
  /-- pocket index, 0..L−1 (R6) -/
  pocketIndex : Nat
  state : RegState
  /-- good-mark count, 0..2 (R11) -/
  goodMarks : Nat
  window : MarkWindow
  /-- fault window: `none` is CLEAR, else 0..7 (R13) -/
  faultWindow : Option Nat
  chainClearPending : Bool
  deriving DecidableEq, Repr

/-- The pulsed lines (R4): `some e` is an asserted line that is released at phase `e` (at the boundary when `e = P`),
`none` a released one. -/
structure Lines where
  calls : Vector (Option Nat) 12
  apply : Option Nat
  dump : Option Nat
  gate : Option Nat
  deriving DecidableEq, Repr

/-- Levels of the detect lines A and B, bit s for station s, as last sampled at an encoder pulse (R83). -/
structure Pins where
  detectA : BitVec 12
  detectB : BitVec 12
  deriving DecidableEq, Repr

/-! ## Run control and setup (chapter 2) -/

/-- Entry gate states (R20). -/
inductive GateState
  | closed
  | opened
  | drain
  | halt
  deriving DecidableEq, Repr

/-- A held setup claim: the holder and its running expiry timer in ms (R27, R29). -/
structure Claim where
  holder : Port
  elapsed : Nat
  deriving DecidableEq, Repr

/-- Run control's state. `claim = none` is the free claim, whose timer is stopped. The stop latch it shares stands in
the fault unit. -/
structure RunControl where
  gate : GateState
  claim : Option Claim
  deriving DecidableEq, Repr

/-- A complete geometry, as SET GEOMETRY carries it (R31, R32). -/
structure Geometry where
  divider : Nat
  pitch : Nat
  chainLength : Nat
  tolerance : Nat
  /-- applicator position c -/
  applicator : Nat
  /-- verify position v, or none -/
  verify : Option Nat
  /-- wrap position w -/
  wrap : Nat
  /-- gate position g -/
  gate : Nat
  /-- carrier buffer depth K -/
  depth : Nat
  dumpPhase : Nat
  dumpWidth : Nat
  applyPhase : Nat
  applyWidth : Nat
  gatePhase : Nat
  gateWidth : Nat
  /-- bays in use H -/
  bays : Nat
  remakeLimit : Nat
  deriving DecidableEq, Repr

/-- A non-empty station entry (R31). -/
structure Station where
  position : Nat
  item : Nat
  /-- the alternate's entry index, or none -/
  alternate : Option (Fin 12)
  callPhase : Nat
  callWidth : Nat
  detectPhase : Nat
  on : Bool
  deriving DecidableEq, Repr

/-- The setup store (R31). `geometry = none` until the first SET GEOMETRY after power-on: the items then stand as
`Geometry.powerOn` gives them (log 15). -/
structure Setup where
  geometry : Option Geometry
  stations : Vector (Option Station) 12
  deriving DecidableEq, Repr

/-! ## Dispatch store (chapter 3) -/

/-- Job states (R40). -/
inductive JobState
  | noJob
  | loading
  | ended
  | aborting
  deriving DecidableEq, Repr

/-- A subscriber record (R45). -/
structure Record where
  key : Nat
  bundle : Nat
  /-- required items, bit n for item n -/
  items : BitVec 16
  attempt : Nat
  /-- the address lines, whose characters the text pool counts (R46) -/
  lines : List (List Byte)
  deriving DecidableEq, Repr

/-- Where a held record stands, in the record map (R45). -/
inductive Place
  | queue
  | lane
  | track
  deriving DecidableEq, Repr

/-- The list a record was taken from at entry (R51). -/
inductive SourceList
  | queue
  | lane
  deriving DecidableEq, Repr

/-- The outcome a backlog entry is to receive (R55). -/
inductive BacklogOutcome
  | aborted
  | short
  deriving DecidableEq, Repr

/-- State of the dispatch store (R60). -/
structure Store where
  jobNumber : Option Nat
  jobState : JobState
  loadMark : Nat
  /-- dispatch queue, head first (R47) -/
  queue : List Record
  /-- remake lane, oldest first (R52) -/
  lane : List Record
  /-- record map, in rising key order (R45) -/
  map : List (Nat × Place)
  /-- characters in use in the text pool (R46) -/
  textUsed : Nat
  /-- outcome backlog, oldest first: the record's key and its outcome (R55) -/
  backlog : List (Nat × BacklogOutcome)
  deriving DecidableEq, Repr

/-! ## Entry unit (chapter 4) -/

/-- Entry results (R61). -/
inductive EntryResult
  | noResult
  | notRegistered
  | locked
  | gate
  | carrier
  | noRecord
  | backlog
  | itemWait
  | bayWait
  | entered
  deriving DecidableEq, Repr

/-- State of the entry unit (R74). -/
structure EntryUnit where
  /-- lockout set, rising and without repeats (R37) -/
  lockout : List Nat
  nextTag : Nat
  /-- QUEUE_STARVE episode flag (R73) -/
  starving : Bool
  /-- ITEM_UNAVAILABLE episode flag (R67) -/
  itemUnavailable : Bool
  result : EntryResult
  /-- bundle number awaiting a bay (R61) -/
  awaitingBay : Option Nat
  deriving DecidableEq, Repr

/-! ## Faults (chapter 10) -/

/-- The fault kinds, in the order of their numbers 1 to 22 (R150). -/
inductive FaultKind
  | feedMiss
  | feedDouble
  | feedSensor
  | feedExtra
  | carrierVoid
  | carrierStarve
  | carrierMismatch
  | carrierUnread
  | wrapFault
  | strayPiece
  | homeFault
  | registrationLost
  | carrierSequence
  | carrierOverrun
  | gateFail
  | gateStray
  | deliveryFault
  | strayReport
  | linkError
  | linkOverflow
  | queueStarve
  | itemUnavailable
  deriving DecidableEq, Repr

/-- Actions (R150). -/
inductive Action
  | off
  | note
  | reject
  | stop
  deriving DecidableEq, Repr

/-- Steerings (R150). -/
inductive Steering
  | none
  | alarm
  | slow
  deriving DecidableEq, Repr

/-- The source of a fault (R157). -/
inductive Source
  | none
  | station (s : Fin 12)
  | port (p : Port)
  deriving DecidableEq, Repr

/-- A fault with the details its finding block hands on; the first record of a log (R157). -/
structure FaultRecord where
  kind : FaultKind
  source : Source
  tag : Option Nat
  key : Option Nat
  bundle : Option Nat
  pocket : Option Nat
  position : Option Nat
  reg : RegState
  deriving DecidableEq, Repr

/-- A held log (R157); an empty log is `none`, with next count 0. -/
structure FaultLog where
  record : FaultRecord
  next : Nat
  deriving DecidableEq, Repr

/-- A port's subscription set (R161). -/
structure Subscription where
  stop : Bool
  reject : Bool
  state : Bool
  deriving DecidableEq, Repr

/-- One value for each of the four ports. -/
structure PerPort (α : Type) where
  line : α
  address : α
  carrier : α
  delivery : α
  deriving DecidableEq, Repr

/-- State of the fault unit (R163). The stop-request, ALARM and SLOW lines are asserted exactly while their latches are
set (R153, R154), so the latches hold them. -/
structure FaultUnit where
  actions : Vector (Action × Steering) 22
  stopLatch : Bool
  alarm : Bool
  slow : Bool
  maskAlarm : Bool
  maskSlow : Bool
  stopLog : Option FaultLog
  rejectLog : Option FaultLog
  counts : Vector Nat 22
  subs : PerPort Subscription
  deriving DecidableEq, Repr

/-! ## Piece track (chapter 5) -/

/-- What a planned station reported (R78). -/
inductive FeedResult
  | pending
  | fed
  | missed
  | double
  | sensor
  deriving DecidableEq, Repr

/-- The fate of a piece's carrier (R78). -/
inductive CarrierFate
  | awaiting
  | applied
  | void
  | starved
  deriving DecidableEq, Repr

/-- The verify reader's finding (R114). -/
inductive VerifyValue
  | pending
  | match_
  | mismatch
  | unreadProvisional
  | unread
  | notChecked
  deriving DecidableEq, Repr

/-- Causes of a wrap fault (R121). -/
inductive WrapCause
  | seal
  | cut
  | film
  deriving DecidableEq, Repr

/-- One required item: the station planned to feed it and that station's result (R78). -/
structure PlanPair where
  item : Nat
  station : Fin 12
  result : FeedResult
  deriving DecidableEq, Repr

/-- The piece record (R78). -/
structure Piece where
  tag : Nat
  pocket : Nat
  record : Record
  source : SourceList
  /-- plan and feed results, in ascending item number -/
  plan : List PlanPair
  extra : BitVec 12
  /-- the live order's number -/
  carrier : Option Nat
  fate : CarrierFate
  reprints : Nat
  /-- the order applied at c -/
  applied : Option Nat
  verify : VerifyValue
  /-- `none` is OK, else FAULT with its cause -/
  wrap : Option WrapCause
  /-- bit k−1 for fault kind k -/
  faults : BitVec 24
  firstKind : Option FaultKind
  rejectDue : Bool
  proof : Bool
  deriving DecidableEq, Repr

/-- Causes of a stray entry (R75). -/
inductive StrayCause
  | fed
  | purged
  deriving DecidableEq, Repr

/-- A position entry (R75). The pocket index of a PIECE stands in its piece record. -/
inductive TrackEntry
  | empty (pocket : Option Nat) (extra : BitVec 12)
  | locked (pocket : Nat) (extra : BitVec 12)
  | stray (pocket : Option Nat) (extra : BitVec 12) (cause : StrayCause)
  | piece (p : Piece)
  | gated (pocket : Nat) (tag : Nat)
  deriving DecidableEq, Repr

/-! ## Carrier unit (chapter 6) -/

/-- Order states (R94). -/
inductive OrderState
  | issued
  | printed
  | withdrawing
  | wastePending
  | waste
  deriving DecidableEq, Repr

/-- A carrier order (R93); its match code is a view of the number. -/
structure Order where
  number : Nat
  tag : Nat
  state : OrderState
  deriving DecidableEq, Repr

/-- Causes of a carrier HOLD (R108). -/
inductive HoldCause
  | sequence
  | overrun
  | lost
  deriving DecidableEq, Repr

/-- The carrier state (R108). -/
inductive CarrierMode
  | run
  | hold (cause : HoldCause)
  deriving DecidableEq, Repr

/-- State of the carrier unit (R113). -/
structure CarrierUnit where
  mode : CarrierMode
  /-- carrier queue, head first (R93) -/
  queue : List Order
  printedCount : Nat
  nextOrder : Nat
  deriving DecidableEq, Repr

/-- State of the verify unit (R123). -/
structure VerifyUnit where
  mismatchRun : Nat
  deriving DecidableEq, Repr

/-! ## Disposition unit (chapter 8) -/

/-- What the gate due and a pending confirm keep of a rejected piece (R124, R129). -/
structure Reject where
  tag : Nat
  key : Nat
  bundle : Nat
  bay : Nat
  proof : Bool
  deriving DecidableEq, Repr

/-- The reject standing at g that is still to be diverted (R124). `reject = none` is a stray, whose pocket index a
GATE_FAIL carries (R133). -/
structure GateDue where
  reject : Option Reject
  pocket : Option Nat
  deriving DecidableEq, Repr

/-- A pending confirm (R129); `reject = none` for a stray. -/
structure Confirm where
  reject : Option Reject
  seen : Nat
  deriving DecidableEq, Repr

/-- State of the disposition unit (R135). -/
structure Disposition where
  gateDue : Option GateDue
  /-- pending confirm list, oldest first -/
  confirms : List Confirm
  proofPending : Bool
  deriving DecidableEq, Repr

/-! ## Bundle unit (chapter 9) -/

/-- Bundle states (R136). -/
inductive BundleState
  | filling
  | sealed
  | closing
  deriving DecidableEq, Repr

/-- An entry of the bundle table (R136). The counts of delivered, off-sequence and suspect records are 0..16,777,215
(log 24). -/
structure Bundle where
  number : Nat
  bay : Nat
  state : BundleState
  short : Bool
  inFlight : Nat
  inLane : Nat
  delivered : Nat
  offSequence : Nat
  suspects : Nat
  /-- `none` is stopped, else the time elapsed in ms -/
  tieTimer : Option Nat
  deriving DecidableEq, Repr

/-- State of the bundle unit (R149): the table in ascending order of bundle number, and the bay map. -/
structure BundleUnit where
  table : List Bundle
  bays : Vector (Option Nat) 16
  deriving DecidableEq, Repr

/-! ## Link unit (chapter 11) -/

/-- A message in a transmit queue (R165): its kind, number and payload. `speed` is the speed code that the port takes when
the last character of this ACCEPT of a SET SPEED has been sent (R164). -/
structure Frame where
  kind : Byte
  num : Byte
  payload : List Byte
  speed : Option (Fin 7)
  deriving DecidableEq, Repr

/-- A receiver (R166, R167): in a message it holds the characters taken and the gap since the last one, in ms. -/
inductive Receiver
  | idle
  | inMessage (chars : List Byte) (gap : Nat)
  deriving DecidableEq, Repr

/-- State of one port (R174). -/
structure PortState where
  speed : Fin 7
  receiver : Receiver
  /-- transmit queue, head first; the head is the message being sent (log 5) -/
  tx : List Frame
  deriving DecidableEq, Repr

/-- State of the link unit. `dropped` lists, oldest first, the ports for whose dropped messages LINK_OVERFLOW is still to
be taken within the running event; it is empty between commands (the model's own, log 4). -/
structure LinkUnit where
  ports : PerPort PortState
  dropped : List Port
  deriving DecidableEq, Repr

/-- The state of the part, with the queue of waiting commands. -/
structure State where
  /-- commands waiting, first in, first out -/
  pending : List Instr
  pins : Pins
  reg : Registration
  lines : Lines
  run : RunControl
  setup : Setup
  store : Store
  entry : EntryUnit
  /-- position entries 0..g; no entry before the first SET GEOMETRY (R92) -/
  track : List TrackEntry
  /-- call-outstanding flags (R81) -/
  callOutstanding : Vector Bool 12
  carrier : CarrierUnit
  verify : VerifyUnit
  disp : Disposition
  bundles : BundleUnit
  fault : FaultUnit
  link : LinkUnit
  /-- free values taken so far (the model's own, log 19, log 24) -/
  freeTaken : Nat
  deriving DecidableEq, Repr

/-! ## Setters, one for each block -/

/-- The state with its `pending` replaced. -/
def State.setPending (s : State) (x : List Instr) : State := { s with pending := x }

/-- The state with its `pins` replaced. -/
def State.setPins (s : State) (x : Pins) : State := { s with pins := x }

/-- The state with its `reg` replaced. -/
def State.setReg (s : State) (x : Registration) : State := { s with reg := x }

/-- The state with its `lines` replaced. -/
def State.setLines (s : State) (x : Lines) : State := { s with lines := x }

/-- The state with its `run` replaced. -/
def State.setRun (s : State) (x : RunControl) : State := { s with run := x }

/-- The state with its `setup` replaced. -/
def State.setSetup (s : State) (x : Setup) : State := { s with setup := x }

/-- The state with its `store` replaced. -/
def State.setStore (s : State) (x : Store) : State := { s with store := x }

/-- The state with its `entry` replaced. -/
def State.setEntry (s : State) (x : EntryUnit) : State := { s with entry := x }

/-- The state with its `track` replaced. -/
def State.setTrack (s : State) (x : List TrackEntry) : State := { s with track := x }

/-- The state with its `callOutstanding` replaced. -/
def State.setCallOutstanding (s : State) (x : Vector Bool 12) : State := { s with callOutstanding := x }

/-- The state with its `carrier` replaced. -/
def State.setCarrier (s : State) (x : CarrierUnit) : State := { s with carrier := x }

/-- The state with its `verify` replaced. -/
def State.setVerify (s : State) (x : VerifyUnit) : State := { s with verify := x }

/-- The state with its `disp` replaced. -/
def State.setDisp (s : State) (x : Disposition) : State := { s with disp := x }

/-- The state with its `bundles` replaced. -/
def State.setBundles (s : State) (x : BundleUnit) : State := { s with bundles := x }

/-- The state with its `fault` replaced. -/
def State.setFault (s : State) (x : FaultUnit) : State := { s with fault := x }

/-- The state with its `link` replaced. -/
def State.setLink (s : State) (x : LinkUnit) : State := { s with link := x }

/-- The state with its `freeTaken` replaced. -/
def State.setFreeTaken (s : State) (x : Nat) : State := { s with freeTaken := x }

/-! ## Values after power-on -/

/-- R19. The tolerance in use has no stated value while no window has opened: 0 (DESIGN CHOICE, log 12). -/
def Registration.powerOn : Registration where
  remainder := 0
  phase := 0
  issuedTo := 0
  pocketIndex := 0
  state := .unregistered
  goodMarks := 0
  window := { isOpen := false, markSeen := false, tolerance := 0 }
  faultWindow := none
  chainClearPending := false

/-- R19: every line pulse released. -/
def Lines.released : Lines where
  calls := Vector.replicate 12 none
  apply := none
  dump := none
  gate := none

/-- The geometry items at power-on (R31): the unset ones are reported as 0 (R173). -/
def Geometry.powerOn : Geometry where
  divider := 1
  pitch := 0
  chainLength := 0
  tolerance := 0
  applicator := 0
  verify := none
  wrap := 0
  gate := 0
  depth := 0
  dumpPhase := 0
  dumpWidth := 0
  applyPhase := 0
  applyWidth := 0
  gatePhase := 0
  gateWidth := 0
  bays := 4
  remakeLimit := 2

/-- R60. -/
def Store.powerOn : Store where
  jobNumber := none
  jobState := .noJob
  loadMark := 0
  queue := []
  lane := []
  map := []
  textUsed := 0
  backlog := []

/-- R74. -/
def EntryUnit.powerOn : EntryUnit where
  lockout := []
  nextTag := 1
  starving := false
  itemUnavailable := false
  result := .noResult
  awaitingBay := none

/-- R113. -/
def CarrierUnit.powerOn : CarrierUnit where
  mode := .run
  queue := []
  printedCount := 0
  nextOrder := 1

/-- R135. -/
def Disposition.powerOn : Disposition where
  gateDue := none
  confirms := []
  proofPending := false

/-- R149. -/
def BundleUnit.powerOn : BundleUnit where
  table := []
  bays := Vector.replicate 16 none

/-- The default action and steering of each kind, kinds 1 to 22 in order (R150). -/
def defaultActions : Vector (Action × Steering) 22 :=
  #v[(.reject, .none), (.reject, .none), (.reject, .alarm), (.reject, .none), (.reject, .none), (.reject, .slow),
     (.reject, .alarm), (.reject, .none), (.reject, .none), (.reject, .alarm), (.note, .alarm), (.stop, .alarm),
     (.stop, .alarm), (.stop, .alarm), (.stop, .alarm), (.note, .none), (.stop, .alarm), (.note, .none),
     (.note, .none), (.stop, .alarm), (.note, .slow), (.note, .alarm)]

/-- R161: STOP and STATE. -/
def Subscription.powerOn : Subscription where
  stop := true
  reject := false
  state := true

/-- R163. -/
def FaultUnit.powerOn : FaultUnit where
  actions := defaultActions
  stopLatch := false
  alarm := false
  slow := false
  maskAlarm := false
  maskSlow := false
  stopLog := none
  rejectLog := none
  counts := Vector.replicate 22 0
  subs := { line := .powerOn, address := .powerOn, carrier := .powerOn, delivery := .powerOn }

/-- R174. -/
def PortState.powerOn : PortState where
  speed := Config.powerOnSpeed
  receiver := .idle
  tx := []

/-- R174 for every port; nothing dropped. -/
def LinkUnit.powerOn : LinkUnit where
  ports := { line := .powerOn, address := .powerOn, carrier := .powerOn, delivery := .powerOn }
  dropped := []

/-- The part right after power-on, with no command waiting. The detect lines have no stated level: inactive (DESIGN
CHOICE, log 13). -/
def State.reset : State where
  pending := []
  pins := { detectA := 0, detectB := 0 }
  reg := .powerOn
  lines := .released
  run := { gate := .closed, claim := none }
  setup := { geometry := none, stations := Vector.replicate 12 none }
  store := .powerOn
  entry := .powerOn
  track := []
  callOutstanding := Vector.replicate 12 false
  carrier := .powerOn
  verify := { mismatchRun := 0 }
  disp := .powerOn
  bundles := .powerOn
  fault := .powerOn
  link := .powerOn
  freeTaken := 0

end Sys2Proof.Machine
end

