-- ==== Sys2Proof/Machine/Operands.lean ====
section
/-! DEFINITION. Payload fields: how numbers, address lines, a geometry, a station entry and a LOAD are laid out in the bytes
of a message (spec/11 section 11.8), read and written. -/

namespace Sys2Proof.Machine

/-- `n` as `k` bytes, most significant byte first (R165). -/
def be : Nat → Nat → List Byte
  | 0, _ => []
  | k + 1, n => be k (n / 256) ++ [BitVec.ofNat 8 n]

/-- The number that bytes spell, most significant byte first (R165). -/
def ofBytes (bytes : List Byte) : Nat := bytes.foldl (fun n b => n * 256 + b.toNat) 0

/-- The number in the field of `size` bytes at offset `off`. -/
def field (payload : List Byte) (off size : Nat) : Nat := ofBytes ((payload.drop off).take size)

/-- The entry index a number names, 0..11. -/
def stationIndex (n : Nat) : Option (Fin 12) := if h : n < 12 then some ⟨n, h⟩ else none

/-- All station entries, S0 first. -/
def allStations : List (Fin 12) := [0, 1, 2, 3, 4, 5, 6, 7, 8, 9, 10, 11]

/-- Every element of a fixed-size row put through `f`. -/
def mapVector {α β : Type} {n : Nat} (f : α → β) (v : Vector α n) : Vector β n :=
  ⟨⟨v.toArray.toList.map f⟩, by simp⟩

/-! ## Address lines and LOAD -/

/-- Each line as its length byte followed by its characters (LOAD and PRINT layouts). -/
def linesBytes (lines : List (List Byte)) : List Byte := lines.flatMap fun l => BitVec.ofNat 8 l.length :: l

/-- `n` lines that must end exactly at the end of the bytes (R48, check 2). -/
def parseLines : Nat → List Byte → Option (List (List Byte))
  | 0, [] => some []
  | 0, _ :: _ => none
  | _ + 1, [] => none
  | n + 1, len :: rest =>
    if rest.length < len.toNat then none
    else (parseLines n (rest.drop len.toNat)).map (rest.take len.toNat :: ·)

/-- A LOAD payload as the record it makes, with attempt 0 (R49); none is BAD_LENGTH (R48, check 2). -/
def parseLoad (payload : List Byte) : Option Record :=
  if payload.length < 10 then none
  else (parseLines (field payload 9 1) (payload.drop 10)).map fun lines =>
    { key := field payload 0 4, bundle := field payload 4 3, items := BitVec.ofNat 16 (field payload 7 2),
      attempt := 0, lines := lines }

/-- The ranges of R48, check 3. -/
def recordInRange (r : Record) : Bool :=
  r.key ≠ 0 && r.bundle ≠ 0 && r.items ≠ 0 && 1 ≤ r.lines.length && r.lines.length ≤ 6 &&
    r.lines.all fun l => l.length ≤ 36 && l.all fun c => 32 ≤ c.toNat && c.toNat ≤ 126

/-- A record's text size: its characters, without the length bytes (R46). -/
def textSize (r : Record) : Nat := (r.lines.map List.length).sum

/-! ## Geometry -/

/-- The 26 bytes of a SET GEOMETRY, as STATUS offsets 41..66; a verify position of 0 is none. -/
def parseGeometry (payload : List Byte) : Option Geometry :=
  if payload.length ≠ 26 then none
  else some
    { divider := field payload 0 1, pitch := field payload 1 2, chainLength := field payload 3 2,
      tolerance := field payload 5 2, applicator := field payload 7 1,
      verify := if field payload 8 1 = 0 then none else some (field payload 8 1),
      wrap := field payload 9 1, gate := field payload 10 1, depth := field payload 11 1,
      dumpPhase := field payload 12 2, dumpWidth := field payload 14 2,
      applyPhase := field payload 16 2, applyWidth := field payload 18 2,
      gatePhase := field payload 20 2, gateWidth := field payload 22 2,
      bays := field payload 24 1, remakeLimit := field payload 25 1 }

/-- A geometry as STATUS offsets 41..66. -/
def geometryBytes (g : Geometry) : List Byte :=
  be 1 g.divider ++ be 2 g.pitch ++ be 2 g.chainLength ++ be 2 g.tolerance ++ be 1 g.applicator ++
    be 1 (g.verify.getD 0) ++ be 1 g.wrap ++ be 1 g.gate ++ be 1 g.depth ++
    be 2 g.dumpPhase ++ be 2 g.dumpWidth ++ be 2 g.applyPhase ++ be 2 g.applyWidth ++
    be 2 g.gatePhase ++ be 2 g.gateWidth ++ be 1 g.bays ++ be 1 g.remakeLimit

/-- Each item in its own range, and the items in agreement with one another (R31, R32). -/
def geometryInRange (g : Geometry) : Bool :=
  [1, 2, 4, 8].contains g.divider &&
    (16 ≤ g.pitch && g.pitch ≤ 4096) && (8 ≤ g.chainLength && g.chainLength ≤ 1024) &&
    g.tolerance ≤ g.pitch / 4 &&
    (2 ≤ g.applicator && g.applicator ≤ 64) && (4 ≤ g.gate && g.gate ≤ 250) &&
    (g.applicator < g.wrap && g.wrap < g.gate) &&
    (match g.verify with
      | none => true
      | some v => g.applicator < v && v < g.wrap && v + 2 ≤ g.gate) &&
    (g.applicator ≤ g.depth && g.depth ≤ 64) &&
    (1 ≤ g.dumpPhase && g.dumpPhase < g.pitch && 1 ≤ g.dumpWidth && g.dumpPhase + g.dumpWidth ≤ g.applyPhase) &&
    (1 ≤ g.applyPhase && g.applyPhase < g.pitch && 1 ≤ g.applyWidth && g.applyPhase + g.applyWidth ≤ g.pitch) &&
    (1 ≤ g.gatePhase && g.gatePhase < g.pitch && 1 ≤ g.gateWidth && g.gatePhase + g.gateWidth ≤ g.pitch) &&
    (2 ≤ g.bays && g.bays ≤ 16) && g.remakeLimit ≤ 3

/-! ## Station entries -/

/-- The fields of a SET STATION before their check: entry index, then the nine bytes of a station entry without its
flags. -/
structure StationFields where
  index : Nat
  position : Nat
  item : Nat
  /-- the alternate's byte, 255 for none -/
  alternate : Nat
  callPhase : Nat
  callWidth : Nat
  detectPhase : Nat
  deriving DecidableEq, Repr

/-- The ten bytes of a SET STATION. -/
def parseStation (payload : List Byte) : Option StationFields :=
  if payload.length ≠ 10 then none
  else some
    { index := field payload 0 1, position := field payload 1 1, item := field payload 2 1,
      alternate := field payload 3 1, callPhase := field payload 4 2, callWidth := field payload 6 2,
      detectPhase := field payload 8 2 }

/-- A station entry agrees with a geometry (R32, R34): position, item, and its phases within the pitch. -/
def stationAgrees (g : Geometry) (e : Station) : Bool :=
  (1 ≤ e.position && e.position < g.applicator) && e.item ≤ 15 &&
    (1 ≤ e.callPhase && e.callPhase < g.pitch) && 1 ≤ e.callWidth &&
    e.callPhase + e.callWidth ≤ e.detectPhase && e.detectPhase < g.pitch

/-- R34's fourth check: the entry index and the entry to write, with its on/off field on; none is OUT_OF_RANGE. -/
def checkedStation (g : Geometry) (f : StationFields) : Option (Fin 12 × Station) :=
  match stationIndex f.index with
  | none => none
  | some s =>
    let e : Station :=
      { position := f.position, item := f.item, alternate := stationIndex f.alternate, callPhase := f.callPhase,
        callWidth := f.callWidth, detectPhase := f.detectPhase, on := true }
    if stationAgrees g e && (f.alternate == 255 || (f.alternate < 12 && f.alternate ≠ f.index)) then some (s, e)
    else none

/-! ## Lockout lists -/

/-- Two-byte pocket indices; none for an odd number of bytes. -/
def parseIndices : List Byte → Option (List Nat)
  | [] => some []
  | [_] => none
  | a :: b :: rest => (parseIndices rest).map (ofBytes [a, b] :: ·)

/-- A number put into a rising list, held once (R37). -/
def insertOnce (n : Nat) : List Nat → List Nat
  | [] => [n]
  | m :: rest => if n < m then n :: m :: rest else if n = m then m :: rest else m :: insertOnce n rest

/-- The set of the indices of a list, each held once (R37). -/
def indexSet (l : List Nat) : List Nat := l.foldr insertOnce []

end Sys2Proof.Machine
end

