-- ==== Sys2Proof/Machine/Codes.lean ====
section
/-! DEFINITION. The codes of spec/11: port and fault kind numbers, refusal reasons, and the value codes of STATUS, the
notices and the read replies. -/

namespace Sys2Proof.Machine

/-- Ports are numbered 0 to 3 (R170). -/
def portNumber : Port → Nat
  | .line => 0
  | .address => 1
  | .carrier => 2
  | .delivery => 3

/-- All ports in the order of their numbers. -/
def allPorts : List Port := [.line, .address, .carrier, .delivery]

/-- Refusal reasons (R170). -/
inductive Reason
  | wrongPort
  | notHolder
  | claimHeld
  | wrongState
  | outOfRange
  | queueFull
  | textFull
  | order
  | duplicate
  | unknownKey
  | late
  | badLength
  | unknownKind
  | busy
  deriving DecidableEq, Repr

/-- Reason codes (R170). -/
def reasonCode : Reason → Nat
  | .wrongPort => 0x01
  | .notHolder => 0x02
  | .claimHeld => 0x03
  | .wrongState => 0x04
  | .outOfRange => 0x05
  | .queueFull => 0x06
  | .textFull => 0x07
  | .order => 0x08
  | .duplicate => 0x09
  | .unknownKey => 0x0A
  | .late => 0x0B
  | .badLength => 0x0C
  | .unknownKind => 0x0D
  | .busy => 0x0E

/-- The 22 fault kinds in the order of their numbers (R150). -/
def allKinds : List FaultKind :=
  [.feedMiss, .feedDouble, .feedSensor, .feedExtra, .carrierVoid, .carrierStarve, .carrierMismatch, .carrierUnread,
   .wrapFault, .strayPiece, .homeFault, .registrationLost, .carrierSequence, .carrierOverrun, .gateFail, .gateStray,
   .deliveryFault, .strayReport, .linkError, .linkOverflow, .queueStarve, .itemUnavailable]

/-- A kind's place in the action table and the counts: its number less one (R150). -/
def kindIndex : FaultKind → Fin 22
  | .feedMiss => 0
  | .feedDouble => 1
  | .feedSensor => 2
  | .feedExtra => 3
  | .carrierVoid => 4
  | .carrierStarve => 5
  | .carrierMismatch => 6
  | .carrierUnread => 7
  | .wrapFault => 8
  | .strayPiece => 9
  | .homeFault => 10
  | .registrationLost => 11
  | .carrierSequence => 12
  | .carrierOverrun => 13
  | .gateFail => 14
  | .gateStray => 15
  | .deliveryFault => 16
  | .strayReport => 17
  | .linkError => 18
  | .linkOverflow => 19
  | .queueStarve => 20
  | .itemUnavailable => 21

/-- A kind's number, 1 to 22 (R150). -/
def kindNumber (k : FaultKind) : Nat := (kindIndex k).val + 1

/-- The kind a number names (R150, R152). -/
def kindOfNumber (n : Nat) : Option FaultKind := if n = 0 then none else allKinds[n - 1]?

/-- The actions allowed for a kind (R150). -/
def actionAllowed (k : FaultKind) (a : Action) : Bool :=
  match k with
  | .feedMiss | .feedDouble | .feedSensor | .feedExtra | .carrierUnread | .wrapFault => true
  | .carrierVoid | .carrierStarve | .carrierMismatch | .strayPiece => a == .reject || a == .stop
  | .homeFault | .gateStray | .linkError => a == .off || a == .note || a == .stop
  | .registrationLost | .carrierSequence | .carrierOverrun | .gateFail | .deliveryFault | .linkOverflow => a == .stop
  | .strayReport | .queueStarve | .itemUnavailable => a == .off || a == .note

/-- Action codes of SET ACTION and READ COUNTS. -/
def actionCode : Action → Nat
  | .off => 0
  | .note => 1
  | .reject => 2
  | .stop => 3

/-- The action a code names. -/
def actionOfCode (n : Nat) : Option Action := [Action.off, .note, .reject, .stop][n]?

/-- Steering codes of SET ACTION and READ COUNTS. -/
def steeringCode : Steering → Nat
  | .none => 0
  | .alarm => 1
  | .slow => 2

/-- The steering a code names. -/
def steeringOfCode (n : Nat) : Option Steering := [Steering.none, .alarm, .slow][n]?

/-- Registration state codes. -/
def regCode : RegState → Nat
  | .unregistered => 0
  | .seeking => 1
  | .registered => 2
  | .lost => 3

/-- Entry gate state codes. -/
def gateCode : GateState → Nat
  | .closed => 0
  | .opened => 1
  | .drain => 2
  | .halt => 3

/-- Codes of the causes in CARRIER HOLD. -/
def holdCauseCode : HoldCause → Nat
  | .sequence => 0
  | .overrun => 1
  | .lost => 2

/-- Carrier state codes: 0 RUN, 1 to 3 HOLD with its cause. -/
def carrierCode : CarrierMode → Nat
  | .run => 0
  | .hold c => holdCauseCode c + 1

/-- Job state codes. -/
def jobCode : JobState → Nat
  | .noJob => 0
  | .loading => 1
  | .ended => 2
  | .aborting => 3

/-- Entry result codes. -/
def entryResultCode : EntryResult → Nat
  | .noResult => 0
  | .notRegistered => 1
  | .locked => 2
  | .gate => 3
  | .carrier => 4
  | .noRecord => 5
  | .backlog => 6
  | .itemWait => 7
  | .bayWait => 8
  | .entered => 9

/-- Reasons of OFF SEQUENCE (R57). -/
inductive OffReason
  | limit
  | laneFull
  | short
  | abort
  | purge
  | suspect
  deriving DecidableEq, Repr

/-- OFF SEQUENCE reason codes. -/
def offReasonCode : OffReason → Nat
  | .limit => 0
  | .laneFull => 1
  | .short => 2
  | .abort => 3
  | .purge => 4
  | .suspect => 5

/-- The two logs (R157). -/
inductive LogClass
  | stop
  | reject
  deriving DecidableEq, Repr

/-- Log class codes. -/
def logClassCode : LogClass → Nat
  | .stop => 0
  | .reject => 1

/-- The log class a code names (R158, R159). -/
def logClassOfCode (n : Nat) : Option LogClass := [LogClass.stop, .reject][n]?

/-- Fault source type codes. -/
def sourceType : Source → Nat
  | .none => 0
  | .station _ => 1
  | .port _ => 2

/-- Fault source numbers; 0 for none. -/
def sourceNumber : Source → Nat
  | .none => 0
  | .station s => s.val
  | .port p => portNumber p

/-- Stray cause codes. -/
def strayCauseCode : StrayCause → Nat
  | .fed => 0
  | .purged => 1

/-- Feed result codes. -/
def feedResultCode : FeedResult → Nat
  | .pending => 0
  | .fed => 1
  | .missed => 2
  | .double => 3
  | .sensor => 4

/-- Codes of a piece's carrier state. -/
def fateCode : CarrierFate → Nat
  | .awaiting => 0
  | .applied => 1
  | .void => 2
  | .starved => 3

/-- Verify codes. -/
def verifyCode : VerifyValue → Nat
  | .pending => 0
  | .match_ => 1
  | .mismatch => 2
  | .unreadProvisional => 3
  | .unread => 4
  | .notChecked => 5

/-- Wrap codes: 0 OK, 1 to 3 FAULT with its cause. -/
def wrapCode : Option WrapCause → Nat
  | none => 0
  | some .seal => 1
  | some .cut => 2
  | some .film => 3

/-- The cause a WRAP FAULT names (R121). -/
def wrapCauseOfCode (n : Nat) : Option WrapCause := [WrapCause.seal, .cut, .film][n]?

/-- Source list codes. -/
def sourceListCode : SourceList → Nat
  | .queue => 0
  | .lane => 1

/-- Backlog marks. -/
def backlogCode : Option BacklogOutcome → Nat
  | none => 0
  | some .aborted => 1
  | some .short => 2

/-- Order state codes. -/
def orderStateCode : OrderState → Nat
  | .issued => 0
  | .printed => 1
  | .withdrawing => 2
  | .wastePending => 3
  | .waste => 4

/-- Bundle state codes. -/
def bundleStateCode : BundleState → Nat
  | .filling => 0
  | .sealed => 1
  | .closing => 2

/-- Yes or no. -/
def yesNo (b : Bool) : Nat := if b then 1 else 0

/-- An order's match code: the low 16 bits of its number (R93). -/
def matchCode (number : Nat) : Nat := number % 65536

end Sys2Proof.Machine
end

