-- ==== Sys2Proof/Machine/Flags.lean ====
section
/-! DEFINITION. Flag bytes and sets held as bits: the STATUS flag bytes, the subscription set, the line mask, item sets and
station sets (spec/11 section 11.8). -/

namespace Sys2Proof.Machine

/-- The number whose bit i is the i-th flag. A bit above the last flag is 0: the model's choice for the bits of a flag byte
that the layout does not assign (log 27). -/
def flagBits : List Bool → Nat
  | [] => 0
  | b :: rest => yesNo b + 2 * flagBits rest

/-- The items of a set, in ascending number (R45). -/
def itemsOf (items : BitVec 16) : List Nat := (List.range 16).filter fun i => items.getLsbD i

/-- A station added to a set of stations (R85). -/
def addStation (s : Fin 12) (x : BitVec 12) : BitVec 12 := x ||| (1#12 <<< s.val)

/-- A kind added to a fault set: bit k−1 for kind k (R79). -/
def addKind (k : FaultKind) (x : BitVec 24) : BitVec 24 := x ||| (1#24 <<< (kindIndex k).val)

/-- The set a SUBSCRIBE byte gives: bit 0 STOP, bit 1 REJECT, bit 2 STATE; none where it names any other class (R161). -/
def parseSubscription (b : Byte) : Option Subscription :=
  if b.toNat < 8 then some { stop := b.getLsbD 0, reject := b.getLsbD 1, state := b.getLsbD 2 } else none

/-- STATUS flags A (offset 5); bit 7 is not assigned and sent as 0 (log 27). -/
def flagsA (chainClear setupValid geometrySet stopLatch starving itemUnavailable proofPending : Bool) : Nat :=
  flagBits [chainClear, setupValid, geometrySet, stopLatch, starving, itemUnavailable, proofPending]

/-- STATUS flags B (offset 40); bits 4 to 7 are not assigned and sent as 0 (log 27). -/
def flagsB (alarm slow maskAlarm maskSlow : Bool) : Nat := flagBits [alarm, slow, maskAlarm, maskSlow]

end Sys2Proof.Machine
end

