-- ==== Sys2Proof/Machine/Messages.lean ====
section
/-! DEFINITION. The messages the part sends: replies (R170) and notices (spec/11, notice payloads), and the characters a
message goes out as, with its check byte (R165). -/

namespace Sys2Proof.Machine

/-! ## The check byte and the frame (R165) -/

/-- One shift of the CRC register: left by one, with 07h added when a 1 leaves the top. -/
def crcShift (r : Byte) : Byte := if r.msb then (r <<< 1) ^^^ 0x07#8 else r <<< 1

/-- The register after one byte. -/
def crcByte (r b : Byte) : Byte :=
  crcShift (crcShift (crcShift (crcShift (crcShift (crcShift (crcShift (crcShift (r ^^^ b))))))))

/-- The check byte over a message's bytes: CRC-8, polynomial 07h, initial value 0. -/
def crc8 (bytes : List Byte) : Byte := bytes.foldl crcByte 0

/-- A message's characters before the check byte: kind, number, length, payload. -/
def frameBytes (f : Frame) : List Byte := f.kind :: f.num :: BitVec.ofNat 8 f.payload.length :: f.payload

/-- The characters a message is sent as: the marker bit is 1 in the kind character alone (R164, log 18). -/
def frameCharacters (f : Frame) : List Character :=
  { data := f.kind, marker := true, stopGood := true } ::
    ((f.num :: BitVec.ofNat 8 f.payload.length :: f.payload) ++ [crc8 (frameBytes f)]).map
      fun b => { data := b, marker := false, stopGood := true }

/-! ## Replies (R170) -/

/-- ACCEPT with a payload, empty but for the read requests and STATUS. -/
def acceptFrame (num : Byte) (payload : List Byte) : Frame := { kind := 0x60, num := num, payload := payload, speed := none }

/-- The ACCEPT of a SET SPEED, whose sending brings the speed (R164). -/
def acceptSpeedFrame (num : Byte) (speed : Fin 7) : Frame := { kind := 0x60, num := num, payload := [], speed := some speed }

/-- REFUSE with its reason. -/
def refuseFrame (num : Byte) (r : Reason) : Frame :=
  { kind := 0x61, num := num, payload := be 1 (reasonCode r), speed := none }

/-- REFUSE CLAIM_HELD, naming the holder port (R27). -/
def refuseClaimHeldFrame (num : Byte) (holder : Port) : Frame :=
  { kind := 0x61, num := num, payload := be 1 (reasonCode .claimHeld) ++ be 1 (portNumber holder), speed := none }

/-- CHECK FAIL (R168). -/
def checkFailFrame (num : Byte) : Frame := { kind := 0x62, num := num, payload := [], speed := none }

/-! ## Notices -/

/-- A notice: request number 0 (R165). -/
def notice (kind : Byte) (payload : List Byte) : Frame := { kind := kind, num := 0, payload := payload, speed := none }

/-- The changes a STATE notice reports, each with its new value (R162). -/
inductive StateChange
  | registration (r : RegState)
  | chainClear (isSet : Bool)
  | gate (g : GateState)
  | carrier (c : CarrierMode)
  | job (j : JobState) (number : Option Nat)
  | restart
  deriving DecidableEq, Repr

/-- STATE: change, new value, job number for a change of job state and 0 otherwise. -/
def stateFrame : StateChange → Frame
  | .registration r => notice 0x70 (be 1 0 ++ be 1 (regCode r) ++ be 2 0)
  | .chainClear b => notice 0x70 (be 1 1 ++ be 1 (yesNo b) ++ be 2 0)
  | .gate g => notice 0x70 (be 1 2 ++ be 1 (gateCode g) ++ be 2 0)
  | .carrier c => notice 0x70 (be 1 3 ++ be 1 (carrierCode c) ++ be 2 0)
  | .job j n => notice 0x70 (be 1 4 ++ be 1 (jobCode j) ++ be 2 (n.getD 0))
  | .restart => notice 0x70 (be 1 5 ++ be 1 0 ++ be 2 0)

/-- A fault record's 16 bytes: an absent tag, key or bundle is 0, an absent pocket index FFFFh, an absent position FFh. -/
def faultRecordBytes (f : FaultRecord) : List Byte :=
  be 1 (kindNumber f.kind) ++ be 1 (sourceType f.source) ++ be 1 (sourceNumber f.source) ++ be 2 (f.tag.getD 0) ++
    be 4 (f.key.getD 0) ++ be 3 (f.bundle.getD 0) ++ be 2 (f.pocket.getD 0xFFFF) ++ be 1 (f.position.getD 0xFF) ++
    be 1 (regCode f.reg)

/-- ALERT: log class and first record (R157). -/
def alertFrame (c : LogClass) (f : FaultRecord) : Frame := notice 0x71 (be 1 (logClassCode c) ++ faultRecordBytes f)

/-- CLAIM EXPIRED (R29). -/
def claimExpiredFrame : Frame := notice 0x72 []

/-- PROOF DONE (R134): 0 CONFIRMED, 1 FAILED. -/
def proofDoneFrame (tag : Nat) (failed : Bool) : Frame := notice 0x73 (be 2 tag ++ be 1 (yesNo failed))

/-- PRINT (R72, R96). -/
def printFrame (number : Nat) (r : Record) : Frame :=
  notice 0x80 (be 3 number ++ be 4 r.key ++ be 2 (matchCode number) ++ be 1 r.lines.length ++ linesBytes r.lines)

/-- WITHDRAW ORDER (R107). -/
def withdrawOrderFrame (number : Nat) : Frame := notice 0x81 (be 3 number)

/-- CARRIER HOLD (R108). -/
def carrierHoldFrame (c : HoldCause) : Frame := notice 0x82 (be 1 (holdCauseCode c))

/-- PIECE (R126). -/
def pieceFrame (tag key bundle bay : Nat) : Frame := notice 0x90 (be 2 tag ++ be 4 key ++ be 3 bundle ++ be 1 bay)

/-- SUSPECT (R131). -/
def suspectFrame (tag bundle bay : Nat) : Frame := notice 0x91 (be 2 tag ++ be 3 bundle ++ be 1 bay)

/-- BREAK (R141). -/
def breakFrame (bundle bay delivered : Nat) : Frame := notice 0x92 (be 3 bundle ++ be 1 bay ++ be 3 delivered)

/-- How a record's life ends (R56). -/
inductive RecordEnd
  | delivered (tag : Nat)
  | offSequence (reason : OffReason)
  | aborted
  deriving DecidableEq, Repr

/-- The outcome notice of a record: DELIVERED, OFF SEQUENCE or ABORTED (R56). -/
def outcomeFrame (r : Record) : RecordEnd → Frame
  | .delivered tag => notice 0xA0 (be 4 r.key ++ be 3 r.bundle ++ be 2 tag ++ be 1 r.attempt)
  | .offSequence reason => notice 0xA1 (be 4 r.key ++ be 3 r.bundle ++ be 1 (offReasonCode reason))
  | .aborted => notice 0xA2 (be 4 r.key ++ be 3 r.bundle)

/-- BUNDLE DONE (R143). -/
def bundleDoneFrame (bundle delivered offSequence : Nat) : Frame :=
  notice 0xA3 (be 3 bundle ++ be 3 delivered ++ be 3 offSequence)

/-- BUNDLE EMPTY (R141). -/
def bundleEmptyFrame (bundle : Nat) : Frame := notice 0xA4 (be 3 bundle)

/-- JOB COMPLETE (R44). -/
def jobCompleteFrame (number : Option Nat) (aborted : Bool) : Frame :=
  notice 0xA5 (be 2 (number.getD 0) ++ be 1 (yesNo aborted))

end Sys2Proof.Machine
end

