-- ==== Sys2Proof/Machine/Ops.lean ====
section
/-! DEFINITION. The named operations over the shared structures: ports and transmit queues, the piece track, the station
table, the bundle table and the carrier queue. -/

namespace Sys2Proof.Machine

/-! ## Ports and transmit queues -/

/-- The value a row holds for a port. -/
def portGet {α : Type} (x : PerPort α) : Port → α
  | .line => x.line
  | .address => x.address
  | .carrier => x.carrier
  | .delivery => x.delivery

/-- The row with one port's value replaced. -/
def portSet {α : Type} (x : PerPort α) (p : Port) (a : α) : PerPort α :=
  match p with
  | .line => { x with line := a }
  | .address => { x with address := a }
  | .carrier => { x with carrier := a }
  | .delivery => { x with delivery := a }

/-- The state of a port. -/
def portState (p : Port) (s : State) : PortState := portGet s.link.ports p

/-- The state with one port's state replaced. -/
def setPortState (p : Port) (x : PortState) (s : State) : State :=
  s.setLink { s.link with ports := portSet s.link.ports p x }

/-- A port's transmit queue, head first (R171). -/
def txQueue (p : Port) (s : State) : List Frame := (portState p s).tx

/-- A queue with a free place is one that holds fewer than 32 messages (R171). -/
def txHasRoom (p : Port) (s : State) : Bool := (txQueue p s).length < Config.txCapacity

/-- A message offered to a port's transmit queue (R171): appended at the tail, or dropped where the queue holds 32, with a
LINK_OVERFLOW still to be taken for the port. -/
def post (p : Port) (f : Frame) (s : State) : State :=
  if txHasRoom p s then setPortState p { portState p s with tx := txQueue p s ++ [f] } s
  else s.setLink { s.link with dropped := s.link.dropped ++ [p] }

/-- One message offered to several ports, in the order given. -/
def postTo (ports : List Port) (f : Frame) (s : State) : State := ports.foldl (fun s p => post p f s) s

/-- A port's subscription set (R161). -/
def subscription (p : Port) (s : State) : Subscription := portGet s.fault.subs p

/-- The ports subscribed to STATE, in the order of their numbers (R161, log 4). -/
def stateSubscribers (s : State) : List Port := allPorts.filter fun p => (subscription p s).state

/-- The ports subscribed to a log's class (R161). -/
def logSubscribers (c : LogClass) (s : State) : List Port :=
  allPorts.filter fun p =>
    match c with
    | .stop => (subscription p s).stop
    | .reject => (subscription p s).reject

/-- A STATE notice to every port subscribed to STATE (R162). -/
def postState (c : StateChange) (s : State) : State := postTo (stateSubscribers s) (stateFrame c) s

/-- The reply ACCEPT without a payload (R170). -/
def accept (p : Port) (num : Byte) (s : State) : State := post p (acceptFrame num []) s

/-- The reply ACCEPT with the payload of a read request or of STATUS (R170). -/
def acceptWith (p : Port) (num : Byte) (payload : List Byte) (s : State) : State := post p (acceptFrame num payload) s

/-- The reply REFUSE (R170). -/
def refuse (p : Port) (num : Byte) (r : Reason) (s : State) : State := post p (refuseFrame num r) s

/-! ## Taking a message -/

/-- The claim's expiry timer started again from 0, where the port is the holder (R29). -/
def restartClaimTimer (p : Port) (s : State) : State :=
  match s.run.claim with
  | some c => if c.holder = p then s.setRun { s.run with claim := some { c with elapsed := 0 } } else s
  | none => s

/-- A message is taken (R166, R168): the receiver of its port goes to IDLE, and the claim's expiry timer starts again from 0
where the port holds the claim (R29). -/
def beginMessage (p : Port) (s : State) : State :=
  restartClaimTimer p (setPortState p { portState p s with receiver := .idle } s)

/-! ## The entry gate -/

/-- The gate state changed, with its STATE notice; no notice where it stays (R20). -/
def changeGate (g : GateState) (s : State) : State :=
  if s.run.gate = g then s else postState (.gate g) (s.setRun { s.run with gate := g })

/-- The gate closed by a job's abort or completion: OPEN and DRAIN go to CLOSED (R26). -/
def closeGate (s : State) : State :=
  match s.run.gate with
  | .opened => changeGate .closed s
  | .drain => changeGate .closed s
  | .closed => s
  | .halt => s

/-! ## Setup -/

/-- The geometry items, the power-on ones before the first SET GEOMETRY (R31). -/
def geometryItems (s : State) : Geometry := s.setup.geometry.getD Geometry.powerOn

/-- A station entry, or none where it is empty (R31). -/
def stationAt (i : Fin 12) (s : State) : Option Station := s.setup.stations[i]

/-- The station table with one entry written or emptied. -/
def setStationEntry (i : Fin 12) (e : Option Station) (s : State) : State :=
  s.setSetup { s.setup with stations := s.setup.stations.set i e }

/-- One call-outstanding flag written (R81). -/
def setCallOutstanding (i : Fin 12) (b : Bool) (s : State) : State :=
  s.setCallOutstanding (s.callOutstanding.set i b)

/-! ## The piece track -/

/-- The entry at a position (R75). -/
def entryAt (p : Nat) (s : State) : Option TrackEntry := s.track[p]?

/-- The piece record at a position, where the entry there is a PIECE. -/
def pieceAt (p : Nat) (s : State) : Option Piece :=
  match s.track[p]? with
  | some (.piece x) => some x
  | _ => none

/-- The entry at a position replaced. -/
def setEntryAt (p : Nat) (e : TrackEntry) (s : State) : State := s.setTrack (s.track.set p e)

/-- The piece record at a position changed; nothing where there is none. -/
def updatePiece (p : Nat) (f : Piece → Piece) (s : State) : State :=
  match pieceAt p s with
  | some x => setEntryAt p (.piece (f x)) s
  | none => s

/-- The piece record of an entry. -/
def pieceOf : TrackEntry → Option Piece
  | .piece x => some x
  | _ => none

/-- The piece records of the track, from position 0 up: youngest first (R77). -/
def pieces (s : State) : List Piece := s.track.filterMap pieceOf

/-- The track holds no piece records (R44, R77). -/
def trackClear (s : State) : Bool := (pieces s).isEmpty

/-- An entry's pocket index, where it carries one (R75). -/
def entryPocket : TrackEntry → Option Nat
  | .empty pocket _ => pocket
  | .locked pocket _ => some pocket
  | .stray pocket _ _ => pocket
  | .piece x => some x.pocket
  | .gated pocket _ => some pocket

/-- The position, counted from `p`, and the piece record that an order belongs to: the piece whose carrier field names it
(R94). -/
def findOrderFrom (number : Nat) : Nat → List TrackEntry → Option (Nat × Piece)
  | _, [] => none
  | p, .piece x :: rest => if x.carrier = some number then some (p, x) else findOrderFrom number (p + 1) rest
  | p, _ :: rest => findOrderFrom number (p + 1) rest

/-- The position and piece record that an order belongs to (R94). -/
def orderOwner (number : Nat) (s : State) : Option (Nat × Piece) := findOrderFrom number 0 s.track

/-! ## The carrier queue -/

/-- The order with a number in the carrier queue (R97). -/
def findOrder (number : Nat) (s : State) : Option Order := s.carrier.queue.find? fun o => o.number == number

/-- An order's state changed, in its place. -/
def setOrderState (number : Nat) (x : OrderState) (s : State) : State :=
  s.setCarrier { s.carrier with
    queue := s.carrier.queue.map fun o => if o.number = number then { o with state := x } else o }

/-- An order taken out of the queue. -/
def removeOrder (number : Nat) (s : State) : State :=
  s.setCarrier { s.carrier with queue := s.carrier.queue.filter fun o => o.number ≠ number }

/-! ## The bundle table -/

/-- The entry of a bundle (R136). -/
def findBundle (number : Nat) (s : State) : Option Bundle := s.bundles.table.find? fun b => b.number == number

/-- A bundle's entry changed; nothing where it is not in the table (R138). -/
def updateBundle (number : Nat) (f : Bundle → Bundle) (s : State) : State :=
  s.setBundles { s.bundles with table := s.bundles.table.map fun b => if b.number = number then f b else b }

/-- A count of a bundle raised by one. R136 gives its range, 0..16,777,215, and no value beyond it: there the count takes a
free value (log 24). -/
def raiseCount (free : BitVec 24) (n : Nat) : Nat := if n < Config.bundleCountLimit then n + 1 else free.toNat

/-- A bundle's counts changed, with the free value that is next, which is then taken (R138, log 24). -/
def countBundle (number : Nat) (f : BitVec 24 → Bundle → Bundle) (s : State) : State :=
  (updateBundle number (f (Config.freeCount s.freeTaken)) s).setFreeTaken (s.freeTaken + 1)

/-- The numbers of the bundles in the table, in ascending order. -/
def bundleNumbers (s : State) : List Nat := s.bundles.table.map Bundle.number

/-- A bundle put into the table in ascending order of number (R148). -/
def insertBundle (b : Bundle) : List Bundle → List Bundle
  | [] => [b]
  | c :: rest => if b.number < c.number then b :: c :: rest else c :: insertBundle b rest

/-- A bundle's entry removed and its bay freed in the same step (R137). -/
def removeBundle (number : Nat) (s : State) : State :=
  s.setBundles
    { table := s.bundles.table.filter fun b => b.number ≠ number
      bays := mapVector (fun h => if h = some number then none else h) s.bundles.bays }

/-! ## The record map and the lists of the store -/

/-- The place of a held record (R45). -/
def placeOf (key : Nat) (s : State) : Option Place := (s.store.map.find? fun e => e.1 == key).map Prod.snd

/-- A map entry written in rising key order, replacing the key's earlier one. -/
def insertPlace (key : Nat) (x : Place) : List (Nat × Place) → List (Nat × Place)
  | [] => [(key, x)]
  | e :: rest =>
    if key < e.1 then (key, x) :: e :: rest
    else if key = e.1 then (key, x) :: rest
    else e :: insertPlace key x rest

/-- A record's place entered or changed in the record map (R45). -/
def setPlace (key : Nat) (x : Place) (s : State) : State :=
  s.setStore { s.store with map := insertPlace key x s.store.map }

/-- The records of the queue and of the lane without one key. -/
def removeWaiting (key : Nat) (s : State) : State :=
  s.setStore { s.store with
    queue := s.store.queue.filter fun r => r.key ≠ key
    lane := s.store.lane.filter fun r => r.key ≠ key }

/-- The backlog outcome a record is to receive, where it is in the backlog (R55). -/
def backlogOutcome (key : Nat) (s : State) : Option BacklogOutcome :=
  (s.store.backlog.find? fun e => e.1 == key).map Prod.snd

end Sys2Proof.Machine
end

