-- ==== Sys2Proof/Machine/Faults.lean ====
section
/-! DEFINITION. The fault unit: taking a fault (R151), the alert lines, the logs, the stop latch, and the LINK_OVERFLOW
faults of dropped messages (R171, R172). -/

namespace Sys2Proof.Machine

/-- The action the table holds for a kind at this moment (R151). -/
def actionOf (k : FaultKind) (s : State) : Action := (s.fault.actions[kindIndex k]).1

/-- The steering the table holds for a kind at this moment (R151). -/
def steeringOf (k : FaultKind) (s : State) : Steering := (s.fault.actions[kindIndex k]).2

/-- The kind count raised by one, unless it stands at 65535 (R151 step 2, R160). -/
def countFault (k : FaultKind) (s : State) : State :=
  let n := s.fault.counts[kindIndex k]
  if n < Config.countLimit then s.setFault { s.fault with counts := s.fault.counts.set (kindIndex k) (n + 1) } else s

/-- The alert latch of the kind's steering set, unless the mask suppresses the line (R151 step 3, R154). -/
def steerFault (k : FaultKind) (s : State) : State :=
  match steeringOf k s with
  | .none => s
  | .alarm => if s.fault.maskAlarm then s else s.setFault { s.fault with alarm := true }
  | .slow => if s.fault.maskSlow then s else s.setFault { s.fault with slow := true }

/-- The log of a class. -/
def logOf (c : LogClass) (s : State) : Option FaultLog :=
  match c with
  | .stop => s.fault.stopLog
  | .reject => s.fault.rejectLog

/-- The log of a class replaced. -/
def setLog (c : LogClass) (x : Option FaultLog) (s : State) : State :=
  match c with
  | .stop => s.setFault { s.fault with stopLog := x }
  | .reject => s.setFault { s.fault with rejectLog := x }

/-- A fault entered in a log (R157): captured with its ALERT where the log is empty, else the next count rises. -/
def enterLog (c : LogClass) (f : FaultRecord) (s : State) : State :=
  match logOf c s with
  | none => postTo (logSubscribers c s) (alertFrame c f) (setLog c (some { record := f, next := 0 }) s)
  | some l => setLog c (some { l with next := if l.next < Config.nextLimit then l.next + 1 else l.next }) s

/-- The stop latch set; from clear, the gate goes to HALT with its STATE notice (R24, R153). -/
def setStopLatch (s : State) : State :=
  if s.fault.stopLatch then s else changeGate .halt (s.setFault { s.fault with stopLatch := true })

/-- The log and stop steps of an action (R151 steps 4 and 5). -/
def logAndStop (a : Action) (f : FaultRecord) (s : State) : State :=
  match a with
  | .off => s
  | .note => s
  | .reject => enterLog .reject f s
  | .stop => setStopLatch (enterLog .stop f s)

/-- A fault taken by the fault unit (R151). The answer of step 6 is `actionOf`, read before. -/
def raise (f : FaultRecord) (s : State) : State :=
  match actionOf f.kind s with
  | .off => s
  | a => logAndStop a f (steerFault f.kind (countFault f.kind s))

/-- A fault that carries a source and nothing else, with the registration state as it stands. -/
def plainFault (k : FaultKind) (src : Source) (s : State) : FaultRecord :=
  { kind := k, source := src, tag := none, key := none, bundle := none, pocket := none, position := none,
    reg := s.reg.state }

/-- LINK_OVERFLOW taken for a port (R172). -/
def raiseOverflow (p : Port) (s : State) : State := raise (plainFault .linkOverflow (.port p) s) s

/-- The LINK_OVERFLOW faults that stand to be taken, taken one at a time, oldest first. -/
def takeOverflows (s : State) : State :=
  s.link.dropped.foldl (fun s p => raiseOverflow p s) (s.setLink { s.link with dropped := [] })

/-- The end of an event: the LINK_OVERFLOW faults of its dropped messages are taken, and then those of the ALERT and STATE
notices which these drop; there the chain ends (R157, R162, log 4). -/
def settle (s : State) : State := takeOverflows (takeOverflows s)

/-- What exec answers for an event: its effect, and then the end of the event. -/
def answerEvent (effect : State → State) (s : State) : Host.Outcome State Fault Refusal := .next (settle (effect s))

/-- What exec answers for a message taken on a port: the message is taken, then it has its effect, then the event ends. -/
def answerMessage (p : Port) (effect : State → State) (s : State) : Host.Outcome State Fault Refusal :=
  .next (settle (effect (beginMessage p s)))

/-- LINK_ERROR on a port (R172). -/
def linkError (p : Port) (s : State) : State := raise (plainFault .linkError (.port p) s) s

/-- STRAY_REPORT with a port as its source (R111, R120, R121, R147, R169). -/
def strayReport (p : Port) (s : State) : State := raise (plainFault .strayReport (.port p) s) s

/-- A piece record marked by the answered action (R79). -/
def markPiece (k : FaultKind) (a : Action) (x : Piece) : Piece :=
  match a with
  | .off => x
  | .note => { x with faults := addKind k x.faults, firstKind := x.firstKind.or (some k) }
  | .reject => { x with faults := addKind k x.faults, firstKind := x.firstKind.or (some k), rejectDue := true }
  | .stop => { x with faults := addKind k x.faults, firstKind := x.firstKind.or (some k), rejectDue := true }

/-- A piece handed on again with a kind that leaves its fault set unchanged: the answer REJECT or STOP sets reject due
(R79, R121, R151, log 28). -/
def markRejectDue (a : Action) (x : Piece) : Piece :=
  match a with
  | .off => x
  | .note => x
  | .reject => { x with rejectDue := true }
  | .stop => { x with rejectDue := true }

/-- The details of a fault on the piece at a position (R86, R111, R120, R121). -/
def pieceFault (k : FaultKind) (src : Source) (p : Nat) (x : Piece) (s : State) : FaultRecord :=
  { kind := k, source := src, tag := some x.tag, key := some x.record.key, bundle := some x.record.bundle,
    pocket := some x.pocket, position := some p, reg := s.reg.state }

/-- A piece kind handed on with the piece at a position, which is marked by the answer in the way given (R79, R151). -/
def raiseMarking (mark : Action → Piece → Piece) (k : FaultKind) (src : Source) (p : Nat) (s : State) : State :=
  match pieceAt p s with
  | none => s
  | some x => updatePiece p (mark (actionOf k s)) (raise (pieceFault k src p x s) s)

/-- A piece kind handed on with the piece at a position and recorded on it (R79, R151). -/
def raiseOnPiece (k : FaultKind) (src : Source) (p : Nat) (s : State) : State := raiseMarking (markPiece k) k src p s

end Sys2Proof.Machine
end

