-- ==== Sys2Proof/Machine/Bundles.lean ====
section
/-! DEFINITION. The bundle unit (spec/09): sealing, the close check, TIED, JAM and the tie timer; and the store's
completion check (R44), which follows every removal of a bundle. -/

namespace Sys2Proof.Machine

/-! ## The completion check -/

/-- The job state and number changed, with the STATE notice that reports both (R40). -/
def changeJob (j : JobState) (number : Option Nat) (s : State) : State :=
  postState (.job j number) (s.setStore { s.store with jobState := j, jobNumber := number })

/-- Both episode flags end (R69, R73). -/
def endEpisodes (s : State) : State := s.setEntry { s.entry with starving := false, itemUnavailable := false }

/-- The job is being finished: ENDED or ABORTING. -/
def jobFinishing (s : State) : Bool := s.store.jobState = .ended ∨ s.store.jobState = .aborting

/-- The completion check is passed (R44). -/
def completionReady (s : State) : Bool :=
  jobFinishing s && s.store.queue.isEmpty && s.store.lane.isEmpty && trackClear s && s.bundles.table.isEmpty

/-- Job completion (R44, log 21): JOB COMPLETE, the job to NO_JOB with load mark 0, the gate; and the episodes end (R73). -/
def completeJob (s : State) : State :=
  let s := post .address (jobCompleteFrame s.store.jobNumber (s.store.jobState = .aborting)) s
  let s := changeJob .noJob none (s.setStore { s.store with loadMark := 0 })
  closeGate (endEpisodes s)

/-- The completion check (R44). -/
def completionCheck (s : State) : State := if completionReady s then completeJob s else s

/-! ## Closing a bundle -/

/-- A bundle is ready to close (R140). -/
def closeReady (b : Bundle) (s : State) : Bool :=
  b.state = .sealed && (s.store.queue.all fun r => r.bundle ≠ b.number) && b.inFlight = 0 && b.inLane = 0

/-- A ready bundle is emptied, with the completion check that follows its removal, or broken (R141). -/
def closeBundle (b : Bundle) (s : State) : State :=
  if b.delivered = 0 ∧ b.suspects = 0 then
    completionCheck (post .address (bundleEmptyFrame b.number) (removeBundle b.number s))
  else
    updateBundle b.number (fun b => { b with state := .closing, tieTimer := some 0 })
      (post .delivery (breakFrame b.number b.bay b.delivered) s)

/-- The close check of a bundle (R140, R141); nothing for a bundle that is not in the table. -/
def closeCheck (number : Nat) (s : State) : State :=
  match findBundle number s with
  | none => s
  | some b => if closeReady b s then closeBundle b s else s

/-- Close checks of several bundles, one after another; callers give them in ascending number (log 32). -/
def closeChecks (numbers : List Nat) (s : State) : State := numbers.foldl (fun s n => closeCheck n s) s

/-! ## Sealing -/

/-- A bundle sealed (R139): from FILLING its state becomes SEALED and the close check is made. -/
def sealBundle (number : Nat) (s : State) : State :=
  match findBundle number s with
  | none => s
  | some b =>
    if b.state = .filling then closeCheck number (updateBundle number (fun b => { b with state := .sealed }) s) else s

/-- Several bundles sealed, one after another; callers give them in ascending number (log 32). -/
def sealBundles (numbers : List Nat) (s : State) : State := numbers.foldl (fun s n => sealBundle n s) s

/-- A bundle's short flag set (R139). -/
def setShort (number : Nat) (s : State) : State := updateBundle number (fun b => { b with short := true }) s

/-! ## The tie -/

/-- DELIVERY_FAULT with a source and perhaps a bundle (R147). -/
def deliveryFault (src : Source) (bundle : Option Nat) (s : State) : State :=
  raise { plainFault .deliveryFault src s with bundle := bundle } s

/-- An accepted TIED (R143): the entry with its timer and bay leaves, BUNDLE DONE, the completion check. -/
def finishTie (b : Bundle) (s : State) : State :=
  completionCheck (post .address (bundleDoneFrame b.number b.delivered b.offSequence) (removeBundle b.number s))

/-- A well-formed TIED judged against its bundle's entry (R143, R144). -/
def judgeTie (number count : Nat) (s : State) : State :=
  match findBundle number s with
  | none => strayReport .delivery s
  | some b =>
    if b.state = .closing then
      if b.delivered ≤ count ∧ count ≤ b.delivered + b.suspects then finishTie b s
      else deliveryFault (.port .delivery) (some number) s
    else strayReport .delivery s

/-- TIED (R143, R144); on another port it is a stray report (R169). -/
def takeTied (p : Port) (payload : List Byte) (s : State) : State :=
  if p ≠ .delivery ∨ payload.length ≠ 6 ∨ field payload 0 3 = 0 then strayReport p s
  else judgeTie (field payload 0 3) (field payload 3 3) s

/-- The bundle that holds the bay a JAM names (R146); none for a free bay and for a code of no bay in use. -/
def jammedBundle (code : Nat) (s : State) : Option Nat :=
  if code < (geometryItems s).bays then (s.bundles.bays[code]?).join else none

/-- JAM (R146); on another port it is a stray report (R169). -/
def takeJam (p : Port) (payload : List Byte) (s : State) : State :=
  if p ≠ .delivery ∨ payload.length ≠ 1 then strayReport p s
  else deliveryFault (.port .delivery) (jammedBundle (field payload 0 1) s) s

/-- A bundle's tie timer runs. -/
def tieTimerRuns (b : Bundle) : Bool := b.tieTimer.isSome

/-- A running tie timer reaches 30,000 ms (R145): it stops, and DELIVERY_FAULT is handed on. Where none runs for the
bundle the expiry does not happen. -/
def expireTieTimer (number : Nat) (s : State) : State :=
  match findBundle number s with
  | none => s
  | some b =>
    if tieTimerRuns b then
      deliveryFault .none (some number) (updateBundle number (fun b => { b with tieTimer := none }) s)
    else s

/-! ## The commands -/

/-- TIED. -/
def execTied (p : Port) (_num : Byte) (payload : List Byte) (s : State) : Host.Outcome State Fault Refusal :=
  answerMessage p (takeTied p payload) s

/-- JAM. -/
def execJam (p : Port) (_num : Byte) (payload : List Byte) (s : State) : Host.Outcome State Fault Refusal :=
  answerMessage p (takeJam p payload) s

/-- TIE_TIMER_EXPIRY (log 2). -/
def execTieTimerExpiry (bundle : Nat) (s : State) : Host.Outcome State Fault Refusal :=
  answerEvent (expireTieTimer bundle) s

end Sys2Proof.Machine
end

