-- ==== Sys2Proof/Machine/Store.lean ====
section
/-! DEFINITION. The dispatch store (spec/03): jobs, LOAD, WITHDRAW, CLOSE SHORT, the outcome backlog, the end of a record's
life, and the return of purged records. -/

namespace Sys2Proof.Machine

/-! ## The end of a record's life -/

/-- A record's map entry removed and its text given back to the pool (R57 step 2). -/
def forgetRecord (r : Record) (s : State) : State :=
  s.setStore { s.store with
    map := s.store.map.filter fun e => e.1 ≠ r.key
    textUsed := s.store.textUsed - textSize r }

/-- A bundle's counts after a record left the queue, the lane or the track (R138). -/
def leavePlace (place : Place) (b : Bundle) : Bundle :=
  match place with
  | .queue => b
  | .lane => { b with inLane := b.inLane - 1 }
  | .track => { b with inFlight := b.inFlight - 1 }

/-- A bundle's counts after the end of a record's life (R57 step 3, R138), with a free value at hand. -/
def countEnd (place : Place) (e : RecordEnd) (free : BitVec 24) (b : Bundle) : Bundle :=
  match e with
  | .delivered _ => { leavePlace place b with delivered := raiseCount free b.delivered }
  | .offSequence _ => { leavePlace place b with offSequence := raiseCount free b.offSequence }
  | .aborted => leavePlace place b

/-- A waiting record taken out of its list; a record of the track has been taken out at its position (R57 step 1). -/
def leaveList (place : Place) (key : Nat) (s : State) : State :=
  match place with
  | .queue => removeWaiting key s
  | .lane => removeWaiting key s
  | .track => s

/-- The end of a record's life with its outcome (R57); the close check stands between its steps 4 and 5 (R140). -/
def endLife (place : Place) (e : RecordEnd) (r : Record) (s : State) : State :=
  let s := forgetRecord r (leaveList place r.key s)
  let s := post .address (outcomeFrame r e) (countBundle r.bundle (countEnd place e) s)
  completionCheck (closeCheck r.bundle s)

/-! ## The outcome backlog -/

/-- The record that waits in the queue or the lane under a key. -/
def waitingRecord (key : Nat) (s : State) : Option Record :=
  (s.store.queue ++ s.store.lane).find? fun r => r.key == key

/-- The list a waiting record stands in. -/
def waitingPlace (key : Nat) (s : State) : Place :=
  if s.store.lane.any fun r => r.key == key then .lane else .queue

/-- How a backlog entry ends its record's life (R55). -/
def backlogEnd : BacklogOutcome → RecordEnd
  | .aborted => .aborted
  | .short => .offSequence .short

/-- The oldest entry of the backlog released (R55). -/
def releaseOldest (s : State) : State :=
  match s.store.backlog with
  | [] => s
  | (key, o) :: rest =>
    let s := s.setStore { s.store with backlog := rest }
    match waitingRecord key s with
    | none => s
    | some r => endLife (waitingPlace key s) (backlogEnd o) r s

/-- The test for a release: the backlog holds an entry and the address port's queue fewer than 16 messages (R55). -/
def releaseDue (s : State) : Bool :=
  !s.store.backlog.isEmpty && (txQueue .address s).length < Config.backlogThreshold

/-- At most `n` entries released, one after another as long as the test holds. -/
def releaseEntries : Nat → State → State
  | 0, s => s
  | n + 1, s => if releaseDue s then releaseEntries n (releaseOldest s) else s

/-- Entries released as long as the test holds (R55). -/
def drainBacklog (s : State) : State := releaseEntries s.store.backlog.length s

/-- Records entered in the backlog in their order; one that is in it already keeps its outcome (R43, R54). -/
def enterBacklog (o : BacklogOutcome) (rs : List Record) (s : State) : State :=
  s.setStore { s.store with
    backlog := s.store.backlog ++
      (rs.filter fun r => (backlogOutcome r.key s).isNone).map fun r => (r.key, o) }

/-- The command OUTCOME_BACKLOG_RELEASE: one release where the test holds (R55, log 9). -/
def releaseOne (s : State) : State := if releaseDue s then releaseOldest s else s

/-! ## The job -/

/-- JOB OPEN (R41). -/
def takeJobOpen (p : Port) (num : Byte) (payload : List Byte) (s : State) : State :=
  if p ≠ .address then refuse p num .wrongPort s
  else if s.store.jobState ≠ .noJob then refuse p num .wrongState s
  else if payload.length ≠ 2 then refuse p num .badLength s
  else if field payload 0 2 = 0 then refuse p num .outOfRange s
  else
    let n := some (field payload 0 2)
    postState (.job .loading n)
      (accept p num (s.setStore { s.store with jobNumber := n, loadMark := 0, jobState := .loading }))

/-- The effect of an accepted JOB END (R42). -/
def endJob (p : Port) (num : Byte) (s : State) : State :=
  let s := changeJob .ended s.store.jobNumber (accept p num s)
  completionCheck (sealBundles (bundleNumbers s) s)

/-- JOB END (R42). -/
def takeJobEnd (p : Port) (num : Byte) (payload : List Byte) (s : State) : State :=
  if p ≠ .address then refuse p num .wrongPort s
  else if s.store.jobState ≠ .loading then refuse p num .wrongState s
  else if payload ≠ [] then refuse p num .badLength s
  else endJob p num s

/-- The effect of an accepted JOB ABORT (R43). -/
def abortJob (p : Port) (num : Byte) (s : State) : State :=
  let s := closeGate (changeJob .aborting s.store.jobNumber (accept p num s))
  let s := sealBundles (bundleNumbers s) s
  let s := (bundleNumbers s).foldl (fun s n => setShort n s) s
  let s := drainBacklog (enterBacklog .aborted (s.store.queue ++ s.store.lane) s)
  completionCheck (closeChecks (bundleNumbers s) s)

/-- JOB ABORT (R43). -/
def takeJobAbort (p : Port) (num : Byte) (payload : List Byte) (s : State) : State :=
  if p ≠ .address then refuse p num .wrongPort s
  else if s.store.jobState = .noJob ∨ s.store.jobState = .aborting then refuse p num .wrongState s
  else if payload ≠ [] then refuse p num .badLength s
  else abortJob p num s

/-! ## LOAD -/

/-- The free room of the text pool (R46). -/
def textRoom (s : State) : Nat := Config.textCapacity - s.store.textUsed

/-- The load mark raised to a higher bundle, and the bundles below it sealed (R49 step 4, R50). -/
def raiseLoadMark (n : Nat) (s : State) : State :=
  if s.store.loadMark < n then
    sealBundles ((bundleNumbers s).filter fun m => m < n) (s.setStore { s.store with loadMark := n })
  else s

/-- Steps 1 to 4 of an accepted LOAD (R49). -/
def loadRecord (r : Record) (s : State) : State :=
  let s := s.setStore { s.store with queue := s.store.queue ++ [r], textUsed := s.store.textUsed + textSize r }
  raiseLoadMark r.bundle (setPlace r.key .queue s)

/-- LOAD (R48, R49). -/
def takeLoad (p : Port) (num : Byte) (payload : List Byte) (s : State) : State :=
  if p ≠ .address then refuse p num .wrongPort s
  else if s.store.jobState ≠ .loading then refuse p num .wrongState s
  else
    match parseLoad payload with
    | none => refuse p num .badLength s
    | some r =>
      if recordInRange r = false then refuse p num .outOfRange s
      else if (placeOf r.key s).isSome then refuse p num .duplicate s
      else if r.bundle < s.store.loadMark then refuse p num .order s
      else if Config.loadLimit ≤ s.store.queue.length then refuse p num .queueFull s
      else if textRoom s < textSize r then refuse p num .textFull s
      else accept p num (loadRecord r s)

/-! ## WITHDRAW and CLOSE SHORT -/

/-- The effect of an accepted WITHDRAW of a waiting record (R53). -/
def withdrawRecord (p : Port) (num : Byte) (r : Record) (s : State) : State :=
  let place := waitingPlace r.key s
  let s := updateBundle r.bundle (leavePlace place) (forgetRecord r (removeWaiting r.key s))
  completionCheck (closeCheck r.bundle (accept p num s))

/-- WITHDRAW (R53). -/
def takeWithdraw (p : Port) (num : Byte) (payload : List Byte) (s : State) : State :=
  if p ≠ .address then refuse p num .wrongPort s
  else if payload.length ≠ 4 then refuse p num .badLength s
  else
    let key := field payload 0 4
    match placeOf key s with
    | none => refuse p num .unknownKey s
    | some .track => refuse p num .late s
    | some _ =>
      if (backlogOutcome key s).isSome then refuse p num .late s
      else
        match waitingRecord key s with
        | none => refuse p num .unknownKey s
        | some r => withdrawRecord p num r s

/-- The records of a bundle that wait: in the queue from head to tail, then in the lane oldest first. -/
def waitingOfBundle (n : Nat) (s : State) : List Record :=
  (s.store.queue ++ s.store.lane).filter fun r => r.bundle == n

/-- The effect of an accepted CLOSE SHORT (R54). -/
def closeShortBundle (p : Port) (num : Byte) (n : Nat) (s : State) : State :=
  let s := setShort n (accept p num s)
  if (waitingOfBundle n s).any fun r => (backlogOutcome r.key s).isNone then
    drainBacklog (enterBacklog .short (waitingOfBundle n s) s)
  else closeCheck n s

/-- CLOSE SHORT (R54). -/
def takeCloseShort (p : Port) (num : Byte) (payload : List Byte) (s : State) : State :=
  if p ≠ .address then refuse p num .wrongPort s
  else if payload.length ≠ 3 then refuse p num .badLength s
  else if field payload 0 3 = 0 then refuse p num .outOfRange s
  else
    match findBundle (field payload 0 3) s with
    | none => refuse p num .unknownKey s
    | some b =>
      if b.state = .filling then refuse p num .wrongState s else closeShortBundle p num b.number s

/-! ## Placing a record in the lane, and the purge -/

/-- A record of the track appended to a lane with room, and its bundle's counts (R52, R58, R127). It stands in the lane
afterwards, so neither the close check of its bundle nor the completion check can pass. -/
def placeInLane (r : Record) (s : State) : State :=
  let s := setPlace r.key .lane (s.setStore { s.store with lane := s.store.lane ++ [r] })
  updateBundle r.bundle (fun b => { b with inFlight := b.inFlight - 1, inLane := b.inLane + 1 }) s

/-- A record of the track sent to the lane, or off sequence where the lane holds 16 (R52, R58). -/
def sendToLane (full : OffReason) (r : Record) (s : State) : State :=
  if s.store.lane.length < Config.laneCapacity then placeInLane r s else endLife .track (.offSequence full) r s

/-- The place and the bundle count of a first-attempt record that a purge has put before the queue's head (R58). -/
def returnToQueue (r : Record) (s : State) : State :=
  updateBundle r.bundle (leavePlace .track) (setPlace r.key .queue s)

/-- Purged pieces' records, oldest first, placed by the list each came from (R58). -/
def placePurged (xs : List Piece) (s : State) : State :=
  let run := (xs.filter fun x => x.source == .queue).map Piece.record
  let remakes := (xs.filter fun x => x.source == .lane).map Piece.record
  let s := run.foldl (fun s r => returnToQueue r s) (s.setStore { s.store with queue := run ++ s.store.queue })
  remakes.foldl (fun s r => sendToLane .purge r s) s

/-- The records that a purge has placed: those put in the queue, then those that stand in the lane (R58). -/
def placedRecords (xs : List Piece) (s : State) : List Record :=
  (xs.filter fun x => x.source == .queue).map Piece.record ++
    s.store.lane.filter fun r => xs.any fun x => x.record.key == r.key

/-- The return of purged records, with the backlog's share while the job is ABORTING (R58). -/
def returnPurged (xs : List Piece) (s : State) : State :=
  let s := placePurged xs s
  completionCheck
    (if s.store.jobState = .aborting then drainBacklog (enterBacklog .aborted (placedRecords xs s) s) else s)

/-- An entry after a purge: a PIECE is STRAY with cause PURGED (R80). -/
def purgedEntry : TrackEntry → TrackEntry
  | .piece x => .stray (some x.pocket) 0 .purged
  | e => e

/-- The purge of the track at the entry into LOST (R80): records handed over oldest first. -/
def purgeTrack (s : State) : State := returnPurged (pieces s).reverse (s.setTrack (s.track.map purgedEntry))

/-! ## The commands -/

/-- JOB_OPEN. -/
def execJobOpen (p : Port) (num : Byte) (payload : List Byte) (s : State) : Host.Outcome State Fault Refusal :=
  answerMessage p (takeJobOpen p num payload) s

/-- LOAD. -/
def execLoad (p : Port) (num : Byte) (payload : List Byte) (s : State) : Host.Outcome State Fault Refusal :=
  answerMessage p (takeLoad p num payload) s

/-- WITHDRAW. -/
def execWithdraw (p : Port) (num : Byte) (payload : List Byte) (s : State) : Host.Outcome State Fault Refusal :=
  answerMessage p (takeWithdraw p num payload) s

/-- JOB_END. -/
def execJobEnd (p : Port) (num : Byte) (payload : List Byte) (s : State) : Host.Outcome State Fault Refusal :=
  answerMessage p (takeJobEnd p num payload) s

/-- JOB_ABORT. -/
def execJobAbort (p : Port) (num : Byte) (payload : List Byte) (s : State) : Host.Outcome State Fault Refusal :=
  answerMessage p (takeJobAbort p num payload) s

/-- CLOSE_SHORT. -/
def execCloseShort (p : Port) (num : Byte) (payload : List Byte) (s : State) : Host.Outcome State Fault Refusal :=
  answerMessage p (takeCloseShort p num payload) s

/-- OUTCOME_BACKLOG_RELEASE. -/
def execOutcomeBacklogRelease (s : State) : Host.Outcome State Fault Refusal := answerEvent releaseOne s

end Sys2Proof.Machine
end

