-- ==== Sys2Proof/Machine/Carrier.lean ====
section
/-! DEFINITION. The carrier unit (spec/06): issue, the printer's reports, dump, apply, the settlement at the boundary, HOLD
and PURGED. -/

namespace Sys2Proof.Machine

/-! ## Issue -/

/-- The order number after one (R93). -/
def orderAfter (n : Nat) : Nat := if n = Config.lastOrderNumber then 1 else n + 1

/-- The carrier unit can take an order (R64). -/
def canTakeOrder (s : State) : Bool :=
  s.carrier.mode = .run && s.carrier.queue.length < Config.carrierCapacity && txHasRoom .carrier s

/-- An order issued at the tail with the next number, and its PRINT (R72, R96). The piece's carrier field is written by the
caller. -/
def issueOrder (tag : Nat) (r : Record) (s : State) : State :=
  let n := s.carrier.nextOrder
  let s := s.setCarrier { s.carrier with
    queue := s.carrier.queue ++ [{ number := n, tag := tag, state := .issued }], nextOrder := orderAfter n }
  post .carrier (printFrame n r) s

/-! ## HOLD -/

/-- An order discarded at the entry into HOLD with its piece's claim on it: an AWAITING piece becomes VOID with
CARRIER_VOID (R108 step 2). -/
def discardOrder (number : Nat) (s : State) : State :=
  match orderOwner number s with
  | none => s
  | some (p, x) =>
    if x.fate = .awaiting then
      raiseOnPiece .carrierVoid .none p (updatePiece p (fun x => { x with carrier := none, fate := .void }) s)
    else updatePiece p (fun x => { x with carrier := none }) s

/-- A PRINT or WITHDRAW ORDER notice. -/
def isCarrierWork (f : Frame) : Bool := f.kind == 0x80 || f.kind == 0x81

/-- The carrier port's PRINT and WITHDRAW ORDER notices whose sending has not begun removed (R108 step 4). The message at
the head is being sent (log 5). -/
def dropCarrierWork (s : State) : State :=
  match txQueue .carrier s with
  | [] => s
  | f :: rest =>
    setPortState .carrier { portState .carrier s with tx := f :: rest.filter fun f => !isCarrierWork f } s

/-- The entry into HOLD, after its fault has been handed on (R108); nothing where the unit is in HOLD (R109). -/
def enterHold (cause : HoldCause) (s : State) : State :=
  if s.carrier.mode = .run then
    let s := s.setCarrier { s.carrier with mode := .hold cause }
    let s := s.setLines { s.lines with apply := none, dump := none }
    let s := s.carrier.queue.foldl (fun s o => discardOrder o.number s) s
    let s := dropCarrierWork (s.setCarrier { s.carrier with queue := [], printedCount := 0 })
    postState (.carrier (.hold cause)) (post .carrier (carrierHoldFrame cause) s)
  else s

/-- A carrier fault of a report, and the HOLD that follows it (R99, R102, R111). -/
def holdOnReport (k : FaultKind) (cause : HoldCause) (s : State) : State :=
  enterHold cause (raise (plainFault k (.port .carrier) s) s)

/-! ## Reports -/

/-- The link unit's checks of a carrier report (R169), then its effect. -/
def carrierReport (p : Port) (size : Nat) (payload : List Byte) (effect : State → State) (s : State) : State :=
  if p ≠ .carrier ∨ payload.length ≠ size then strayReport p s else effect s

/-- A printer report is acted on in RUN and ignored in HOLD (R97). -/
def inCarrierRun (effect : State → State) (s : State) : State := if s.carrier.mode = .run then effect s else s

/-- An order not yet printed (R95). -/
def isUnprinted (o : Order) : Bool := o.state = .issued || o.state = .withdrawing || o.state = .wastePending

/-- The number of the oldest order not yet printed (R98). -/
def oldestUnprinted (s : State) : Option Nat := (s.carrier.queue.find? isUnprinted).map Order.number

/-- The printed count changed. -/
def setPrintedCount (n : Nat) (s : State) : State := s.setCarrier { s.carrier with printedCount := n }

/-- The state of an order that its PRINTED report brings (R98). -/
def printedState (o : Order) : OrderState := if o.state = .issued then .printed else .waste

/-- PRINTED in RUN (R98, R99). -/
def reportPrinted (number : Nat) (s : State) : State :=
  match findOrder number s with
  | none => holdOnReport .carrierOverrun .overrun s
  | some o =>
    if oldestUnprinted s = some number then
      if s.carrier.printedCount < (geometryItems s).depth then
        setPrintedCount (s.carrier.printedCount + 1) (setOrderState number (printedState o) s)
      else holdOnReport .carrierOverrun .overrun s
    else holdOnReport .carrierSequence .sequence s

/-- An ISSUED order at the tail whose piece may still be reprinted (R100). -/
def reprintDue (number : Nat) (x : Piece) (s : State) : Bool :=
  s.carrier.queue.getLast?.map Order.number = some number && x.reprints < Config.reprintLimit && txHasRoom .carrier s

/-- A reprint (R100). -/
def reprint (number p : Nat) (x : Piece) (s : State) : State :=
  let n := s.carrier.nextOrder
  issueOrder x.tag x.record
    (updatePiece p (fun x => { x with carrier := some n, reprints := x.reprints + 1 }) (removeOrder number s))

/-- A spoil that voids the piece's carrier (R101). -/
def voidCarrier (number p : Nat) (s : State) : State :=
  raiseOnPiece .carrierVoid (.port .carrier) p
    (updatePiece p (fun x => { x with carrier := none, fate := .void }) (removeOrder number s))

/-- SPOILED of an ISSUED order (R100, R101). -/
def spoilIssued (number : Nat) (s : State) : State :=
  match orderOwner number s with
  | none => removeOrder number s
  | some (p, x) => if reprintDue number x s then reprint number p x s else voidCarrier number p s

/-- SPOILED in RUN (R100, R101). -/
def reportSpoiled (number : Nat) (s : State) : State :=
  match findOrder number s with
  | none => strayReport .carrier s
  | some o =>
    match o.state with
    | .issued => spoilIssued number s
    | .withdrawing => removeOrder number s
    | .printed => strayReport .carrier s
    | .wastePending => strayReport .carrier s
    | .waste => strayReport .carrier s

/-- ORDER WITHDRAWN in RUN (R102). -/
def reportWithdrawn (number : Nat) (s : State) : State :=
  match findOrder number s with
  | none => strayReport .carrier s
  | some o =>
    match o.state with
    | .withdrawing => removeOrder number s
    | .waste => holdOnReport .carrierSequence .sequence s
    | .issued => strayReport .carrier s
    | .printed => strayReport .carrier s
    | .wastePending => strayReport .carrier s

/-- ORDER LATE in RUN (R102). -/
def reportLate (number : Nat) (s : State) : State :=
  match findOrder number s with
  | none => strayReport .carrier s
  | some o =>
    match o.state with
    | .withdrawing => setOrderState number .wastePending s
    | .waste => s
    | .issued => strayReport .carrier s
    | .printed => strayReport .carrier s
    | .wastePending => strayReport .carrier s

/-- PURGED (R110), which also ends the mismatch run (R116). -/
def reportPurged (s : State) : State :=
  if s.carrier.mode = .run then strayReport .carrier s
  else postState (.carrier .run) ((s.setCarrier { s.carrier with mode := .run }).setVerify { mismatchRun := 0 })

/-- PRINTED as it arrives. -/
def takePrinted (p : Port) (payload : List Byte) (s : State) : State :=
  carrierReport p 3 payload (inCarrierRun (reportPrinted (field payload 0 3))) s

/-- SPOILED as it arrives. -/
def takeSpoiled (p : Port) (payload : List Byte) (s : State) : State :=
  carrierReport p 3 payload (inCarrierRun (reportSpoiled (field payload 0 3))) s

/-- ORDER WITHDRAWN as it arrives. -/
def takeOrderWithdrawn (p : Port) (payload : List Byte) (s : State) : State :=
  carrierReport p 3 payload (inCarrierRun (reportWithdrawn (field payload 0 3))) s

/-- ORDER LATE as it arrives. -/
def takeOrderLate (p : Port) (payload : List Byte) (s : State) : State :=
  carrierReport p 3 payload (inCarrierRun (reportLate (field payload 0 3))) s

/-- PURGED as it arrives. -/
def takePurged (p : Port) (payload : List Byte) (s : State) : State := carrierReport p 0 payload reportPurged s

/-! ## Phase events and the boundary -/

/-- The head of the carrier queue leaves it and the buffer. -/
def takeHead (s : State) : State :=
  s.setCarrier { s.carrier with queue := s.carrier.queue.tail, printedCount := s.carrier.printedCount - 1 }

/-- The dump phase event (R103). -/
def dumpPhase (s : State) : State :=
  match s.carrier.mode, s.carrier.queue.head? with
  | .run, some o =>
    if o.state = .waste then
      takeHead (s.setLines { s.lines with dump := some (s.reg.phase + (geometryItems s).dumpWidth) })
    else s
  | _, _ => s

/-- A piece's order given up: an ISSUED one is WITHDRAWING with its notice, a PRINTED one is WASTE, and the piece's carrier
field is absent (R105, R106, R107). -/
def giveUpOrder (p number : Nat) (o : Order) (s : State) : State :=
  let s := updatePiece p (fun x => { x with carrier := none }) s
  match o.state with
  | .issued => post .carrier (withdrawOrderFrame number) (setOrderState number .withdrawing s)
  | .printed => setOrderState number .waste s
  | .withdrawing => s
  | .wastePending => s
  | .waste => s

/-- A piece starved (R105 steps 1 and 2, R106). -/
def starvePiece (p : Nat) (s : State) : State :=
  raiseOnPiece .carrierStarve .none p (updatePiece p (fun x => { x with fate := .starved }) s)

/-- The live order of the piece at a position. -/
def liveOrder (p : Nat) (s : State) : Option Order :=
  ((pieceAt p s).bind Piece.carrier).bind fun n => findOrder n s

/-- The piece at c starved at the apply phase: its order is given up where it is ISSUED (R105). -/
def starveAtApply (p : Nat) (s : State) : State :=
  let s := starvePiece p s
  match liveOrder p s with
  | none => s
  | some o => if o.state = .issued then giveUpOrder p o.number o s else s

/-- The carrier at the head laid on the piece at c (R104). -/
def applyCarrier (p number : Nat) (s : State) : State :=
  updatePiece p (fun x => { x with fate := .applied, carrier := none, applied := some number })
    (takeHead (s.setLines { s.lines with apply := some (s.reg.phase + (geometryItems s).applyWidth) }))

/-- The head of the carrier queue is the piece's PRINTED order. -/
def headIsPrintedFor (x : Piece) (s : State) : Bool :=
  match s.carrier.queue.head? with
  | none => false
  | some o => o.state = .printed && x.carrier = some o.number

/-- The apply phase event (R104, R105). -/
def applyPhase (s : State) : State :=
  let c := (geometryItems s).applicator
  match s.carrier.mode, pieceAt c s with
  | .run, some x =>
    if x.fate = .awaiting then
      match headIsPrintedFor x s, x.carrier with
      | true, some n => applyCarrier c n s
      | _, _ => starveAtApply c s
    else s
  | _, _ => s

/-- The settlement at a boundary of the piece that has just left c (R106). -/
def settleCarrier (s : State) : State :=
  let p := (geometryItems s).applicator + 1
  match pieceAt p s with
  | none => s
  | some x =>
    let s := if x.fate = .awaiting then starvePiece p s else s
    match liveOrder p s with
    | none => s
    | some o => giveUpOrder p o.number o s

/-! ## The commands -/

/-- PRINTED. -/
def execPrinted (p : Port) (_num : Byte) (payload : List Byte) (s : State) : Host.Outcome State Fault Refusal :=
  answerMessage p (takePrinted p payload) s

/-- SPOILED. -/
def execSpoiled (p : Port) (_num : Byte) (payload : List Byte) (s : State) : Host.Outcome State Fault Refusal :=
  answerMessage p (takeSpoiled p payload) s

/-- ORDER_WITHDRAWN. -/
def execOrderWithdrawn (p : Port) (_num : Byte) (payload : List Byte) (s : State) :
    Host.Outcome State Fault Refusal :=
  answerMessage p (takeOrderWithdrawn p payload) s

/-- ORDER_LATE. -/
def execOrderLate (p : Port) (_num : Byte) (payload : List Byte) (s : State) : Host.Outcome State Fault Refusal :=
  answerMessage p (takeOrderLate p payload) s

/-- PURGED. -/
def execPurged (p : Port) (_num : Byte) (payload : List Byte) (s : State) : Host.Outcome State Fault Refusal :=
  answerMessage p (takePurged p payload) s

end Sys2Proof.Machine
end

