-- ==== Sys2Proof/Machine/Disposition.lean ====
section
/-! DEFINITION. The disposition unit (spec/08): the arrival at the gate, the gate line, confirms and their expiry, and proof
pieces. -/

namespace Sys2Proof.Machine

/-! ## A diversion that failed -/

/-- A GATE_FAIL with the details of its reject, pocket index and position (R133). -/
def gateFail (reject : Option Reject) (pocket position : Option Nat) (s : State) : FaultRecord :=
  { plainFault .gateFail .none s with
    tag := reject.map Reject.tag, key := reject.map Reject.key, bundle := reject.map Reject.bundle,
    pocket := pocket, position := position }

/-- SUSPECT, and the bundle's suspect count where it is still in the table (R131 step 2). The bundle is looked up by its
number: an entry that a later job has made with the number of a bundle tied and removed is taken for it, R131's and R138's
'already removed' read as 'no entry bears the number' (log 30). -/
def sendSuspect (r : Reject) (s : State) : State :=
  countBundle r.bundle (fun free b => { b with suspects := raiseCount free b.suspects })
    (post .delivery (suspectFrame r.tag r.bundle r.bay) s)

/-- The lane record of a failed proof given up as SUSPECT, unless it is in the backlog (R131 step 4). -/
def giveUpProof (key : Nat) (s : State) : State :=
  match placeOf key s, waitingRecord key s with
  | some .lane, some r =>
    if (backlogOutcome key s).isNone then endLife .lane (.offSequence .suspect) r s else s
  | _, _ => s

/-- Steps 2 to 4 of R131; nothing for a stray. -/
def suspectReject (reject : Option Reject) (s : State) : State :=
  match reject with
  | none => s
  | some r =>
    let s := sendSuspect r s
    if r.proof then giveUpProof r.key (post .line (proofDoneFrame r.tag true) s) else s

/-- A pending confirm that expires, once it is off the list (R131). -/
def expireConfirm (c : Confirm) (s : State) : State :=
  suspectReject c.reject (raise (gateFail c.reject none none s) s)

/-- A gate due never asserted (R128): cleared and handled as an expired confirm; `g` is the gate position it stood at,
which its GATE_FAIL carries (R133; at a change of g the old one, log 33). -/
def clearGateDue (g : Nat) (s : State) : State :=
  match s.disp.gateDue with
  | none => s
  | some d =>
    let s := s.setDisp { s.disp with gateDue := none }
    suspectReject d.reject (raise (gateFail d.reject d.pocket (some g) s) s)

/-! ## The arrival -/

/-- The bay that a bundle holds (R126); a piece's bundle is always in the table (log 14). -/
def bayOf (bundle : Nat) (s : State) : Nat := ((findBundle bundle s).map Bundle.bay).getD 0

/-- A GOOD piece: its PIECE notice, and the end of its record's life with DELIVERED (R126). -/
def goodPiece (x : Piece) (s : State) : State :=
  let r := x.record
  endLife .track (.delivered x.tag) r (post .delivery (pieceFrame x.tag r.key r.bundle (bayOf r.bundle s)) s)

/-- The bundle's short flag is set. -/
def isShort (bundle : Nat) (s : State) : Bool := ((findBundle bundle s).map Bundle.short).getD false

/-- Where a rejected record goes: the first line of R127's table that applies. -/
def placeRejected (x : Piece) (s : State) : State :=
  let r := x.record
  if s.store.jobState = .aborting then endLife .track (.offSequence .abort) r s
  else if isShort r.bundle s then endLife .track (.offSequence .short) r s
  else if x.proof then sendToLane .laneFull r s
  else if r.attempt < (geometryItems s).remakeLimit then
    sendToLane .laneFull { r with attempt := r.attempt + 1 } s
  else endLife .track (.offSequence .limit) r s

/-- What the gate due keeps of a rejected piece (R124). -/
def rejectOf (x : Piece) (s : State) : Reject :=
  { tag := x.tag, key := x.record.key, bundle := x.record.bundle, bay := bayOf x.record.bundle s, proof := x.proof }

/-- A rejected piece: its record placed, then the gate due set (R124, R127). -/
def rejectPiece (x : Piece) (s : State) : State :=
  let d : GateDue := { reject := some (rejectOf x s), pocket := none }
  let s := placeRejected x s
  s.setDisp { s.disp with gateDue := some d }

/-- A piece arriving at g decided (R125), its entry already GATED. -/
def decidePiece (x : Piece) (s : State) : State :=
  if x.rejectDue then rejectPiece x s
  else if s.disp.proofPending then
    rejectPiece { x with proof := true } (s.setDisp { s.disp with proofPending := false })
  else goodPiece x s

/-- The entry that has just arrived at g (R124). -/
def takeArrival (s : State) : State :=
  let g := (geometryItems s).gate
  match entryAt g s with
  | some (.piece x) => decidePiece x (setEntryAt g (.gated x.pocket x.tag) s)
  | some (.stray pocket _ _) => s.setDisp { s.disp with gateDue := some { reject := none, pocket := pocket } }
  | some (.empty _ _) => s
  | some (.locked _ _) => s
  | some (.gated _ _) => s
  | none => s

/-- A boundary counted for the pending confirms, oldest first: those that have seen one expire (R129, R131). -/
def ageConfirms (s : State) : State :=
  let due := s.disp.confirms.filter fun c => c.seen ≠ 0
  let kept := (s.disp.confirms.filter fun c => c.seen = 0).map fun c => { c with seen := 1 }
  due.foldl (fun s c => expireConfirm c s) (s.setDisp { s.disp with confirms := kept })

/-- The disposition unit's part of a boundary: confirms, a gate due left over, the arrival (R124). -/
def dispositionBoundary (s : State) : State :=
  takeArrival (clearGateDue (geometryItems s).gate (ageConfirms s))

/-! ## The gate phase and the confirm input -/

/-- The gate phase event (R128). -/
def gatePhase (s : State) : State :=
  match s.disp.gateDue with
  | none => s
  | some d =>
    (s.setLines { s.lines with gate := some (s.reg.phase + (geometryItems s).gateWidth) }).setDisp
      { s.disp with confirms := s.disp.confirms ++ [{ reject := d.reject, seen := 0 }], gateDue := none }

/-- PROOF DONE reporting CONFIRMED, for a satisfied confirm marked proof (R130, R134). -/
def confirmProof (reject : Option Reject) (s : State) : State :=
  match reject with
  | none => s
  | some r => if r.proof then post .line (proofDoneFrame r.tag false) s else s

/-- A confirm event (R130). -/
def takeConfirm (s : State) : State :=
  match s.disp.confirms with
  | [] => raise (plainFault .gateStray .none s) s
  | c :: rest => confirmProof c.reject (s.setDisp { s.disp with confirms := rest })

/-- The oldest pending confirm expires where it has seen a boundary (R131, log 7). -/
def expireOldest (s : State) : State :=
  match s.disp.confirms with
  | [] => s
  | c :: rest => if c.seen ≠ 0 then expireConfirm c (s.setDisp { s.disp with confirms := rest }) else s

/-- PROOF (R134). -/
def takeProof (p : Port) (num : Byte) (payload : List Byte) (s : State) : State :=
  if p ≠ .line then refuse p num .wrongPort s
  else if payload ≠ [] then refuse p num .badLength s
  else if s.disp.proofPending then refuse p num .busy s
  else accept p num (s.setDisp { s.disp with proofPending := true })

/-! ## The commands -/

/-- GATE_CONFIRM. -/
def execGateConfirm (s : State) : Host.Outcome State Fault Refusal := answerEvent takeConfirm s

/-- PENDING_CONFIRM_EXPIRY. -/
def execPendingConfirmExpiry (s : State) : Host.Outcome State Fault Refusal := answerEvent expireOldest s

/-- PROOF. -/
def execProof (p : Port) (num : Byte) (payload : List Byte) (s : State) : Host.Outcome State Fault Refusal :=
  answerMessage p (takeProof p num payload) s

end Sys2Proof.Machine
end

