-- ==== Sys2Proof/Machine/Entry.lean ====
section
/-! DEFINITION. The entry unit (spec/04): the entry event of a pitch boundary. -/

namespace Sys2Proof.Machine

/-! ## The item check -/

/-- The primary station for an item: the non-empty entry with the lowest index that carries it (R66). -/
def primaryStation (item : Nat) (s : State) : Option (Fin 12) :=
  allStations.find? fun i =>
    match stationAt i s with
    | none => false
    | some e => e.item = item

/-- An entry stands in the table, is on and carries the item (R66). -/
def stationServes (item : Nat) (i : Fin 12) (s : State) : Bool :=
  match stationAt i s with
  | none => false
  | some e => e.on && e.item = item

/-- The usable station for an item: its primary where on, else the primary's alternate (R66). -/
def usableStation (item : Nat) (s : State) : Option (Fin 12) :=
  match primaryStation item s with
  | none => none
  | some i =>
    if stationServes item i s then some i
    else
      match (stationAt i s).bind Station.alternate with
      | none => none
      | some a => if stationServes item a s then some a else none

/-- The plan for a list of items, in its order; none where an item has no usable station (R67). -/
def planItems (s : State) : List Nat → Option (List PlanPair)
  | [] => some []
  | item :: rest =>
    match usableStation item s, planItems s rest with
    | some i, some plan => some ({ item := item, station := i, result := .pending } :: plan)
    | _, _ => none

/-- The lowest-numbered required item without a usable station (R67). -/
def lackingItem (r : Record) (s : State) : Option Nat :=
  (itemsOf r.items).find? fun item => (usableStation item s).isNone

/-- The source of an ITEM_UNAVAILABLE: the lacking item's primary station, or none (R67). -/
def lackingSource (r : Record) (s : State) : Source :=
  match (lackingItem r s).bind fun item => primaryStation item s with
  | none => .none
  | some i => .station i

/-! ## The bay check -/

/-- All bays, lowest first. -/
def allBays : List (Fin 16) := [0, 1, 2, 3, 4, 5, 6, 7, 8, 9, 10, 11, 12, 13, 14, 15]

/-- The free bays among 0..H−1, lowest first (R68). -/
def freeBays (s : State) : List (Fin 16) :=
  allBays.filter fun h => h.val < (geometryItems s).bays && s.bundles.bays[h] = none

/-- A new bundle is sealed at its creation (R50, R137). -/
def createdState (n : Nat) (s : State) : BundleState :=
  if n < s.store.loadMark ∨ jobFinishing s then .sealed else .filling

/-- The entry of a new bundle, which holds the bay (R137). -/
def newBundle (n : Nat) (h : Fin 16) (s : State) : Bundle :=
  { number := n, bay := h.val, state := createdState n s, short := false, inFlight := 0, inLane := 0, delivered := 0,
    offSequence := 0, suspects := 0, tieTimer := none }

/-- A bundle created with its reserved bay (R137). -/
def createBundle (n : Nat) (h : Fin 16) (s : State) : State :=
  s.setBundles
    { table := insertBundle (newBundle n h s) s.bundles.table, bays := s.bundles.bays.set h (some n) }

/-! ## Results and episodes -/

/-- The entry result set, with the bundle awaiting a bay (R61). -/
def setResultOfEntry (r : EntryResult) (bundle : Option Nat) (s : State) : State :=
  s.setEntry { s.entry with result := r, awaitingBay := bundle }

/-- Position 0 left EMPTY (R61). -/
def leaveEmpty (pocket : Option Nat) (r : EntryResult) (bundle : Option Nat) (s : State) : State :=
  setResultOfEntry r bundle (setEntryAt 0 (.empty pocket 0) s)

/-- A fault of the entry unit: the pocket at position 0 (R67, R73). -/
def entryFault (k : FaultKind) (s : State) : FaultRecord :=
  { plainFault k .none s with pocket := some s.reg.pocketIndex, position := some 0 }

/-- A QUEUE_STARVE episode begins (R73). -/
def starveBegins (s : State) : Bool :=
  s.run.gate = .opened && s.store.jobState = .loading && s.store.lane.isEmpty && s.store.queue.isEmpty &&
    !s.entry.starving

/-- The test for queue starvation (R73). -/
def testStarvation (s : State) : State :=
  if starveBegins s then
    let s := s.setEntry { s.entry with starving := true }
    raise (entryFault .queueStarve s) s
  else s

/-- ITEM_UNAVAILABLE handed on at the start of its episode (R67). -/
def testItems (r : Record) (s : State) : State :=
  if s.entry.itemUnavailable then s
  else
    let s := s.setEntry { s.entry with itemUnavailable := true }
    raise { entryFault .itemUnavailable s with
      source := lackingSource r s, key := some r.key, bundle := some r.bundle } s

/-! ## Choosing the source -/

/-- What the entry unit gets from the store (R51, R65). -/
inductive Offer
  | noRecord
  | backlog
  | record (source : SourceList) (r : Record)
  deriving DecidableEq, Repr

/-- The list asked from, with its head: the lane where it holds a record, else the queue where the gate is OPEN and the job
LOADING or ENDED (R65). -/
def askedRecord (s : State) : Option (SourceList × Record) :=
  match s.store.lane with
  | r :: _ => some (.lane, r)
  | [] =>
    if s.run.gate = .opened ∧ (s.store.jobState = .loading ∨ s.store.jobState = .ended) then
      s.store.queue.head?.map fun r => (.queue, r)
    else none

/-- The store's answer: nothing asked or an empty list is NO_RECORD; the store declines while the backlog holds an entry or
the job is ABORTING (R51, R65, log 20). -/
def offer (s : State) : Offer :=
  match askedRecord s with
  | none => .noRecord
  | some (src, r) =>
    if s.store.backlog ≠ [] ∨ s.store.jobState = .aborting then .backlog else .record src r

/-! ## Entering -/

/-- The tag after one (R71). -/
def tagAfter (n : Nat) : Nat := if n = Config.lastTag then 1 else n + 1

/-- The piece record made at entry (R70); the order is the one about to be issued. -/
def newPiece (src : SourceList) (r : Record) (plan : List PlanPair) (s : State) : Piece :=
  { tag := s.entry.nextTag, pocket := s.reg.pocketIndex, record := r, source := src, plan := plan, extra := 0,
    carrier := some s.carrier.nextOrder, fate := .awaiting, reprints := 0, applied := none,
    verify := if (geometryItems s).verify.isSome then .pending else .notChecked,
    wrap := none, faults := 0, firstKind := none, rejectDue := false, proof := false }

/-- The record handed over by the store (R69 step 1). -/
def handOver (src : SourceList) (r : Record) (s : State) : State :=
  let s := setPlace r.key .track (removeWaiting r.key s)
  match src with
  | .queue => s
  | .lane => updateBundle r.bundle (leavePlace .lane) s

/-- The bundle's part of an entry: its creation with a reserved bay, and one more piece in flight (R69 step 3). After it
the bundle has a piece in flight, so the close check that a fallen lane count calls for cannot pass (R140). -/
def enterBundle (r : Record) (bay : Option (Fin 16)) (s : State) : State :=
  let s := match bay with
    | some h => createBundle r.bundle h s
    | none => s
  updateBundle r.bundle (fun b => { b with inFlight := b.inFlight + 1 }) s

/-- The tag taken and the piece record made at position 0 (R69 step 2, R71). -/
def makePiece (x : Piece) (s : State) : State :=
  setEntryAt 0 (.piece x) (s.setEntry { s.entry with nextTag := tagAfter s.entry.nextTag })

/-- A record enters (R69). -/
def enterRecord (src : SourceList) (r : Record) (plan : List PlanPair) (bay : Option (Fin 16)) (s : State) : State :=
  let x := newPiece src r plan s
  let s := enterBundle r bay (makePiece x (handOver src r s))
  setResultOfEntry .entered none (endEpisodes (issueOrder x.tag r s))

/-- The bay check and the entry of a planned record (R68, R69). -/
def checkBay (src : SourceList) (r : Record) (plan : List PlanPair) (s : State) : State :=
  match findBundle r.bundle s, freeBays s with
  | some _, _ => enterRecord src r plan none s
  | none, h :: _ => enterRecord src r plan (some h) s
  | none, [] => leaveEmpty (some s.reg.pocketIndex) .bayWait (some r.bundle) s

/-- The item check of an offered record (R67). -/
def checkItems (src : SourceList) (r : Record) (s : State) : State :=
  match planItems s (itemsOf r.items) with
  | none => testItems r (leaveEmpty (some s.reg.pocketIndex) .itemWait none s)
  | some plan => checkBay src r plan s

/-- The choice of source and what follows it (R65, R73). -/
def chooseRecord (s : State) : State :=
  let s := testStarvation s
  match offer s with
  | .noRecord => leaveEmpty (some s.reg.pocketIndex) .noRecord none s
  | .backlog => leaveEmpty (some s.reg.pocketIndex) .backlog none s
  | .record src r => checkItems src r s

/-- The gate lets records through (R64). -/
def gateAdmits (s : State) : Bool := s.run.gate = .opened ∨ s.run.gate = .drain

/-- The entry event of a boundary (R61 to R64). -/
def entryEvent (s : State) : State :=
  if s.reg.state ≠ .registered then leaveEmpty none .notRegistered none s
  else if s.entry.lockout.contains s.reg.pocketIndex then
    setResultOfEntry .locked none (setEntryAt 0 (.locked s.reg.pocketIndex 0) s)
  else if gateAdmits s = false then leaveEmpty (some s.reg.pocketIndex) .gate none s
  else if canTakeOrder s = false then leaveEmpty (some s.reg.pocketIndex) .carrier none s
  else chooseRecord s

end Sys2Proof.Machine
end

