-- ==== Sys2Proof/Machine/Feed.lean ====
section
/-! DEFINITION. The feed station unit (spec/05): calls, detects, STATION OFF with its replan, and STATION ON. -/

namespace Sys2Proof.Machine

/-! ## Plans -/

/-- The piece's plan names the station (R82). -/
def planNames (i : Fin 12) (x : Piece) : Bool := x.plan.any fun q => q.station == i

/-- The item planned on the station is PENDING (R82, R84, R88). -/
def planPending (i : Fin 12) (x : Piece) : Bool := x.plan.any fun q => q.station == i && q.result = .pending

/-- The feed result of the item planned on a station written (R83, R84). -/
def setResult (i : Fin 12) (r : FeedResult) (x : Piece) : Piece :=
  { x with plan := x.plan.map fun q => if q.station = i then { q with result := r } else q }

/-! ## The call phase event -/

/-- The call line asserted for its width and the call-outstanding flag set (R82). -/
def callStation (i : Fin 12) (e : Station) (s : State) : State :=
  setCallOutstanding i true
    (s.setLines { s.lines with calls := s.lines.calls.set i (some (s.reg.phase + e.callWidth)) })

/-- The call phase event of a station (R82). -/
def callPhase (i : Fin 12) (e : Station) (s : State) : State :=
  match pieceAt e.position s with
  | none => s
  | some x => if e.on && planPending i x then callStation i e s else s

/-! ## The detect phase event -/

/-- Detect values (R83). -/
inductive DetectValue
  | none
  | one
  | two
  | fault
  deriving DecidableEq, Repr

/-- What a station's two detect lines tell (R83). -/
def detectValue (i : Fin 12) (s : State) : DetectValue :=
  match s.pins.detectA.getLsbD i.val, s.pins.detectB.getLsbD i.val with
  | false, false => .none
  | true, false => .one
  | true, true => .two
  | false, true => .fault

/-- A piece that was called takes the detect value (R83). -/
def readCalled (i : Fin 12) (p : Nat) (s : State) : State :=
  match detectValue i s with
  | .one => updatePiece p (setResult i .fed) s
  | .none => raiseOnPiece .feedMiss (.station i) p (updatePiece p (setResult i .missed) s)
  | .two => raiseOnPiece .feedDouble (.station i) p (updatePiece p (setResult i .double) s)
  | .fault => raiseOnPiece .feedSensor (.station i) p (updatePiece p (setResult i .sensor) s)

/-- A piece planned on the station and not called there (R84). -/
def missUncalled (i : Fin 12) (p : Nat) (s : State) : State :=
  raiseOnPiece .feedMiss (.station i) p (updatePiece p (setResult i .missed) s)

/-- An unbidden reading at a piece whose plan does not name the station (R85). -/
def readUnplanned (i : Fin 12) (p : Nat) (s : State) : State :=
  match detectValue i s with
  | .none => s
  | .fault => raiseOnPiece .feedSensor (.station i) p s
  | _ =>
    raiseOnPiece .feedExtra (.station i) p (updatePiece p (fun x => { x with extra := addStation i x.extra }) s)

/-- A fault at an entry that holds no piece (R86). -/
def pocketFault (k : FaultKind) (i : Fin 12) (p : Nat) (pocket : Option Nat) (s : State) : FaultRecord :=
  { plainFault k (.station i) s with pocket := pocket, position := some p }

/-- An EMPTY or LOCKED entry fed unbidden: it becomes STRAY with STRAY_PIECE (R85). -/
def makeStray (i : Fin 12) (p : Nat) (pocket : Option Nat) (extra : BitVec 12) (s : State) : State :=
  raise (pocketFault .strayPiece i p pocket s) (setEntryAt p (.stray pocket (addStation i extra) .fed) s)

/-- An unbidden reading at an EMPTY or LOCKED entry (R85). -/
def readEmpty (i : Fin 12) (p : Nat) (pocket : Option Nat) (extra : BitVec 12) (s : State) : State :=
  match detectValue i s with
  | .none => s
  | .fault => raise (pocketFault .feedSensor i p pocket s) s
  | _ => makeStray i p pocket extra s

/-- A reading at a STRAY entry (R85). -/
def readStray (i : Fin 12) (p : Nat) (pocket : Option Nat) (extra : BitVec 12) (cause : StrayCause) (s : State) :
    State :=
  match detectValue i s with
  | .none => s
  | .fault => raise (pocketFault .feedSensor i p pocket s) s
  | _ => setEntryAt p (.stray pocket (addStation i extra) cause) s

/-- A detect at a piece: called (R83), planned and not called (R84), or not planned (R85). -/
def detectPiece (i : Fin 12) (p : Nat) (reading called : Bool) (x : Piece) (s : State) : State :=
  if planNames i x then
    if planPending i x then if called then readCalled i p s else missUncalled i p s else s
  else if reading then readUnplanned i p s else s

/-- A detect at the entry of the station's position. -/
def detectEntry (i : Fin 12) (p : Nat) (reading called : Bool) (s : State) : State :=
  match entryAt p s with
  | some (.piece x) => detectPiece i p reading called x s
  | some (.empty pocket extra) => if reading then readEmpty i p pocket extra s else s
  | some (.locked pocket extra) => if reading then readEmpty i p (some pocket) extra s else s
  | some (.stray pocket extra cause) => if reading then readStray i p pocket extra cause s else s
  | some (.gated _ _) => s
  | none => s

/-- The detect phase event of a station (R83, R84, R85); the call-outstanding flag is cleared (R81). -/
def detectPhase (i : Fin 12) (e : Station) (s : State) : State :=
  let called := s.callOutstanding[i]
  setCallOutstanding i false (detectEntry i e.position (e.on || called) called s)

/-- What a station does at the present phase. -/
def stationPhase (i : Fin 12) (s : State) : State :=
  match stationAt i s with
  | none => s
  | some e =>
    if s.reg.phase = e.callPhase then callPhase i e s
    else if s.reg.phase = e.detectPhase then detectPhase i e s
    else s

/-! ## STATION OFF and STATION ON -/

/-- The entry a piece at position `q` may be replanned to: the alternate, where it is on, carries the item and stands beyond
the piece (R88). -/
def alternateAhead (e : Station) (q : Nat) (s : State) : Option (Fin 12) :=
  match e.alternate with
  | none => none
  | some a =>
    match stationAt a s with
    | none => none
    | some ea => if ea.on && ea.item = e.item && q < ea.position then some a else none

/-- A piece at position `q` is to be replanned (R88). -/
def replanDue (i : Fin 12) (e : Station) (q : Nat) (x : Piece) (s : State) : Bool :=
  q ≤ e.position && planPending i x && !(q = e.position && s.callOutstanding[i])

/-- A plan pair moved from one station to another. -/
def movePlan (i a : Fin 12) (x : Piece) : Piece :=
  { x with plan := x.plan.map fun q => if q.station = i then { q with station := a } else q }

/-- The entry at position `q` after the replan (R88). -/
def replanEntry (i : Fin 12) (e : Station) (s : State) (q : Nat) : TrackEntry → TrackEntry
  | .piece x =>
    if replanDue i e q x s then
      match alternateAhead e q s with
      | some a => .piece (movePlan i a x)
      | none => .piece x
    else .piece x
  | t => t

/-- Every entry of a stretch that begins at position `q`, changed by its position. -/
def mapEntries (f : Nat → TrackEntry → TrackEntry) : Nat → List TrackEntry → List TrackEntry
  | _, [] => []
  | q, t :: rest => f q t :: mapEntries f (q + 1) rest

/-- The replan of the pieces planned on a station (R88). -/
def replan (i : Fin 12) (e : Station) (s : State) : State := s.setTrack (mapEntries (replanEntry i e s) 0 s.track)

/-- The checks of STATION OFF and STATION ON (R87, R89), then the effect. -/
def stationRequest (p : Port) (num : Byte) (payload : List Byte) (effect : Fin 12 → Station → State → State)
    (s : State) : State :=
  if p ≠ .line then refuse p num .wrongPort s
  else if payload.length ≠ 1 then refuse p num .badLength s
  else
    match stationIndex (field payload 0 1) with
    | none => refuse p num .outOfRange s
    | some i =>
      match stationAt i s with
      | none => refuse p num .wrongState s
      | some e => accept p num (effect i e s)

/-- A station switched off, with the replan (R87). -/
def switchOff (i : Fin 12) (e : Station) (s : State) : State :=
  replan i e (setStationEntry i (some { e with on := false }) s)

/-- A station switched on (R89). -/
def switchOn (i : Fin 12) (e : Station) (s : State) : State := setStationEntry i (some { e with on := true }) s

/-- STATION OFF (R87). -/
def takeStationOff (p : Port) (num : Byte) (payload : List Byte) (s : State) : State :=
  stationRequest p num payload switchOff s

/-- STATION ON (R89). -/
def takeStationOn (p : Port) (num : Byte) (payload : List Byte) (s : State) : State :=
  stationRequest p num payload switchOn s

/-- STATION_OFF. -/
def execStationOff (p : Port) (num : Byte) (payload : List Byte) (s : State) : Host.Outcome State Fault Refusal :=
  answerMessage p (takeStationOff p num payload) s

/-- STATION_ON. -/
def execStationOn (p : Port) (num : Byte) (payload : List Byte) (s : State) : Host.Outcome State Fault Refusal :=
  answerMessage p (takeStationOn p num payload) s

end Sys2Proof.Machine
end

