-- ==== Sys2Proof/Machine/Verify.lean ====
section
/-! DEFINITION. The verify unit and the wrap reports (spec/07): CODE READ, NO READ, the settlement at the boundary, and
WRAP FAULT. -/

namespace Sys2Proof.Machine

/-! ## Readings -/

/-- A piece waiting for its own reading at v: an applied carrier and verify PENDING (R115). -/
def awaitsReading (x : Piece) : Bool := x.fate = .applied && x.verify = .pending

/-- The code is the match code of the piece's applied order (R114). -/
def codeMatches (code : Nat) (x : Piece) : Bool := x.applied.map matchCode = some code

/-- The piece at a position satisfies a test. -/
def pieceAtIs (test : Piece → Bool) (p : Nat) (s : State) : Bool :=
  match pieceAt p s with
  | none => false
  | some x => test x

/-- A MATCH, which ends the mismatch run (R115 cases 1 and 2, R116). -/
def recordMatch (p : Nat) (s : State) : State :=
  (updatePiece p (fun x => { x with verify := .match_ }) s).setVerify { mismatchRun := 0 }

/-- The mismatch run raised by one; at 2 it brings CARRIER_SEQUENCE, the run back to 0 and HOLD (R116). -/
def raiseRun (s : State) : State :=
  if s.verify.mismatchRun + 1 < 2 then s.setVerify { mismatchRun := s.verify.mismatchRun + 1 }
  else
    enterHold .sequence
      ((raise (plainFault .carrierSequence (.port .carrier) s) s).setVerify { mismatchRun := 0 })

/-- A MISMATCH (R115 case 3). -/
def recordMismatch (p : Nat) (s : State) : State :=
  raiseRun (raiseOnPiece .carrierMismatch (.port .carrier) p
    (updatePiece p (fun x => { x with verify := .mismatch }) s))

/-- CODE READ judged at a verify position (R115). -/
def judgeCode (v code : Nat) (s : State) : State :=
  if pieceAtIs (fun x => awaitsReading x && codeMatches code x) v s then recordMatch v s
  else if pieceAtIs (fun x => x.verify = .unreadProvisional && codeMatches code x) (v + 1) s then
    recordMatch (v + 1) s
  else if pieceAtIs awaitsReading v s then recordMismatch v s
  else strayReport .carrier s

/-- CODE READ; while v is none it is a stray report (R115). -/
def reportCode (code : Nat) (s : State) : State :=
  match (geometryItems s).verify with
  | none => strayReport .carrier s
  | some v => judgeCode v code s

/-- A piece found unread: UNREAD with CARRIER_UNREAD (R117, R118). -/
def recordUnread (src : Source) (p : Nat) (s : State) : State :=
  raiseOnPiece .carrierUnread src p (updatePiece p (fun x => { x with verify := .unread }) s)

/-- NO READ (R117). -/
def reportNoRead (s : State) : State :=
  match (geometryItems s).verify with
  | none => strayReport .carrier s
  | some v => if pieceAtIs awaitsReading v s then recordUnread (.port .carrier) v s else strayReport .carrier s

/-- CODE READ as it arrives. -/
def takeCodeRead (p : Port) (payload : List Byte) (s : State) : State :=
  carrierReport p 2 payload (reportCode (field payload 0 2)) s

/-- NO READ as it arrives. -/
def takeNoRead (p : Port) (payload : List Byte) (s : State) : State := carrierReport p 0 payload reportNoRead s

/-! ## The settlement at the boundary -/

/-- The verify value of a piece that has just left v (R118). -/
def leaveReader (x : Piece) : Piece :=
  match x.verify, x.fate with
  | .pending, .applied => { x with verify := .unreadProvisional }
  | .pending, .void => { x with verify := .notChecked }
  | .pending, .starved => { x with verify := .notChecked }
  | _, _ => x

/-- The settlement of the pieces that have just left v and v+1 (R118). -/
def settleVerify (s : State) : State :=
  match (geometryItems s).verify with
  | none => s
  | some v =>
    let s := updatePiece (v + 1) leaveReader s
    if pieceAtIs (fun x => x.verify = .unreadProvisional) (v + 2) s then recordUnread .none (v + 2) s else s

/-! ## Wrap reports -/

/-- One covered position of a wrap report: a piece whose wrap is OK takes the cause and the fault; one whose wrap is FAULT
keeps its cause and its fault set, and is handed on again (R121, R151, log 28). -/
def wrapPosition (cause : WrapCause) (p : Nat) (s : State) : State :=
  match pieceAt p s with
  | none => s
  | some x =>
    if x.wrap.isSome then raiseMarking markRejectDue .wrapFault (.port .line) p s
    else raiseOnPiece .wrapFault (.port .line) p (updatePiece p (fun x => { x with wrap := some cause }) s)

/-- The covered positions: `span` of them from `w` towards the entry, none below 0 (R121). -/
def coveredPositions (w : Nat) : Nat → List Nat
  | 0 => []
  | span + 1 => w :: match w with
    | 0 => []
    | w + 1 => coveredPositions w span

/-- WRAP FAULT (R121); on another port it is a stray report (R169). -/
def takeWrapFault (p : Port) (payload : List Byte) (s : State) : State :=
  if p ≠ .line ∨ payload.length ≠ 2 ∨ field payload 1 1 = 0 ∨ 8 < field payload 1 1 then strayReport p s
  else
    match wrapCauseOfCode (field payload 0 1), s.setup.geometry with
    | some cause, some g =>
      (coveredPositions g.wrap (field payload 1 1)).foldl (fun s q => wrapPosition cause q s) s
    | _, _ => strayReport p s

/-! ## The commands -/

/-- CODE_READ. -/
def execCodeRead (p : Port) (_num : Byte) (payload : List Byte) (s : State) : Host.Outcome State Fault Refusal :=
  answerMessage p (takeCodeRead p payload) s

/-- NO_READ. -/
def execNoRead (p : Port) (_num : Byte) (payload : List Byte) (s : State) : Host.Outcome State Fault Refusal :=
  answerMessage p (takeNoRead p payload) s

/-- WRAP_FAULT. -/
def execWrapFault (p : Port) (_num : Byte) (payload : List Byte) (s : State) : Host.Outcome State Fault Refusal :=
  answerMessage p (takeWrapFault p payload) s

end Sys2Proof.Machine
end

