-- ==== Sys2Proof/Machine/Registration.lean ====
section
/-! DEFINITION. The registration unit (spec/01): encoder pulses, pitch boundaries and phase events, line pulses, the mark
window, home marks, alignment, the loss of registration, and CHAIN CLEAR. -/

namespace Sys2Proof.Machine

/-! ## Line pulses -/

/-- A line released where its pulse ends at the phase (R4). -/
def releaseAt (phase : Nat) (x : Option Nat) : Option Nat := if x = some phase then none else x

/-- The line pulses that end at a phase released (R4). -/
def releasePulses (phase : Nat) (s : State) : State :=
  s.setLines
    { calls := mapVector (releaseAt phase) s.lines.calls, apply := releaseAt phase s.lines.apply,
      dump := releaseAt phase s.lines.dump, gate := releaseAt phase s.lines.gate }

/-- Every line pulse under way released (R4), and every call-outstanding flag cleared with them (R81). -/
def releaseAllPulses (s : State) : State :=
  (s.setLines .released).setCallOutstanding (Vector.replicate 12 false)

/-! ## The loss of registration -/

/-- A fault of the registration unit (R17). -/
def homeFault (k : FaultKind) (s : State) : FaultRecord :=
  { plainFault k .none s with pocket := some s.reg.pocketIndex }

/-- The entry into LOST (R14). -/
def loseRegistration (s : State) : State :=
  let f := homeFault .registrationLost s
  let s := s.setReg { s.reg with state := .lost, faultWindow := none, goodMarks := 0, chainClearPending := true }
  let s := purgeTrack (postState (.chainClear true) (postState (.registration .lost) s))
  enterHold .lost (raise f s)

/-- A bad event in REGISTERED (R12). -/
def badEvent (s : State) : State :=
  let t := raise (homeFault .homeFault s) s
  match s.reg.faultWindow with
  | none => t.setReg { t.reg with faultWindow := some 0 }
  | some _ => loseRegistration t

/-- One more period ended since the last bad event (R13). -/
def ageFaultWindow (s : State) : State :=
  match s.reg.faultWindow with
  | none => s
  | some n => s.setReg { s.reg with faultWindow := if n + 1 < 8 then some (n + 1) else none }

/-! ## The mark window -/

/-- The mark window opened with the tolerance of the setup store (R8, R9). -/
def openWindow (seen : Bool) (s : State) : State :=
  s.setReg { s.reg with window := { isOpen := true, markSeen := seen, tolerance := (geometryItems s).tolerance } }

/-- The mark window's mark-seen flag set. -/
def seeMark (s : State) : State := s.setReg { s.reg with window := { s.reg.window with markSeen := true } }

/-- The good-mark count written. -/
def setGoodMarks (n : Nat) (s : State) : State := s.setReg { s.reg with goodMarks := n }

/-- The mark window closes, and the close is classed (R8, R11, R12, R13). -/
def closeWindow (s : State) : State :=
  let seen := s.reg.window.markSeen
  let s := s.setReg { s.reg with window := { s.reg.window with isOpen := false } }
  match s.reg.state with
  | .unregistered => s
  | .lost => s
  | .seeking => if seen then s else setGoodMarks 0 s
  | .registered => ageFaultWindow (if seen then s else badEvent s)

/-- The count has come to the phase at which the mark window closes: t+1 of pocket index 0, by the tolerance in use (R8). -/
def windowEnds (s : State) : Bool := s.reg.phase = s.reg.window.tolerance + 1 && s.reg.pocketIndex = 0

/-- The count has come to the phase at which a mark window opens: P−T of pocket index L−1 (R8). -/
def windowStarts (s : State) : Bool :=
  s.reg.phase + (geometryItems s).tolerance = (geometryItems s).pitch &&
    s.reg.pocketIndex + 1 = (geometryItems s).chainLength

/-- The mark window at a count that brings a phase above 0: an open one keeps the bounds it opened with, a closed one may
open (R8, log 16). -/
def windowPhase (s : State) : State :=
  if s.reg.window.isOpen then if windowEnds s then closeWindow s else s
  else if windowStarts s then openWindow false s
  else s

/-- The mark window at a pitch boundary: where T is 0 a closed one opens into pocket index 0 (R8). -/
def windowBoundary (s : State) : State :=
  if s.reg.window.isOpen = false ∧ (geometryItems s).tolerance = 0 ∧ s.reg.pocketIndex = 0 then openWindow false s else s

/-! ## The order of block events -/

/-- The block events of a count that brings a phase above 0. -/
def phaseTasks : List PulseTask := .window :: allStations.map PulseTask.station ++ [.carrier, .disposition]

/-- The block events of the phase the count has come to: where that phase was issued before an alignment in this pitch, the
phase events are not issued again and the mark window alone is looked at (R9). A phase that a SET GEOMETRY or a SET STATION
has since moved to one of them is not issued in this pitch either: the model's choice between R3 and R9 (log 29). -/
def dueTasks (s : State) : List PulseTask := if s.reg.issuedTo < s.reg.phase then phaseTasks else [.window]

/-- The block events of a pitch boundary, which follow the track's advance (R2, R61, R76). -/
def boundaryTasks : List PulseTask := [.entry, .carrier, .disposition]

/-- The tasks in the order the command gives, those it does not name after them (log 6). -/
def schedule (order tasks : List PulseTask) : List PulseTask :=
  (order.eraseDups.filter fun t => tasks.contains t) ++ tasks.filter fun t => !order.contains t

/-- A block event at a phase above 0 (R3, R8). -/
def phaseTask (t : PulseTask) (s : State) : State :=
  match t with
  | .window => windowPhase s
  | .station i => stationPhase i s
  | .carrier =>
    if s.reg.phase = (geometryItems s).dumpPhase then dumpPhase s
    else if s.reg.phase = (geometryItems s).applyPhase then applyPhase s
    else s
  | .disposition => if s.reg.phase = (geometryItems s).gatePhase then gatePhase s else s
  | .entry => s

/-- A block event at a pitch boundary (R2). -/
def boundaryTask (t : PulseTask) (s : State) : State :=
  match t with
  | .entry => entryEvent s
  | .carrier => settleCarrier s
  | .disposition => dispositionBoundary s
  | .window => s
  | .station _ => s

/-- Block events taken one after another, each to its end (log 23). -/
def runTasks (task : PulseTask → State → State) (tasks : List PulseTask) (s : State) : State :=
  tasks.foldl (fun s t => settle (task t s)) s

/-! ## Counts -/

/-- The track moves every entry one position on; the entry at g is dropped and position 0 is free until the entry event
fills it (R76). -/
def advanceTrack (s : State) : State := s.setTrack (.empty none 0 :: s.track.dropLast)

/-- The track's advance whole: the move, and the verify settlement that is part of it and comes before every other block,
the entry unit among them, takes the boundary (R61, R76, R118). The settlement is ended with the faults of its own dropped
messages (log 23). -/
def advance (s : State) : State := settle (settleVerify (advanceTrack s))

/-- A pitch boundary handed to the blocks (R2), with the phase counter at 0, no phase of the new pitch issued, and the new
pocket index. -/
def issueBoundary (index : Nat) (order : List PulseTask) (s : State) : State :=
  runTasks boundaryTask (schedule order boundaryTasks)
    (advance (s.setReg { s.reg with phase := 0, issuedTo := 0, pocketIndex := index }))

/-- A count that is a pitch boundary (R2, R4, R8). -/
def countBoundary (g : Geometry) (order : List PulseTask) (s : State) : State :=
  let index := (s.reg.pocketIndex + 1) % g.chainLength
  let s := releasePulses g.pitch (s.setReg { s.reg with phase := 0, pocketIndex := index })
  issueBoundary index order (windowBoundary s)

/-- A count that brings a phase above 0 (R2, R3, R4, R9). -/
def countPhase (order : List PulseTask) (s : State) : State :=
  let s := s.setReg { s.reg with phase := s.reg.phase + 1 }
  runTasks phaseTask (schedule order (dueTasks s)) (releasePulses s.reg.phase s)

/-- A count (R2). -/
def takeCount (g : Geometry) (order : List PulseTask) (s : State) : State :=
  if s.reg.phase + 1 < g.pitch then countPhase order s else countBoundary g order s

/-- An encoder pulse (R1); it is discarded before the first SET GEOMETRY. -/
def takePulse (order : List PulseTask) (s : State) : State :=
  match s.setup.geometry with
  | none => s
  | some g =>
    if s.reg.remainder + 1 < g.divider then s.setReg { s.reg with remainder := s.reg.remainder + 1 }
    else takeCount g order (s.setReg { s.reg with remainder := 0 })

/-! ## Home marks -/

/-- The phases issued in the pitch that an alignment leaves running: those up to its q and those up to an earlier
alignment's in the same pitch, or none where it issues a boundary (R9, log 26). -/
def phasesIssued (g : Geometry) (r : Registration) : Nat :=
  if g.pitch ≤ 2 * r.phase then 0 else max r.issuedTo r.phase

/-- An alignment to a mark (R9). -/
def align (g : Geometry) (order : List PulseTask) (s : State) : State :=
  let issued := phasesIssued g s.reg
  let s := if g.pitch ≤ 2 * s.reg.phase then issueBoundary 0 order s else s
  openWindow true (releaseAllPulses
    (s.setReg { s.reg with phase := 0, issuedTo := issued, pocketIndex := 0, remainder := 0 }))

/-- The first mark in UNREGISTERED or LOST (R10, R15). -/
def beginSeeking (g : Geometry) (order : List PulseTask) (s : State) : State :=
  let s := align g order s
  postState (.registration .seeking) (s.setReg { s.reg with goodMarks := 0, state := .seeking })

/-- A mark is good: the window is open and has seen none (R8). -/
def markIsGood (s : State) : Bool := s.reg.window.isOpen && !s.reg.window.markSeen

/-- A good mark in SEEKING (R11). -/
def goodMarkSeeking (s : State) : State :=
  let s := seeMark s
  if s.reg.goodMarks + 1 < 2 then setGoodMarks (s.reg.goodMarks + 1) s
  else
    postState (.registration .registered)
      (s.setReg { s.reg with state := .registered, goodMarks := 0, faultWindow := none })

/-- A home mark (R7); it is ignored before the first SET GEOMETRY. -/
def takeMark (order : List PulseTask) (s : State) : State :=
  match s.setup.geometry with
  | none => s
  | some g =>
    match s.reg.state with
    | .unregistered => beginSeeking g order s
    | .lost => beginSeeking g order s
    | .seeking => if markIsGood s then goodMarkSeeking s else setGoodMarks 0 (align g order s)
    | .registered => if markIsGood s then seeMark s else badEvent s

/-! ## CHAIN CLEAR and the restart of the count -/

/-- CHAIN CLEAR (R16). -/
def takeChainClear (p : Port) (num : Byte) (payload : List Byte) (s : State) : State :=
  if p ≠ .line then refuse p num .wrongPort s
  else if payload ≠ [] then refuse p num .badLength s
  else if s.reg.chainClearPending then
    postState (.chainClear false) (accept p num (s.setReg { s.reg with chainClearPending := false }))
  else accept p num s

/-- The count restarted by a change of P, L or the divider (R18). -/
def restartCount (s : State) : State :=
  let r := { s.reg with
    state := .unregistered, phase := 0, issuedTo := 0, pocketIndex := 0, remainder := 0, goodMarks := 0, faultWindow := none,
    window := { s.reg.window with isOpen := false, markSeen := false } }
  let t := releaseAllPulses (s.setReg r)
  if s.reg.state = .unregistered then t else postState (.registration .unregistered) t

/-! ## The commands -/

/-- ENCODER_PULSE: the detect lines as they stand are sampled with it (R1, R83, log 13). -/
def execEncoderPulse (detectA detectB : BitVec 12) (order : List PulseTask) (s : State) :
    Host.Outcome State Fault Refusal :=
  answerEvent (takePulse order) (s.setPins { detectA := detectA, detectB := detectB })

/-- HOME_MARK. -/
def execHomeMark (order : List PulseTask) (s : State) : Host.Outcome State Fault Refusal :=
  answerEvent (takeMark order) s

/-- CHAIN_CLEAR. -/
def execChainClear (p : Port) (num : Byte) (payload : List Byte) (s : State) : Host.Outcome State Fault Refusal :=
  answerMessage p (takeChainClear p num payload) s

end Sys2Proof.Machine
end

