-- ==== Sys2Proof/Machine/Setup.lean ====
section
/-! DEFINITION. The setup store's requests (spec/02): SET GEOMETRY, SET STATION, CLEAR STATION, SET LOCKOUT, and the
setup-valid condition. -/

namespace Sys2Proof.Machine

/-- The port holds the setup claim (R27, R30). -/
def isHolder (p : Port) (s : State) : Bool := s.run.claim.map Claim.holder = some p

/-- The state that takes a change of the geometry or the station table: the gate in CLOSED or HALT, and no piece records
(R30). -/
def setupOpen (s : State) : Bool := (s.run.gate = .closed ∨ s.run.gate = .halt) && trackClear s

/-! ## Checks of the store -/

/-- A station entry satisfies R34 under a geometry. -/
def entryAgrees (g : Geometry) (i : Fin 12) (s : State) : Bool :=
  match stationAt i s with
  | none => true
  | some e => stationAgrees g e && e.alternate ≠ some i

/-- R32's fourth check against the station table, the bundle table and the printed count. -/
def geometryAgrees (g : Geometry) (s : State) : Bool :=
  geometryInRange g && (allStations.all fun i => entryAgrees g i s) &&
    (s.bundles.table.all fun b => b.bay < g.bays) && s.carrier.printedCount ≤ g.depth

/-- A station entry is written. -/
def someStation (s : State) : Bool := allStations.any fun i => (stationAt i s).isSome

/-- The setup-valid condition (R36). -/
def setupValid (s : State) : Bool :=
  match s.setup.geometry with
  | none => false
  | some g => geometryAgrees g s && someStation s

/-! ## SET GEOMETRY -/

/-- An entry as a longer track keeps it: GATED becomes EMPTY (R91). -/
def keptEntry : TrackEntry → TrackEntry
  | .gated pocket _ => .empty (some pocket) 0
  | e => e

/-- Fresh positions: EMPTY, pocket index absent (R91, R92). -/
def emptyPositions (n : Nat) : List TrackEntry := List.replicate n (.empty none 0)

/-- The track with g+1 positions (R91). -/
def resizeTrack (g : Nat) (s : State) : State :=
  if g + 1 < s.track.length then s.setTrack (s.track.take (g + 1))
  else s.setTrack (s.track.map keptEntry ++ emptyPositions (g + 1 - s.track.length))

/-- A change of g (R91), which clears a gate due (R128). R133 gives the track position of its GATE_FAIL as g without saying
which: the model gives the old one, where the reject stands (log 33). -/
def changeGatePosition (old new : Nat) (s : State) : State :=
  if old = new then s else resizeTrack new (clearGateDue old s)

/-- A change of P, L or the divider (R18). -/
def changesCount (old new : Geometry) : Bool :=
  old.pitch ≠ new.pitch || old.chainLength ≠ new.chainLength || old.divider ≠ new.divider

/-- The effects of an accepted SET GEOMETRY on the other blocks (R33, R18, R91, R116, R128). The power-on items stand for
the unset ones, from which the first geometry differs in P, L and g. Their order is the model's (log 17). -/
def applyGeometry (old new : Geometry) (s : State) : State :=
  let s := if changesCount old new then restartCount s else s
  let s := changeGatePosition old.gate new.gate s
  if old.verify = new.verify then s else s.setVerify { mismatchRun := 0 }

/-- SET GEOMETRY (R30, R32, R33). -/
def takeSetGeometry (p : Port) (num : Byte) (payload : List Byte) (s : State) : State :=
  if isHolder p s = false then refuse p num .notHolder s
  else
    match parseGeometry payload with
    | none => refuse p num .badLength s
    | some g =>
      if setupOpen s = false then refuse p num .wrongState s
      else if geometryAgrees g s = false then refuse p num .outOfRange s
      else applyGeometry (geometryItems s) g (accept p num (s.setSetup { s.setup with geometry := some g }))

/-! ## Station entries -/

/-- A station entry written or emptied, its call-outstanding flag cleared (R34, R35, R81). -/
def writeStation (i : Fin 12) (e : Option Station) (s : State) : State :=
  setCallOutstanding i false (setStationEntry i e s)

/-- SET STATION past its length check (R34). -/
def judgeStation (p : Port) (num : Byte) (f : StationFields) (s : State) : State :=
  match s.setup.geometry with
  | none => refuse p num .wrongState s
  | some g =>
    if setupOpen s = false then refuse p num .wrongState s
    else
      match checkedStation g f with
      | none => refuse p num .outOfRange s
      | some (i, e) => accept p num (writeStation i (some e) s)

/-- SET STATION (R30, R34). -/
def takeSetStation (p : Port) (num : Byte) (payload : List Byte) (s : State) : State :=
  if isHolder p s = false then refuse p num .notHolder s
  else
    match parseStation payload with
    | none => refuse p num .badLength s
    | some f => judgeStation p num f s

/-- CLEAR STATION (R30, R35). -/
def takeClearStation (p : Port) (num : Byte) (payload : List Byte) (s : State) : State :=
  if isHolder p s = false then refuse p num .notHolder s
  else if payload.length ≠ 1 then refuse p num .badLength s
  else if setupOpen s = false then refuse p num .wrongState s
  else
    match stationIndex (field payload 0 1) with
    | none => refuse p num .outOfRange s
    | some i => accept p num (writeStation i none s)

/-! ## SET LOCKOUT -/

/-- The pocket index may be locked out: below 1024 and, with L set, below L (R37). -/
def lockable (s : State) (n : Nat) : Bool :=
  n < Config.pocketBound &&
    match s.setup.geometry with
    | none => true
    | some g => n < g.chainLength

/-- SET LOCKOUT (R37). -/
def takeSetLockout (p : Port) (num : Byte) (payload : List Byte) (s : State) : State :=
  if isHolder p s = false then refuse p num .notHolder s
  else
    match parseIndices payload with
    | none => refuse p num .badLength s
    | some l =>
      if Config.lockoutCapacity < l.length ∨ l.all (lockable s) = false then refuse p num .outOfRange s
      else accept p num (s.setEntry { s.entry with lockout := indexSet l })

/-! ## The commands -/

/-- SET_GEOMETRY. -/
def execSetGeometry (p : Port) (num : Byte) (payload : List Byte) (s : State) : Host.Outcome State Fault Refusal :=
  answerMessage p (takeSetGeometry p num payload) s

/-- SET_STATION. -/
def execSetStation (p : Port) (num : Byte) (payload : List Byte) (s : State) : Host.Outcome State Fault Refusal :=
  answerMessage p (takeSetStation p num payload) s

/-- CLEAR_STATION. -/
def execClearStation (p : Port) (num : Byte) (payload : List Byte) (s : State) : Host.Outcome State Fault Refusal :=
  answerMessage p (takeClearStation p num payload) s

/-- SET_LOCKOUT. -/
def execSetLockout (p : Port) (num : Byte) (payload : List Byte) (s : State) : Host.Outcome State Fault Refusal :=
  answerMessage p (takeSetLockout p num payload) s

end Sys2Proof.Machine
end

