-- ==== Sys2Proof/Machine/FaultRequests.lean ====
section
/-! DEFINITION. The fault unit's requests (spec/10): SET ACTION, SET LINE MASK, ALERT CLEAR, the logs, the counts, and
SUBSCRIBE. -/

namespace Sys2Proof.Machine

/-! ## The action table and the lines -/

/-- The fields of a SET ACTION in range (R152). -/
def parseAction (payload : List Byte) : Option (FaultKind × Action × Steering) :=
  match kindOfNumber (field payload 0 1), actionOfCode (field payload 1 1), steeringOfCode (field payload 2 1) with
  | some k, some a, some t => if actionAllowed k a then some (k, a, t) else none
  | _, _, _ => none

/-- SET ACTION (R30, R152). -/
def takeSetAction (p : Port) (num : Byte) (payload : List Byte) (s : State) : State :=
  if isHolder p s = false then refuse p num .notHolder s
  else if payload.length ≠ 3 then refuse p num .badLength s
  else
    match parseAction payload with
    | none => refuse p num .outOfRange s
    | some (k, a, t) =>
      accept p num (s.setFault { s.fault with actions := s.fault.actions.set (kindIndex k) (a, t) })

/-- Both suppress flags replaced, and the latch of each line now suppressed cleared (R155). -/
def setMask (alarm slow : Bool) (s : State) : State :=
  s.setFault { s.fault with
    maskAlarm := alarm, maskSlow := slow, alarm := s.fault.alarm && !alarm, slow := s.fault.slow && !slow }

/-- SET LINE MASK (R30, R155). -/
def takeSetLineMask (p : Port) (num : Byte) (payload : List Byte) (s : State) : State :=
  if isHolder p s = false then refuse p num .notHolder s
  else
    match payload with
    | [b] => accept p num (setMask (b.getLsbD 0) (b.getLsbD 1) s)
    | _ => refuse p num .badLength s

/-- ALERT CLEAR (R156). -/
def takeAlertClear (p : Port) (num : Byte) (payload : List Byte) (s : State) : State :=
  if p ≠ .line then refuse p num .wrongPort s
  else if payload ≠ [] then refuse p num .badLength s
  else accept p num (s.setFault { s.fault with alarm := false, slow := false })

/-! ## The logs -/

/-- READ LOG's payload: an empty log, or a held one with its next count and record (R158). -/
def logBytes (c : LogClass) (l : Option FaultLog) : List Byte :=
  match l with
  | none => be 1 (logClassCode c) ++ be 1 0
  | some l => be 1 (logClassCode c) ++ be 1 1 ++ be 1 l.next ++ faultRecordBytes l.record

/-- READ LOG (R158). -/
def takeReadLog (p : Port) (num : Byte) (payload : List Byte) (s : State) : State :=
  if payload.length ≠ 1 then refuse p num .badLength s
  else
    match logClassOfCode (field payload 0 1) with
    | none => refuse p num .outOfRange s
    | some c => acceptWith p num (logBytes c (logOf c s)) s

/-- CLEAR LOG (R159). -/
def takeClearLog (p : Port) (num : Byte) (payload : List Byte) (s : State) : State :=
  if p ≠ .line ∧ isHolder p s = false then refuse p num .notHolder s
  else if payload.length ≠ 1 then refuse p num .badLength s
  else
    match logClassOfCode (field payload 0 1) with
    | none => refuse p num .outOfRange s
    | some c => accept p num (setLog c none s)

/-! ## The counts -/

/-- READ COUNTS' payload: each kind's count, action and steering (R160). -/
def countsBytes (s : State) : List Byte :=
  allKinds.flatMap fun k =>
    be 2 s.fault.counts[kindIndex k] ++ be 1 (actionCode (actionOf k s)) ++ be 1 (steeringCode (steeringOf k s))

/-- READ COUNTS (R160). -/
def takeReadCounts (p : Port) (num : Byte) (payload : List Byte) (s : State) : State :=
  if payload ≠ [] then refuse p num .badLength s else acceptWith p num (countsBytes s) s

/-- CLEAR COUNTS (R160). -/
def takeClearCounts (p : Port) (num : Byte) (payload : List Byte) (s : State) : State :=
  if payload ≠ [] then refuse p num .badLength s
  else accept p num (s.setFault { s.fault with counts := Vector.replicate 22 0 })

/-! ## Subscriptions -/

/-- SUBSCRIBE (R161). -/
def takeSubscribe (p : Port) (num : Byte) (payload : List Byte) (s : State) : State :=
  match payload with
  | [b] =>
    match parseSubscription b with
    | none => refuse p num .outOfRange s
    | some x => accept p num (s.setFault { s.fault with subs := portSet s.fault.subs p x })
  | _ => refuse p num .badLength s

/-! ## The commands -/

/-- SET_ACTION. -/
def execSetAction (p : Port) (num : Byte) (payload : List Byte) (s : State) : Host.Outcome State Fault Refusal :=
  answerMessage p (takeSetAction p num payload) s

/-- SET_LINE_MASK. -/
def execSetLineMask (p : Port) (num : Byte) (payload : List Byte) (s : State) : Host.Outcome State Fault Refusal :=
  answerMessage p (takeSetLineMask p num payload) s

/-- ALERT_CLEAR. -/
def execAlertClear (p : Port) (num : Byte) (payload : List Byte) (s : State) : Host.Outcome State Fault Refusal :=
  answerMessage p (takeAlertClear p num payload) s

/-- READ_LOG. -/
def execReadLog (p : Port) (num : Byte) (payload : List Byte) (s : State) : Host.Outcome State Fault Refusal :=
  answerMessage p (takeReadLog p num payload) s

/-- CLEAR_LOG. -/
def execClearLog (p : Port) (num : Byte) (payload : List Byte) (s : State) : Host.Outcome State Fault Refusal :=
  answerMessage p (takeClearLog p num payload) s

/-- READ_COUNTS. -/
def execReadCounts (p : Port) (num : Byte) (payload : List Byte) (s : State) : Host.Outcome State Fault Refusal :=
  answerMessage p (takeReadCounts p num payload) s

/-- CLEAR_COUNTS. -/
def execClearCounts (p : Port) (num : Byte) (payload : List Byte) (s : State) : Host.Outcome State Fault Refusal :=
  answerMessage p (takeClearCounts p num payload) s

/-- SUBSCRIBE. -/
def execSubscribe (p : Port) (num : Byte) (payload : List Byte) (s : State) : Host.Outcome State Fault Refusal :=
  answerMessage p (takeSubscribe p num payload) s

end Sys2Proof.Machine
end

