-- ==== Sys2Proof/Machine/Reads.lean ====
section
/-! DEFINITION. The reads: STATUS (R173), READ TRACK (R90), READ QUEUE (R59), READ BUNDLE (R148), READ ORDERS (R112), with
the layouts of spec/11 section 11.8. -/

namespace Sys2Proof.Machine

/-! ## STATUS -/

/-- `n` free bytes, the first of them the `k`-th (log 19). -/
def freeBytes (k n : Nat) : List Byte := (List.range n).map fun i => Config.freeByte (k + i)

/-- One station entry of STATUS. In an empty entry the flags are all that the spec states; the nine bytes of its fields are
free values (log 19). Bits 3 to 7 of the flags are not assigned and sent as 0 (log 27). -/
def stationBytes (s : State) (i : Fin 12) : List Byte :=
  match stationAt i s with
  | none => be 1 (flagBits [false, false, s.callOutstanding[i]]) ++ freeBytes (s.freeTaken + 9 * i.val) 9
  | some e =>
    be 1 (flagBits [true, e.on, s.callOutstanding[i]]) ++ be 1 e.position ++ be 1 e.item ++
      be 1 ((e.alternate.map Fin.val).getD 0xFF) ++ be 2 e.callPhase ++ be 2 e.callWidth ++ be 2 e.detectPhase

/-- STATUS offsets 0 to 6. -/
def statusRegistration (s : State) : List Byte :=
  be 1 (regCode s.reg.state) ++ be 2 s.reg.pocketIndex ++ be 2 s.reg.phase ++
    be 1 (flagsA s.reg.chainClearPending (setupValid s) s.setup.geometry.isSome s.fault.stopLatch s.entry.starving
      s.entry.itemUnavailable s.disp.proofPending) ++
    be 1 (gateCode s.run.gate)

/-- STATUS offsets 7 to 27. -/
def statusWork (s : State) : List Byte :=
  be 1 ((s.run.claim.map fun c => portNumber c.holder).getD 0xFF) ++ be 1 (carrierCode s.carrier.mode) ++
    be 1 s.carrier.queue.length ++ be 1 s.carrier.printedCount ++ be 3 s.carrier.nextOrder ++
    be 1 (jobCode s.store.jobState) ++ be 2 (s.store.jobNumber.getD 0) ++ be 3 s.store.loadMark ++
    be 2 s.store.queue.length ++ be 1 s.store.lane.length ++ be 2 s.store.backlog.length ++ be 3 (textRoom s)

/-- A STRAY entry. -/
def isStray : TrackEntry → Bool
  | .stray _ _ _ => true
  | _ => false

/-- STATUS offsets 28 to 40. -/
def statusTrack (s : State) : List Byte :=
  be 1 (entryResultCode s.entry.result) ++ be 3 (s.entry.awaitingBay.getD 0) ++ be 2 s.entry.nextTag ++
    be 1 (pieces s).length ++ be 1 (s.track.filter isStray).length ++ be 1 s.verify.mismatchRun ++
    be 1 s.disp.confirms.length ++ be 1 s.bundles.table.length ++ be 1 (freeBays s).length ++
    be 1 (flagsB s.fault.alarm s.fault.slow s.fault.maskAlarm s.fault.maskSlow)

/-- The STATUS reply, 187 bytes (R173). -/
def statusBytes (s : State) : List Byte :=
  statusRegistration s ++ statusWork s ++ statusTrack s ++ geometryBytes (geometryItems s) ++
    allStations.flatMap (stationBytes s)

/-- STATUS (R173). The count of free bytes moves past those of this reply (log 19). -/
def takeStatus (p : Port) (num : Byte) (payload : List Byte) (s : State) : State :=
  if payload ≠ [] then refuse p num .badLength s
  else acceptWith p num (statusBytes s) (s.setFreeTaken (s.freeTaken + 108))

/-! ## READ TRACK -/

/-- Position, entry kind and pocket index of a READ TRACK reply. -/
def trackHead (p kind : Nat) (pocket : Option Nat) : List Byte := be 1 p ++ be 1 kind ++ be 2 (pocket.getD 0xFFFF)

/-- The plan pairs with their feed results. -/
def planBytes (plan : List PlanPair) : List Byte :=
  plan.flatMap fun q => be 1 q.item ++ be 1 q.station.val ++ be 1 (feedResultCode q.result)

/-- The piece fields of a READ TRACK reply. -/
def pieceBytes (x : Piece) : List Byte :=
  be 2 x.tag ++ be 4 x.record.key ++ be 3 x.record.bundle ++ be 2 x.record.items.toNat ++ be 1 x.record.attempt ++
    be 1 (sourceListCode x.source) ++ be 1 x.plan.length ++ planBytes x.plan ++ be 2 x.extra.toNat ++
    be 3 (x.carrier.getD 0) ++ be 1 (fateCode x.fate) ++ be 3 (x.applied.getD 0) ++ be 1 x.reprints ++
    be 1 (verifyCode x.verify) ++ be 1 (wrapCode x.wrap) ++ be 3 x.faults.toNat ++
    be 1 ((x.firstKind.map kindNumber).getD 0) ++ be 1 (yesNo x.rejectDue) ++ be 1 (yesNo x.proof)

/-- The payload of a READ TRACK reply (R90). -/
def entryBytes (p : Nat) : TrackEntry → List Byte
  | .empty pocket extra => trackHead p 0 pocket ++ be 2 extra.toNat
  | .locked pocket extra => trackHead p 1 (some pocket) ++ be 2 extra.toNat
  | .stray pocket extra cause => trackHead p 2 pocket ++ be 2 extra.toNat ++ be 1 (strayCauseCode cause)
  | .piece x => trackHead p 3 (some x.pocket) ++ pieceBytes x
  | .gated pocket tag => trackHead p 4 (some pocket) ++ be 2 tag

/-- READ TRACK (R90). -/
def takeReadTrack (p : Port) (num : Byte) (payload : List Byte) (s : State) : State :=
  if payload.length ≠ 1 then refuse p num .badLength s
  else
    match entryAt (field payload 0 1) s with
    | none => refuse p num .outOfRange s
    | some e => acceptWith p num (entryBytes (field payload 0 1) e) s

/-! ## READ QUEUE -/

/-- The payload of a READ QUEUE reply (R59). -/
def queueBytes (index : Nat) (r : Record) (s : State) : List Byte :=
  be 2 index ++ be 1 (sourceListCode (if index < s.store.queue.length then .queue else .lane)) ++ be 4 r.key ++
    be 3 r.bundle ++ be 2 r.items.toNat ++ be 1 r.attempt ++ be 1 (backlogCode (backlogOutcome r.key s)) ++
    be 1 r.lines.length ++ linesBytes r.lines

/-- READ QUEUE: the queue from its head, then the lane from its oldest record (R59). -/
def takeReadQueue (p : Port) (num : Byte) (payload : List Byte) (s : State) : State :=
  if payload.length ≠ 2 then refuse p num .badLength s
  else
    match (s.store.queue ++ s.store.lane)[field payload 0 2]? with
    | none => refuse p num .outOfRange s
    | some r => acceptWith p num (queueBytes (field payload 0 2) r s) s

/-! ## READ BUNDLE -/

/-- The highest count a TIED can carry and be accepted with (R143): its count has three bytes (log 25). -/
def highestTied (b : Bundle) : Nat := min (b.delivered + b.suspects) Config.bundleCountLimit

/-- The range of TIED counts that would now be accepted (R143), 0 for an entry not in CLOSING. -/
def tiedRange (b : Bundle) : List Byte :=
  if b.state = .closing then be 3 b.delivered ++ be 3 (highestTied b) else be 3 0 ++ be 3 0

/-- The payload of a READ BUNDLE reply (R148). -/
def bundleBytes (slot : Nat) (b : Bundle) : List Byte :=
  be 1 slot ++ be 3 b.number ++ be 1 b.bay ++ be 1 (bundleStateCode b.state) ++ be 1 (yesNo b.short) ++
    be 1 b.inFlight ++ be 1 b.inLane ++ be 3 b.delivered ++ be 3 b.offSequence ++ be 3 b.suspects ++
    be 1 (yesNo b.tieTimer.isSome) ++ be 2 (b.tieTimer.getD 0) ++ tiedRange b

/-- READ BUNDLE (R148). -/
def takeReadBundle (p : Port) (num : Byte) (payload : List Byte) (s : State) : State :=
  if payload.length ≠ 1 then refuse p num .badLength s
  else
    match s.bundles.table[field payload 0 1]? with
    | none => refuse p num .outOfRange s
    | some b => acceptWith p num (bundleBytes (field payload 0 1) b) s

/-! ## READ ORDERS -/

/-- The position of an order's piece, for an order in ISSUED or PRINTED; else FFh (R112). -/
def orderPosition (o : Order) (s : State) : Nat :=
  match o.state with
  | .issued => ((orderOwner o.number s).map Prod.fst).getD 0xFF
  | .printed => ((orderOwner o.number s).map Prod.fst).getD 0xFF
  | .withdrawing => 0xFF
  | .wastePending => 0xFF
  | .waste => 0xFF

/-- The payload of a READ ORDERS reply (R112). -/
def orderBytes (index : Nat) (o : Order) (s : State) : List Byte :=
  be 1 index ++ be 3 o.number ++ be 2 (matchCode o.number) ++ be 2 o.tag ++ be 1 (orderStateCode o.state) ++
    be 1 (orderPosition o s)

/-- READ ORDERS (R112). -/
def takeReadOrders (p : Port) (num : Byte) (payload : List Byte) (s : State) : State :=
  if payload.length ≠ 1 then refuse p num .badLength s
  else
    match s.carrier.queue[field payload 0 1]? with
    | none => refuse p num .outOfRange s
    | some o => acceptWith p num (orderBytes (field payload 0 1) o s) s

/-! ## The commands -/

/-- STATUS. -/
def execStatus (p : Port) (num : Byte) (payload : List Byte) (s : State) : Host.Outcome State Fault Refusal :=
  answerMessage p (takeStatus p num payload) s

/-- READ_TRACK. -/
def execReadTrack (p : Port) (num : Byte) (payload : List Byte) (s : State) : Host.Outcome State Fault Refusal :=
  answerMessage p (takeReadTrack p num payload) s

/-- READ_QUEUE. -/
def execReadQueue (p : Port) (num : Byte) (payload : List Byte) (s : State) : Host.Outcome State Fault Refusal :=
  answerMessage p (takeReadQueue p num payload) s

/-- READ_BUNDLE. -/
def execReadBundle (p : Port) (num : Byte) (payload : List Byte) (s : State) : Host.Outcome State Fault Refusal :=
  answerMessage p (takeReadBundle p num payload) s

/-- READ_ORDERS. -/
def execReadOrders (p : Port) (num : Byte) (payload : List Byte) (s : State) : Host.Outcome State Fault Refusal :=
  answerMessage p (takeReadOrders p num payload) s

end Sys2Proof.Machine
end

