-- ==== Sys2Proof/Machine/Reset.lean ====
section
/-! DEFINITION. Power-on and RESTART (R38, R39 and the last rules of chapters 1 to 11). -/

namespace Sys2Proof.Machine

/-- Power-on or the reset input: every block at its power-on values, nothing sent (R39, R163, R174). The waiting commands
are no part of the block, and the count of free bytes goes on. -/
def powerOnState (s : State) : State := (State.reset.setPending s.pending).setFreeTaken s.freeTaken

/-- A port after RESTART: its speed kept (R174). -/
def restartedPort (x : PortState) : PortState := { PortState.powerOn with speed := x.speed }

/-- The track after RESTART, by the kept geometry (R92). -/
def restartedTrack (setup : Setup) : List TrackEntry :=
  match setup.geometry with
  | none => []
  | some g => emptyPositions (g.gate + 1)

/-- The fault unit after RESTART (R163). -/
def restartedFaults (f : FaultUnit) : FaultUnit :=
  { FaultUnit.powerOn with
    actions := f.actions, maskAlarm := f.maskAlarm, maskSlow := f.maskSlow, subs := f.subs }

/-- Every block at its values after RESTART, before the link unit queues anything (R38). -/
def restartedState (s : State) : State :=
  { powerOnState s with
    pins := s.pins
    run := { gate := .closed, claim := s.run.claim }
    setup := s.setup
    entry := { EntryUnit.powerOn with lockout := s.entry.lockout }
    track := restartedTrack s.setup
    fault := restartedFaults s.fault
    link := { LinkUnit.powerOn with
      ports := { line := restartedPort s.link.ports.line, address := restartedPort s.link.ports.address,
                 carrier := restartedPort s.link.ports.carrier, delivery := restartedPort s.link.ports.delivery } } }

/-- RESTART (R30, R38). -/
def takeRestart (p : Port) (num : Byte) (payload : List Byte) (s : State) : State :=
  if isHolder p s = false then refuse p num .notHolder s
  else if payload ≠ [] then refuse p num .badLength s
  else postTo allPorts (stateFrame .restart) (accept p num (restartedState s))

/-- POWER_ON. -/
def execPowerOn (s : State) : Host.Outcome State Fault Refusal := .next (powerOnState s)

/-- RESTART. -/
def execRestart (p : Port) (num : Byte) (payload : List Byte) (s : State) : Host.Outcome State Fault Refusal :=
  answerMessage p (takeRestart p num payload) s

end Sys2Proof.Machine
end

