-- ==== Sys2Proof/Machine/RunControl.lean ====
section
/-! DEFINITION. Run control (spec/02): RUN, HOLD, DRAIN, STOP CLEAR, and the setup claim. -/

namespace Sys2Proof.Machine

/-! ## The gate

The ACCEPT is queued before the STATE notice of a change (log 10). -/

/-- The four conditions of RUN (R21). -/
def runReady (s : State) : Bool :=
  setupValid s && s.reg.state = .registered && s.carrier.mode = .run &&
    (s.store.jobState = .loading ∨ s.store.jobState = .ended)

/-- RUN (R21). -/
def takeRun (p : Port) (num : Byte) (payload : List Byte) (s : State) : State :=
  if p ≠ .line then refuse p num .wrongPort s
  else if payload ≠ [] then refuse p num .badLength s
  else if s.run.gate = .halt then refuse p num .wrongState s
  else if s.run.gate = .opened then accept p num s
  else if runReady s then changeGate .opened (accept p num s)
  else refuse p num .wrongState s

/-- HOLD (R22). -/
def takeHold (p : Port) (num : Byte) (payload : List Byte) (s : State) : State :=
  if p ≠ .line then refuse p num .wrongPort s
  else if payload ≠ [] then refuse p num .badLength s
  else if s.run.gate = .halt then refuse p num .wrongState s
  else changeGate .closed (accept p num s)

/-- DRAIN (R23). -/
def takeDrain (p : Port) (num : Byte) (payload : List Byte) (s : State) : State :=
  if p ≠ .line then refuse p num .wrongPort s
  else if payload ≠ [] then refuse p num .badLength s
  else if s.run.gate = .halt then refuse p num .wrongState s
  else if s.run.gate = .closed ∧ setupValid s = false then refuse p num .wrongState s
  else changeGate .drain (accept p num s)

/-- STOP CLEAR (R25). -/
def takeStopClear (p : Port) (num : Byte) (payload : List Byte) (s : State) : State :=
  if p ≠ .line then refuse p num .wrongPort s
  else if payload ≠ [] then refuse p num .badLength s
  else if s.fault.stopLatch = false then accept p num s
  else if s.reg.chainClearPending ∨ s.carrier.mode ≠ .run then refuse p num .wrongState s
  else changeGate .closed (accept p num (s.setFault { s.fault with stopLatch := false }))

/-! ## The claim -/

/-- CLAIM (R27). A renewal has started the timer again as the message was taken (R29). -/
def takeClaim (p : Port) (num : Byte) (payload : List Byte) (s : State) : State :=
  if payload ≠ [] then refuse p num .badLength s
  else
    match s.run.claim with
    | none => accept p num (s.setRun { s.run with claim := some { holder := p, elapsed := 0 } })
    | some c => if c.holder = p then accept p num s else post p (refuseClaimHeldFrame num c.holder) s

/-- RELEASE (R28). -/
def takeRelease (p : Port) (num : Byte) (payload : List Byte) (s : State) : State :=
  if payload ≠ [] then refuse p num .badLength s
  else if isHolder p s then accept p num (s.setRun { s.run with claim := none })
  else refuse p num .notHolder s

/-- The claim expires (R29); nothing where it is free (log 2). -/
def expireClaim (s : State) : State :=
  match s.run.claim with
  | none => s
  | some c => post c.holder claimExpiredFrame (s.setRun { s.run with claim := none })

/-! ## The commands -/

/-- RUN. -/
def execRun (p : Port) (num : Byte) (payload : List Byte) (s : State) : Host.Outcome State Fault Refusal :=
  answerMessage p (takeRun p num payload) s

/-- HOLD. -/
def execHold (p : Port) (num : Byte) (payload : List Byte) (s : State) : Host.Outcome State Fault Refusal :=
  answerMessage p (takeHold p num payload) s

/-- DRAIN. -/
def execDrain (p : Port) (num : Byte) (payload : List Byte) (s : State) : Host.Outcome State Fault Refusal :=
  answerMessage p (takeDrain p num payload) s

/-- STOP_CLEAR. -/
def execStopClear (p : Port) (num : Byte) (payload : List Byte) (s : State) : Host.Outcome State Fault Refusal :=
  answerMessage p (takeStopClear p num payload) s

/-- CLAIM. -/
def execClaim (p : Port) (num : Byte) (payload : List Byte) (s : State) : Host.Outcome State Fault Refusal :=
  answerMessage p (takeClaim p num payload) s

/-- RELEASE. -/
def execRelease (p : Port) (num : Byte) (payload : List Byte) (s : State) : Host.Outcome State Fault Refusal :=
  answerMessage p (takeRelease p num payload) s

/-- CLAIM_EXPIRY. -/
def execClaimExpiry (s : State) : Host.Outcome State Fault Refusal := answerEvent expireClaim s

end Sys2Proof.Machine
end

