-- ==== Sys2Proof/Machine/Link.lean ====
section
/-! DEFINITION. The link unit (spec/11): SET SPEED, the routing of a taken message, the receiver, the gap, and the sending
of messages. -/

namespace Sys2Proof.Machine

/-! ## SET SPEED and refused kinds -/

/-- The speed a code names (R164). -/
def speedOfCode (n : Nat) : Option (Fin 7) := if h : n < 7 then some ⟨n, h⟩ else none

/-- SET SPEED (R164). It is the sending of its ACCEPT that changes the speed (sendHead), so one whose ACCEPT is dropped by a full
queue changes none: the model's choice between R164 and R171 (log 31). -/
def takeSetSpeed (p : Port) (num : Byte) (payload : List Byte) (s : State) : State :=
  if payload.length ≠ 1 then refuse p num .badLength s
  else
    match speedOfCode (field payload 0 1) with
    | none => refuse p num .outOfRange s
    | some v => post p (acceptSpeedFrame num v) s

/-- A message of a kind that is not receivable (R169 check 1). -/
def takeUnknownKind (p : Port) (num : Byte) (s : State) : State := refuse p num .unknownKind s

/-! ## Routing -/

/-- What a taken message does in the block that owns it (R169). A command that is no message does nothing here. -/
def routeMessage (i : Instr) (s : State) : State :=
  match i with
  | .status p num payload => takeStatus p num payload s
  | .claim p num payload => takeClaim p num payload s
  | .release p num payload => takeRelease p num payload s
  | .subscribe p num payload => takeSubscribe p num payload s
  | .setSpeed p num payload => takeSetSpeed p num payload s
  | .readLog p num payload => takeReadLog p num payload s
  | .clearLog p num payload => takeClearLog p num payload s
  | .readCounts p num payload => takeReadCounts p num payload s
  | .clearCounts p num payload => takeClearCounts p num payload s
  | .readTrack p num payload => takeReadTrack p num payload s
  | .readQueue p num payload => takeReadQueue p num payload s
  | .readBundle p num payload => takeReadBundle p num payload s
  | .readOrders p num payload => takeReadOrders p num payload s
  | .setGeometry p num payload => takeSetGeometry p num payload s
  | .setStation p num payload => takeSetStation p num payload s
  | .clearStation p num payload => takeClearStation p num payload s
  | .setAction p num payload => takeSetAction p num payload s
  | .setLockout p num payload => takeSetLockout p num payload s
  | .restart p num payload => takeRestart p num payload s
  | .setLineMask p num payload => takeSetLineMask p num payload s
  | .run p num payload => takeRun p num payload s
  | .hold p num payload => takeHold p num payload s
  | .drain p num payload => takeDrain p num payload s
  | .stopClear p num payload => takeStopClear p num payload s
  | .chainClear p num payload => takeChainClear p num payload s
  | .stationOn p num payload => takeStationOn p num payload s
  | .stationOff p num payload => takeStationOff p num payload s
  | .proof p num payload => takeProof p num payload s
  | .alertClear p num payload => takeAlertClear p num payload s
  | .wrapFault p _ payload => takeWrapFault p payload s
  | .jobOpen p num payload => takeJobOpen p num payload s
  | .load p num payload => takeLoad p num payload s
  | .withdraw p num payload => takeWithdraw p num payload s
  | .jobEnd p num payload => takeJobEnd p num payload s
  | .jobAbort p num payload => takeJobAbort p num payload s
  | .closeShort p num payload => takeCloseShort p num payload s
  | .printed p _ payload => takePrinted p payload s
  | .spoiled p _ payload => takeSpoiled p payload s
  | .orderWithdrawn p _ payload => takeOrderWithdrawn p payload s
  | .orderLate p _ payload => takeOrderLate p payload s
  | .codeRead p _ payload => takeCodeRead p payload s
  | .noRead p _ payload => takeNoRead p payload s
  | .purged p _ payload => takePurged p payload s
  | .tied p _ payload => takeTied p payload s
  | .jam p _ payload => takeJam p payload s
  | .unknownKind p _ num => takeUnknownKind p num s
  | .encoderPulse _ _ _ => s
  | .homeMark _ => s
  | .pendingConfirmExpiry => s
  | .gateConfirm => s
  | .claimExpiry => s
  | .tieTimerExpiry _ => s
  | .gapLimitExpiry _ => s
  | .powerOn => s
  | .receiveCharacter _ _ => s
  | .checkFail _ _ _ => s
  | .messageSent _ => s
  | .speedChange _ => s
  | .outcomeBacklogRelease => s

/-! ## The receiver -/

/-- The receiver of a port put into a state (R166). -/
def setReceiver (p : Port) (x : Receiver) (s : State) : State :=
  setPortState p { portState p s with receiver := x } s

/-- A partial message abandoned, or a framing error: LINK_ERROR, with the receiver left in a state (R166, R167). -/
def abandonMessage (p : Port) (x : Receiver) (s : State) : State := linkError p (setReceiver p x s)

/-- A message whose check byte differs: LINK_ERROR, and CHECK FAIL for a request kind (R168). The claim's timer is not
touched. -/
def failCheck (p : Port) (kind num : Byte) (s : State) : State :=
  let s := abandonMessage p .idle s
  if isRequestKind kind then post p (checkFailFrame num) s else s

/-- A message whose characters before the check byte are complete (R168). -/
def completeMessage (p : Port) (chars : List Byte) (check : Byte) (s : State) : State :=
  match chars with
  | kind :: num :: _ :: payload =>
    if crc8 chars = check then routeMessage (commandOfMessage p kind num payload) (beginMessage p s)
    else failCheck p kind num s
  | _ => s

/-- The next character is the check byte: N payload bytes follow the length N (R166). -/
def expectsCheck (chars : List Byte) : Bool :=
  match chars with
  | _ :: _ :: n :: payload => payload.length = n.toNat
  | _ => false

/-- A character without marker taken in a message (R166). -/
def continueMessage (p : Port) (chars : List Byte) (b : Byte) (s : State) : State :=
  if expectsCheck chars then completeMessage p chars b s
  else if chars.length = 2 ∧ Config.payloadLimit < b.toNat then abandonMessage p .idle s
  else setReceiver p (.inMessage (chars ++ [b]) 0) s

/-- A character as it arrives on a port (R166). -/
def takeCharacter (p : Port) (c : Character) (s : State) : State :=
  if c.stopGood = false then abandonMessage p .idle s
  else
    match (portState p s).receiver, c.marker with
    | .idle, true => setReceiver p (.inMessage [c.data] 0) s
    | .idle, false => s
    | .inMessage _ _, true => abandonMessage p (.inMessage [c.data] 0) s
    | .inMessage chars _, false => continueMessage p chars c.data s

/-- The gap passes its limit in a message (R167); nothing in IDLE, where none is timed. -/
def expireGap (p : Port) (s : State) : State :=
  match (portState p s).receiver with
  | .idle => s
  | .inMessage _ _ => abandonMessage p .idle s

/-! ## Sending -/

/-- A port's speed changed, where it changes: the receiver returns to IDLE without LINK_ERROR (R164). -/
def changeSpeed (p : Port) (v : Fin 7) (s : State) : State :=
  if (portState p s).speed = v then s
  else setPortState p { portState p s with speed := v, receiver := .idle } s

/-- The message at the head has been sent: it leaves the queue, a SET SPEED's ACCEPT brings its speed (R164), and on the
address port the backlog is tested (R55, R171). Nothing where the queue is empty. -/
def sendHead (p : Port) (s : State) : State :=
  match txQueue p s with
  | [] => s
  | f :: rest =>
    let s := setPortState p { portState p s with tx := rest } s
    let s := match f.speed with
      | some v => changeSpeed p v s
      | none => s
    if p = .address then drainBacklog s else s

/-- The change of speed as an event of its own: the sending of the ACCEPT that brings it (log 8). -/
def sendSpeedAccept (p : Port) (s : State) : State :=
  match txQueue p s with
  | [] => s
  | f :: _ => if f.speed.isSome then sendHead p s else s

/-! ## The commands -/

/-- SET_SPEED. -/
def execSetSpeed (p : Port) (num : Byte) (payload : List Byte) (s : State) : Host.Outcome State Fault Refusal :=
  answerMessage p (takeSetSpeed p num payload) s

/-- UNKNOWN_KIND. -/
def execUnknownKind (p : Port) (_kind num : Byte) (s : State) : Host.Outcome State Fault Refusal :=
  answerMessage p (takeUnknownKind p num) s

/-- CHECK_FAIL. -/
def execCheckFail (p : Port) (kind num : Byte) (s : State) : Host.Outcome State Fault Refusal :=
  answerEvent (failCheck p kind num) s

/-- RECEIVE_CHARACTER. -/
def execReceiveCharacter (p : Port) (c : Character) (s : State) : Host.Outcome State Fault Refusal :=
  answerEvent (takeCharacter p c) s

/-- GAP_LIMIT_EXPIRY. -/
def execGapLimitExpiry (p : Port) (s : State) : Host.Outcome State Fault Refusal := answerEvent (expireGap p) s

/-- MESSAGE_SENT. -/
def execMessageSent (p : Port) (s : State) : Host.Outcome State Fault Refusal := answerEvent (sendHead p) s

/-- SPEED_CHANGE. -/
def execSpeedChange (p : Port) (s : State) : Host.Outcome State Fault Refusal := answerEvent (sendSpeedAccept p) s

end Sys2Proof.Machine
end

