-- ==== Sys2Proof/Machine/Time.lean ====
section
/-! DEFINITION. The millisecond time base (R5): what one millisecond does when no command waits (log 3). -/

namespace Sys2Proof.Machine

/-- One millisecond of the claim's expiry timer (R29). -/
def tickClaim (s : State) : State :=
  match s.run.claim with
  | none => s
  | some c =>
    if c.elapsed + 1 < Config.claimLimit then
      s.setRun { s.run with claim := some { c with elapsed := c.elapsed + 1 } }
    else settle (expireClaim s)

/-- One millisecond of a bundle's tie timer (R145). -/
def tickTie (number : Nat) (s : State) : State :=
  match (findBundle number s).bind Bundle.tieTimer with
  | none => s
  | some t =>
    if t + 1 < Config.tieLimit then updateBundle number (fun b => { b with tieTimer := some (t + 1) }) s
    else settle (expireTieTimer number s)

/-- One millisecond of a receiver's gap, which expires as it passes the limit (R167, log 11). -/
def tickGap (p : Port) (s : State) : State :=
  match (portState p s).receiver with
  | .idle => s
  | .inMessage chars gap =>
    if gap + 1 ≤ Config.gapLimit (portState p s).speed then setReceiver p (.inMessage chars (gap + 1)) s
    else settle (expireGap p s)

/-- One millisecond: the claim, the tie timers in table order, then the ports in order (log 3). -/
def tick (s : State) : State :=
  let s := tickClaim s
  let s := (bundleNumbers s).foldl (fun s n => tickTie n s) s
  allPorts.foldl (fun s p => tickGap p s) s

end Sys2Proof.Machine
end

