-- ==== Sys2Proof/Machine/Dispatch.lean ====
section
/-! DEFINITION. exec: one arm for each command, a direct call of its meaning. -/

namespace Sys2Proof.Machine

/-- A command's effect on everything but the queue of waiting commands. -/
def exec (i : Instr) (s : State) : Host.Outcome State Fault Refusal :=
  match i with
  | .encoderPulse detectA detectB order => Sys2Proof.Machine.execEncoderPulse detectA detectB order s
  | .homeMark order => Sys2Proof.Machine.execHomeMark order s
  | .pendingConfirmExpiry => Sys2Proof.Machine.execPendingConfirmExpiry s
  | .gateConfirm => Sys2Proof.Machine.execGateConfirm s
  | .claimExpiry => Sys2Proof.Machine.execClaimExpiry s
  | .tieTimerExpiry bundle => Sys2Proof.Machine.execTieTimerExpiry bundle s
  | .gapLimitExpiry p => Sys2Proof.Machine.execGapLimitExpiry p s
  | .powerOn => Sys2Proof.Machine.execPowerOn s
  | .receiveCharacter p c => Sys2Proof.Machine.execReceiveCharacter p c s
  | .checkFail p kind num => Sys2Proof.Machine.execCheckFail p kind num s
  | .unknownKind p kind num => Sys2Proof.Machine.execUnknownKind p kind num s
  | .messageSent p => Sys2Proof.Machine.execMessageSent p s
  | .speedChange p => Sys2Proof.Machine.execSpeedChange p s
  | .outcomeBacklogRelease => Sys2Proof.Machine.execOutcomeBacklogRelease s
  | .status p num payload => Sys2Proof.Machine.execStatus p num payload s
  | .claim p num payload => Sys2Proof.Machine.execClaim p num payload s
  | .release p num payload => Sys2Proof.Machine.execRelease p num payload s
  | .subscribe p num payload => Sys2Proof.Machine.execSubscribe p num payload s
  | .setSpeed p num payload => Sys2Proof.Machine.execSetSpeed p num payload s
  | .readLog p num payload => Sys2Proof.Machine.execReadLog p num payload s
  | .clearLog p num payload => Sys2Proof.Machine.execClearLog p num payload s
  | .readCounts p num payload => Sys2Proof.Machine.execReadCounts p num payload s
  | .clearCounts p num payload => Sys2Proof.Machine.execClearCounts p num payload s
  | .readTrack p num payload => Sys2Proof.Machine.execReadTrack p num payload s
  | .readQueue p num payload => Sys2Proof.Machine.execReadQueue p num payload s
  | .readBundle p num payload => Sys2Proof.Machine.execReadBundle p num payload s
  | .readOrders p num payload => Sys2Proof.Machine.execReadOrders p num payload s
  | .setGeometry p num payload => Sys2Proof.Machine.execSetGeometry p num payload s
  | .setStation p num payload => Sys2Proof.Machine.execSetStation p num payload s
  | .clearStation p num payload => Sys2Proof.Machine.execClearStation p num payload s
  | .setAction p num payload => Sys2Proof.Machine.execSetAction p num payload s
  | .setLockout p num payload => Sys2Proof.Machine.execSetLockout p num payload s
  | .restart p num payload => Sys2Proof.Machine.execRestart p num payload s
  | .setLineMask p num payload => Sys2Proof.Machine.execSetLineMask p num payload s
  | .run p num payload => Sys2Proof.Machine.execRun p num payload s
  | .hold p num payload => Sys2Proof.Machine.execHold p num payload s
  | .drain p num payload => Sys2Proof.Machine.execDrain p num payload s
  | .stopClear p num payload => Sys2Proof.Machine.execStopClear p num payload s
  | .chainClear p num payload => Sys2Proof.Machine.execChainClear p num payload s
  | .stationOn p num payload => Sys2Proof.Machine.execStationOn p num payload s
  | .stationOff p num payload => Sys2Proof.Machine.execStationOff p num payload s
  | .proof p num payload => Sys2Proof.Machine.execProof p num payload s
  | .alertClear p num payload => Sys2Proof.Machine.execAlertClear p num payload s
  | .wrapFault p num payload => Sys2Proof.Machine.execWrapFault p num payload s
  | .jobOpen p num payload => Sys2Proof.Machine.execJobOpen p num payload s
  | .load p num payload => Sys2Proof.Machine.execLoad p num payload s
  | .withdraw p num payload => Sys2Proof.Machine.execWithdraw p num payload s
  | .jobEnd p num payload => Sys2Proof.Machine.execJobEnd p num payload s
  | .jobAbort p num payload => Sys2Proof.Machine.execJobAbort p num payload s
  | .closeShort p num payload => Sys2Proof.Machine.execCloseShort p num payload s
  | .printed p num payload => Sys2Proof.Machine.execPrinted p num payload s
  | .spoiled p num payload => Sys2Proof.Machine.execSpoiled p num payload s
  | .orderWithdrawn p num payload => Sys2Proof.Machine.execOrderWithdrawn p num payload s
  | .orderLate p num payload => Sys2Proof.Machine.execOrderLate p num payload s
  | .codeRead p num payload => Sys2Proof.Machine.execCodeRead p num payload s
  | .noRead p num payload => Sys2Proof.Machine.execNoRead p num payload s
  | .purged p num payload => Sys2Proof.Machine.execPurged p num payload s
  | .tied p num payload => Sys2Proof.Machine.execTied p num payload s
  | .jam p num payload => Sys2Proof.Machine.execJam p num payload s

end Sys2Proof.Machine
end

