-- ==== Sys2Proof/Safety.lean ====
section
/-! DEFINITION. The invariants of the part that the statements speak of, and the forms in which they say a next state. -/

namespace Sys2Proof.Machine

/-! ## Invariants -/

/-- The stop latch is set exactly while the entry gate is in HALT (R24, R153). -/
def StopHalts (s : State) : Prop := s.fault.stopLatch = true ↔ s.run.gate = .halt

/-- Whenever registration is not REGISTERED, the track holds no piece records (R14, R77). -/
def NoPiecesUnlessRegistered (s : State) : Prop := s.reg.state ≠ .registered → pieces s = []

/-- In HOLD the carrier queue is empty, the printed count 0, and the apply and dump lines are released (R95, R109). -/
def HoldIsEmpty (s : State) : Prop :=
  s.carrier.mode ≠ .run →
    s.carrier.queue = [] ∧ s.carrier.printedCount = 0 ∧ s.lines.apply = none ∧ s.lines.dump = none

/-- The capacities of the queues, the lane, the text pool and the lockout set (R37, R46, R52, R93, R171). -/
def WithinCapacity (s : State) : Prop :=
  (∀ p, (txQueue p s).length ≤ 32) ∧ s.store.lane.length ≤ 16 ∧ s.carrier.queue.length ≤ 96 ∧
    s.store.textUsed ≤ 131072 ∧ s.entry.lockout.length ≤ 32

/-- A bundle's counts and its tie timer in the ranges of its entry (R136). -/
def BundleInRange (b : Bundle) : Prop :=
  b.delivered ≤ 16777215 ∧ b.offSequence ≤ 16777215 ∧ b.suspects ≤ 16777215 ∧ ∀ n, b.tieTimer = some n → n ≤ 30000

/-- The ranges of the counters (R11, R13, R71, R93, R116, R136, R157, R160). -/
def CountersInRange (s : State) : Prop :=
  (1 ≤ s.entry.nextTag ∧ s.entry.nextTag ≤ 65535) ∧ (1 ≤ s.carrier.nextOrder ∧ s.carrier.nextOrder ≤ 16777215) ∧
    s.verify.mismatchRun ≤ 1 ∧ s.reg.goodMarks ≤ 2 ∧ (∀ n, s.reg.faultWindow = some n → n ≤ 7) ∧
    (∀ k, s.fault.counts[kindIndex k] ≤ 65535) ∧ (∀ c l, logOf c s = some l → l.next ≤ 255) ∧
    ∀ b ∈ s.bundles.table, BundleInRange b

/-- Every kind's action is one of those allowed for it (R150). -/
def ActionsAllowed (s : State) : Prop := ∀ k, actionAllowed k (actionOf k s) = true

/-- The track has g+1 positions by a geometry in range, and none before the first SET GEOMETRY (R31, R75, R92). -/
def TrackFitsGeometry (s : State) : Prop :=
  match s.setup.geometry with
  | none => s.track = []
  | some g => geometryInRange g = true ∧ s.track.length = g.gate + 1

/-- The count stands within a pitch of the chain, and at most half a pitch was issued before an alignment; before the first
SET GEOMETRY it stands at 0 (R1, R2, R6, R9). -/
def CountWithinPitch (s : State) : Prop :=
  match s.setup.geometry with
  | none => s.reg.remainder = 0 ∧ s.reg.phase = 0 ∧ s.reg.pocketIndex = 0 ∧ s.reg.issuedTo = 0
  | some g =>
    s.reg.remainder < g.divider ∧ s.reg.phase < g.pitch ∧ s.reg.pocketIndex < g.chainLength ∧
      2 * s.reg.issuedTo < g.pitch

/-- The number of pending confirms that have seen as many boundaries as a test says. -/
def confirmsThat (test : Nat → Bool) (s : State) : Nat := (s.disp.confirms.filter fun c => test c.seen).length

/-- At most one confirm of the present pitch, counting a gate due, and at most one of the pitch before it (R129). -/
def ConfirmsBounded (s : State) : Prop :=
  confirmsThat (fun n => n == 0) s + (if s.disp.gateDue.isSome then 1 else 0) ≤ 1 ∧
    confirmsThat (fun n => n != 0) s ≤ 1

/-- The bay map and the bay fields name the same pairs, and the table stands in ascending order of number (R136, R148). -/
def BaysMatchTable (s : State) : Prop :=
  (bundleNumbers s).Pairwise (· < ·) ∧
    ∀ (h : Fin 16) (n : Nat), s.bundles.bays[h] = some n ↔ ∃ b ∈ s.bundles.table, b.number = n ∧ b.bay = h.val

/-! ## The held records -/

/-- The records of the pieces in the track, oldest first. -/
def trackRecords (s : State) : List Record := (pieces s).reverse.map Piece.record

/-- The held records: those of the queue, the lane and the track (R45). -/
def heldRecords (s : State) : List Record := s.store.queue ++ s.store.lane ++ trackRecords s

/-- No two held records share a key (R45). -/
def KeysDistinct (s : State) : Prop := ((heldRecords s).map Record.key).Nodup

/-- Each held record stands in one place and the record map names it, the text pool counts their texts, and the backlog
holds waiting records, each once (R45, R46, R55). -/
def RecordsAccounted (s : State) : Prop :=
  KeysDistinct s ∧ (s.store.map.map Prod.fst).Pairwise (· < ·) ∧
    (∀ key, (key, Place.queue) ∈ s.store.map ↔ ∃ r ∈ s.store.queue, r.key = key) ∧
    (∀ key, (key, Place.lane) ∈ s.store.map ↔ ∃ r ∈ s.store.lane, r.key = key) ∧
    (∀ key, (key, Place.track) ∈ s.store.map ↔ ∃ r ∈ trackRecords s, r.key = key) ∧
    s.store.textUsed = ((heldRecords s).map textSize).sum ∧
    (s.store.backlog.map Prod.fst).Nodup ∧
    ∀ e ∈ s.store.backlog, ∃ r ∈ s.store.queue ++ s.store.lane, r.key = e.1

/-- No piece stands at the gate position: a piece is decided as it arrives there (R124). -/
def GateHoldsNoPiece (s : State) : Prop := pieceAt (geometryItems s).gate s = none

/-- The first-attempt records in the order in which they were loaded: those in the track, oldest first, then the queue. -/
def loadedOrder (s : State) : List Record :=
  ((pieces s).reverse.filter fun x => x.source == .queue).map Piece.record ++ s.store.queue

/-- The bundle numbers of the first-attempt records do not decrease and none is above the load mark, the queue has room for
those in the track, and without a job no record is held (R44, R47, R58). -/
def QueueInOrder (s : State) : Prop :=
  (loadedOrder s).Pairwise (fun a b => a.bundle ≤ b.bundle) ∧ (∀ r ∈ loadedOrder s, r.bundle ≤ s.store.loadMark) ∧
    (loadedOrder s).length ≤ 768 ∧ (s.store.jobState = .noJob → heldRecords s = [])

/-! ## The carrier queue -/

/-- A printed order: its carrier is in the buffer (R95). -/
def isPrinted (o : Order) : Bool := o.state = .printed || o.state = .waste

/-- An order that belongs to its piece (R94). -/
def isLive (o : Order) : Bool := o.state = .issued || o.state = .printed

/-- No two orders share a number, and none has the next one (R93). -/
def OrdersDistinct (s : State) : Prop :=
  (s.carrier.queue.map Order.number).Nodup ∧ s.carrier.nextOrder ∉ s.carrier.queue.map Order.number

/-- The printed orders are an unbroken run at the head of the queue, as many as the printed count says and no more than the
buffer holds (R95). -/
def BufferAtHead (s : State) : Prop :=
  (∃ buffer rest, s.carrier.queue = buffer ++ rest ∧ (∀ o ∈ buffer, isPrinted o = true) ∧
    (∀ o ∈ rest, isPrinted o = false) ∧ s.carrier.printedCount = buffer.length) ∧
    s.carrier.printedCount ≤ (geometryItems s).depth

/-- The number and the tag of the order that belongs to a piece (R94). -/
def orderOf (x : Piece) : Option (Nat × Nat) := x.carrier.map fun n => (n, x.tag)

/-- The orders that belong to pieces stand in the queue in the entry order of their pieces, one for each piece that names
one, and such a piece stands no further than the applicator (R94). -/
def OrdersMatchPieces (s : State) : Prop :=
  (pieces s).reverse.filterMap orderOf = (s.carrier.queue.filter isLive).map (fun o => (o.number, o.tag)) ∧
    ∀ q x, pieceAt q s = some x → x.carrier ≠ none → q ≤ (geometryItems s).applicator

/-! ## The checks of a geometry -/

/-- Every item of a geometry lies in its range, the positions are in order, and each width ends in time (R31, R32). -/
abbrev ItemsFit (g : Geometry) : Prop :=
  (g.divider = 1 ∨ g.divider = 2 ∨ g.divider = 4 ∨ g.divider = 8) ∧
    (16 ≤ g.pitch ∧ g.pitch ≤ 4096) ∧ (8 ≤ g.chainLength ∧ g.chainLength ≤ 1024) ∧ g.tolerance ≤ g.pitch / 4 ∧
    (2 ≤ g.applicator ∧ g.applicator ≤ 64) ∧ (4 ≤ g.gate ∧ g.gate ≤ 250) ∧
    (g.applicator < g.wrap ∧ g.wrap < g.gate) ∧
    (∀ v ∈ g.verify, g.applicator < v ∧ v < g.wrap ∧ v + 2 ≤ g.gate) ∧
    (g.applicator ≤ g.depth ∧ g.depth ≤ 64) ∧
    (1 ≤ g.dumpPhase ∧ g.dumpPhase < g.pitch ∧ 1 ≤ g.dumpWidth ∧ g.dumpPhase + g.dumpWidth ≤ g.applyPhase) ∧
    (1 ≤ g.applyPhase ∧ g.applyPhase < g.pitch ∧ 1 ≤ g.applyWidth ∧ g.applyPhase + g.applyWidth ≤ g.pitch) ∧
    (1 ≤ g.gatePhase ∧ g.gatePhase < g.pitch ∧ 1 ≤ g.gateWidth ∧ g.gatePhase + g.gateWidth ≤ g.pitch) ∧
    (2 ≤ g.bays ∧ g.bays ≤ 16) ∧ g.remakeLimit ≤ 3

/-- A station entry agrees with a geometry (R31, R32), and lies in the ranges in which R34 has every entry written. -/
abbrev EntryFits (g : Geometry) (i : Fin 12) (e : Station) : Prop :=
  (1 ≤ e.position ∧ e.position + 1 ≤ g.applicator) ∧ e.item ≤ 15 ∧ e.alternate ≠ some i ∧
    (1 ≤ e.callPhase ∧ e.callPhase + 1 ≤ g.pitch) ∧ 1 ≤ e.callWidth ∧ e.callPhase + e.callWidth ≤ e.detectPhase ∧
    e.detectPhase + 1 ≤ g.pitch

/-- The fourth check of a SET GEOMETRY: its own items, the station table, the bays held and the printed count (R32). -/
abbrev GeometryFits (g : Geometry) (s : State) : Prop :=
  ItemsFit g ∧ (∀ i, ∀ e ∈ stationAt i s, EntryFits g i e) ∧ (∀ b ∈ s.bundles.table, b.bay < g.bays) ∧
    s.carrier.printedCount ≤ g.depth

/-! ## What a SET GEOMETRY does to the count -/

/-- A SET GEOMETRY of `g` restarts the count: it is the first, or it changes P, L or the divider (R18). -/
def Restarts (g : Geometry) (s : State) : Prop :=
  ∀ h, s.setup.geometry = some h → h.pitch ≠ g.pitch ∨ h.chainLength ≠ g.chainLength ∨ h.divider ≠ g.divider

/-- The registration unit after a restart of the count (R18). That the tolerance in use is kept is the model's choice (log
12), and that the phases issued before an alignment are none is its reading of R9 (log 26). -/
def restarted (r : Registration) : Registration :=
  { r with
    state := .unregistered, phase := 0, issuedTo := 0, pocketIndex := 0, remainder := 0, goodMarks := 0,
    faultWindow := none, window := { r.window with isOpen := false, markSeen := false } }

/-! ## The offered record and the lowest free bay -/

/-- The store offers the record at the head of a list to an entry event (R51, R65). -/
def IsOffered (src : SourceList) (r : Record) (s : State) : Prop :=
  s.store.backlog = [] ∧ s.store.jobState ≠ .aborting ∧
    match src with
    | .lane => s.store.lane.head? = some r ∧ (s.run.gate = .opened ∨ s.run.gate = .drain)
    | .queue =>
      s.store.lane = [] ∧ s.store.queue.head? = some r ∧ s.run.gate = .opened ∧
        (s.store.jobState = .loading ∨ s.store.jobState = .ended)

/-- The lowest bay in use that no bundle holds (R68). -/
def LowestFreeBay (h : Fin 16) (s : State) : Prop :=
  h.val < (geometryItems s).bays ∧ s.bundles.bays[h] = none ∧ ∀ k : Fin 16, k < h → s.bundles.bays[k] ≠ none

/-! ## Usable stations -/

/-- The primary station for an item: the lowest station entry that carries it (R66). -/
def IsPrimary (item : Nat) (i : Fin 12) (s : State) : Prop :=
  (∃ e, stationAt i s = some e ∧ e.item = item) ∧ ∀ k, k < i → ∀ e, stationAt k s = some e → e.item ≠ item

/-- The usable station for an item: its primary where that is on, else the alternate of the primary where that is on and
carries the item (R66). -/
def IsUsable (item : Nat) (i : Fin 12) (s : State) : Prop :=
  ∃ k e, IsPrimary item k s ∧ stationAt k s = some e ∧
    ((e.on = true ∧ i = k) ∨
      (e.on = false ∧ e.alternate = some i ∧ ∃ a, stationAt i s = some a ∧ a.on = true ∧ a.item = item))

/-! ## The order of block events -/

/-- The block events of a pitch boundary that follow the track's advance, each once, in any order (R2, log 6). -/
def IsBoundaryOrder (tasks : List PulseTask) : Prop := tasks.Perm [.entry, .carrier, .disposition]

/-- Block events of a boundary taken one after another (log 23). -/
def boundaryEvents (tasks : List PulseTask) (s : State) : State := tasks.foldl (fun u t => settle (boundaryTask t u)) s

/-- Block events of a phase taken one after another (log 23). -/
def phaseEvents (tasks : List PulseTask) (s : State) : State := tasks.foldl (fun u t => settle (phaseTask t u)) s

/-! ## Forms of a next state -/

/-- Every transmit queue has `n` free places, and no dropped message waits for its fault. -/
def Roomy (n : Nat) (s : State) : Prop := s.link.dropped = [] ∧ ∀ p, (txQueue p s).length + n ≤ 32

/-- `s` with one message more at the tail of a port's transmit queue. -/
def appended (p : Port) (f : Frame) (s : State) : State :=
  setPortState p { portState p s with tx := txQueue p s ++ [f] } s

/-- `s` after a message was taken on a port and answered with one reply: the reply at the tail, the receiver IDLE, and the
claim's expiry timer started again where the port is the holder. -/
def replied (p : Port) (f : Frame) (s : State) : State :=
  restartClaimTimer p (setPortState p { portState p s with tx := txQueue p s ++ [f], receiver := .idle } s)

/-- `s` with a STATE notice at the tail of the queue of every port subscribed to STATE. -/
def announced (c : StateChange) (s : State) : State :=
  (stateSubscribers s).foldl (fun s p => appended p (stateFrame c) s) s

/-- A message taken on a port that queues no reply. -/
def silent (p : Port) (s : State) : State :=
  restartClaimTimer p (setPortState p { portState p s with receiver := .idle } s)

/-- A message stands in a port's transmit queue at `t` behind those of `s`. -/
def Queued (p : Port) (f : Frame) (s t : State) : Prop :=
  ∃ before more, txQueue p t = txQueue p s ++ before ++ f :: more

/-- A record's life has ended at `t`: its key is in no map, its text is given back, and its outcome notice is queued to the
address port where `s` has room for it (R57). -/
def RecordEnded (e : RecordEnd) (r : Record) (s t : State) : Prop :=
  placeOf r.key t = none ∧ t.store.textUsed = s.store.textUsed - textSize r ∧
    (txHasRoom .address s = true →
      ∃ more, txQueue .address t = txQueue .address s ++ outcomeFrame r e :: more)

/-- A waiting record was given up at `t`: the notice of its outcome is queued to the address port (R55, R57). -/
def GivenUp (r : Record) (o : BacklogOutcome) (s t : State) : Prop :=
  Queued .address (outcomeFrame r (match o with
    | .aborted => .aborted
    | .short => .offSequence .short)) s t

/-- No record is held and no bundle stands in the table (R44). -/
def NothingHeld (s : State) : Prop :=
  s.store.queue = [] ∧ s.store.lane = [] ∧ pieces s = [] ∧ s.bundles.table = []

/-- The job of `s` has completed at `t`: no job, the load mark 0, the episodes ended, and the gate closed unless in HALT,
which a full queue may also bring (R26, R44, R73). -/
def JobCompleted (s t : State) : Prop :=
  t.store.jobState = .noJob ∧ t.store.jobNumber = none ∧ t.store.loadMark = 0 ∧ t.entry.starving = false ∧
    t.entry.itemUnavailable = false ∧ (t.run.gate = .closed ∨ t.run.gate = .halt) ∧
    (Roomy 5 s → t.run.gate = if s.run.gate = .halt then .halt else .closed)

/-- What a job's completion queues to a port: JOB COMPLETE, the STATE notice of the job, and that of the gate where it
closes (R26, R44). -/
def completionNotices (aborted : Bool) (p : Port) (s : State) : List Frame :=
  (if p = .address then [jobCompleteFrame s.store.jobNumber aborted] else []) ++
    if (subscription p s).state = true then
      stateFrame (.job .noJob none) ::
        (if s.run.gate = .opened ∨ s.run.gate = .drain then [stateFrame (.gate .closed)] else [])
    else []

/-- The STATE notices of LOST and of chain-clear-pending set are queued to every port subscribed to STATE (R14, R17). The
HOLD that follows keeps in the carrier port's queue what is no PRINT and no WITHDRAW ORDER (R108). -/
def LossTold (s t : State) : Prop :=
  ∀ p, (subscription p s).state = true → ∃ before more,
    txQueue p t = before ++ stateFrame (.registration .lost) :: stateFrame (.chainClear true) :: more ∧
      ((txQueue p s).filter fun f => !isCarrierWork f).Sublist before ∧ (p ≠ .carrier → txQueue p s <+: before)

/-- Steps 2 to 4 of R131 for a reject with a record: SUSPECT and the suspect count, and for a proof piece PROOF DONE with
FAILED and the end of the record that waits in the lane outside the backlog. A count's value beyond 16,777,215 is free
(log 24), and that the entry which bears the bundle's number is the bundle's is the model's choice (log 30). -/
def SuspectReported (r : Reject) (s t : State) : Prop :=
  Queued .delivery (suspectFrame r.tag r.bundle r.bay) s t ∧
    (∃ v : BitVec 24, ∀ b y, findBundle r.bundle s = some b → findBundle r.bundle t = some y →
      y.suspects = if b.suspects < 16777215 then b.suspects + 1 else v.toNat) ∧
    (r.proof = false → t.store = s.store) ∧
    (r.proof = true → Queued .line (proofDoneFrame r.tag true) s t ∧
      (∀ x, placeOf r.key s = some .lane → waitingRecord r.key s = some x → backlogOutcome r.key s = none →
        t.store.lane = s.store.lane.filter (fun y => y.key ≠ r.key) ∧ placeOf r.key t = none ∧
          t.store.textUsed = s.store.textUsed - textSize x ∧
          Queued .address (outcomeFrame x (.offSequence .suspect)) s t ∧
          (x.bundle = r.bundle → ∃ v : BitVec 24, ∀ b y, findBundle r.bundle s = some b →
            findBundle r.bundle t = some y → y.inLane = b.inLane - 1 ∧
              y.offSequence = if b.offSequence < 16777215 then b.offSequence + 1 else v.toNat)) ∧
      (placeOf r.key s ≠ some .lane ∨ (backlogOutcome r.key s).isSome = true → t.store = s.store))

end Sys2Proof.Machine
end

