-- ==== Sys2Proof/Certificates/Slice0/Obligations.lean ====
section
/-! DEFINITION. The statements for the provers. -/

open Sys2Proof Sys2Proof.Machine

/-! ## Steps and the link -/

/-- A step with a command at the front of the queue is exec of that command on the state with the queue's rest (log 22). -/
def Obligations.StepTakesTheFrontCommand : Prop :=
  ∀ (c : Instr) (rest : List Instr) (s : State),
    step (s.setPending (c :: rest)) = exec c (s.setPending rest)

/-- Every command answers a next state in every state, whatever its operands: the spec gives each an effect or a reply. -/
def Obligations.EveryCommandAnswersANextState : Prop :=
  ∀ (c : Instr) (s : State), ∃ t, exec c s = .next t

/-- The model's choice (log 3): with no command waiting a step is one millisecond of the three kinds of timer. R29, R145,
R167: the claim's at 10,000 ms, a bundle's at 30,000 ms and a receiver's gap past its port's limit expire, with the notice
and the faults of their rules, and the running ones below their limits rise by one. Where one timer alone runs and is due,
the step is the command of its expiry; where none is due, nothing else changes. -/
def Obligations.IdleStepCountsOneMillisecond : Prop :=
  ∀ s : State, s.pending = [] → (bundleNumbers s).Nodup →
    let limit := fun p => Config.gapLimit (portState p s).speed
    let tieDue := fun b : Bundle => b.tieTimer.any fun n => 30000 ≤ n + 1
    let gapDue := fun p => match (portState p s).receiver with
      | .idle => false
      | .inMessage _ gap => limit p < gap + 1
    (∃ t, step s = .next t ∧
      t.run.claim = (s.run.claim.bind fun c =>
        if c.elapsed + 1 < 10000 then some { c with elapsed := c.elapsed + 1 } else none) ∧
      t.bundles = { s.bundles with table := s.bundles.table.map fun b => { b with
        tieTimer := b.tieTimer.bind fun n => if n + 1 < 30000 then some (n + 1) else none } } ∧
      (∀ p, (portState p t).speed = (portState p s).speed ∧ txQueue p s <+: txQueue p t ∧
        (portState p t).receiver = match (portState p s).receiver with
          | .idle => .idle
          | .inMessage chars gap => if gap + 1 ≤ limit p then .inMessage chars (gap + 1) else .idle) ∧
      t = (((s.setRun t.run).setBundles t.bundles).setFault t.fault).setLink t.link ∧
      (∀ c, s.run.claim = some c → 10000 ≤ c.elapsed + 1 → txHasRoom c.holder s = true →
        ∃ more, txQueue c.holder t = txQueue c.holder s ++ claimExpiredFrame :: more) ∧
      (actionOf .deliveryFault s ≠ .off → s.fault.counts[kindIndex .deliveryFault] ≤ 65535 →
        t.fault.counts[kindIndex .deliveryFault] =
          min 65535 (s.fault.counts[kindIndex .deliveryFault] + s.bundles.table.countP tieDue)) ∧
      (actionOf .linkError s ≠ .off → s.fault.counts[kindIndex .linkError] ≤ 65535 →
        t.fault.counts[kindIndex .linkError] =
          min 65535 (s.fault.counts[kindIndex .linkError] + allPorts.countP gapDue)) ∧
      (actionOf .deliveryFault s = .stop → s.bundles.table.any tieDue = true → t.fault.stopLatch = true) ∧
      ((∀ c, s.run.claim = some c → c.elapsed + 1 < 10000) → s.bundles.table.any tieDue = false →
        allPorts.any gapDue = false →
        t.run.gate = s.run.gate ∧ t.fault = s.fault ∧ t.link.dropped = s.link.dropped ∧
          ∀ p, txQueue p t = txQueue p s)) ∧
    (∀ c, s.run.claim = some c → 10000 ≤ c.elapsed + 1 → (∀ b ∈ s.bundles.table, b.tieTimer = none) →
      (∀ p, (portState p s).receiver = .idle) → step s = exec .claimExpiry s) ∧
    (∀ b ∈ s.bundles.table, tieDue b = true → s.run.claim = none →
      (∀ x ∈ s.bundles.table, x ≠ b → x.tieTimer = none) → (∀ p, (portState p s).receiver = .idle) →
      step s = exec (.tieTimerExpiry b.number) s) ∧
    (∀ p, gapDue p = true → s.run.claim = none → (∀ b ∈ s.bundles.table, b.tieTimer = none) →
      (∀ q, q ≠ p → (portState q s).receiver = .idle) → step s = exec (.gapLimitExpiry p) s)

/-- R166, all rows but the check byte's: what a character does to the receiver of its port. -/
def Obligations.ReceiverTakesEachCharacter : Prop :=
  ∀ (p : Port) (b : Byte) (s : State), Roomy 2 s →
    (∀ marker, exec (.receiveCharacter p { data := b, marker := marker, stopGood := false }) s =
      .next (linkError p (setReceiver p .idle s))) ∧
    ((portState p s).receiver = .idle →
      exec (.receiveCharacter p { data := b, marker := true, stopGood := true }) s =
        .next (setReceiver p (.inMessage [b] 0) s) ∧
      exec (.receiveCharacter p { data := b, marker := false, stopGood := true }) s = .next s) ∧
    (∀ chars gap, (portState p s).receiver = .inMessage chars gap →
      exec (.receiveCharacter p { data := b, marker := true, stopGood := true }) s =
        .next (linkError p (setReceiver p (.inMessage [b] 0) s)) ∧
      (chars.length = 2 → 240 < b.toNat →
        exec (.receiveCharacter p { data := b, marker := false, stopGood := true }) s =
          .next (linkError p (setReceiver p .idle s))) ∧
      (chars.length < 3 → (chars.length = 2 → b.toNat ≤ 240) →
        exec (.receiveCharacter p { data := b, marker := false, stopGood := true }) s =
          .next (setReceiver p (.inMessage (chars ++ [b]) 0) s)) ∧
      (∀ kind num n payload, chars = kind :: num :: n :: payload → payload.length < n.toNat →
        exec (.receiveCharacter p { data := b, marker := false, stopGood := true }) s =
          .next (setReceiver p (.inMessage (chars ++ [b]) 0) s)))

/-- R168, R169: the check byte completes the message. With a good check the message is the command that the kind table
gives its kind; with any other byte it is a CHECK_FAIL. That a message command stands for this completion is the model's
choice (log 1). -/
def Obligations.CompletedMessageIsItsCommand : Prop :=
  ∀ (p : Port) (kind num n : Byte) (payload : List Byte) (gap : Nat) (s : State),
    payload.length = n.toNat →
    (portState p s).receiver = .inMessage (kind :: num :: n :: payload) gap →
    ∀ check : Byte,
      exec (.receiveCharacter p { data := check, marker := false, stopGood := true }) s =
        if check = crc8 (kind :: num :: n :: payload) then exec (commandOfMessage p kind num payload) s
        else exec (.checkFail p kind num) s

/-- R167, R168, R169: a damaged message, an unknown kind, and the gap's expiry, which abandons a partial message. That the
expiry does nothing in IDLE is the model's choice (log 2). -/
def Obligations.DamagedUnknownAndLateMessages : Prop :=
  ∀ (p : Port) (kind num : Byte) (s : State), Roomy 3 s →
    exec (.checkFail p kind num) s =
      .next (if isRequestKind kind then appended p (checkFailFrame num) (linkError p (setReceiver p .idle s))
        else linkError p (setReceiver p .idle s)) ∧
    exec (.unknownKind p kind num) s = .next (replied p (refuseFrame num .unknownKind) s) ∧
    (∀ chars gap, (portState p s).receiver = .inMessage chars gap →
      exec (.gapLimitExpiry p) s = .next (linkError p (setReceiver p .idle s))) ∧
    ((portState p s).receiver = .idle → exec (.gapLimitExpiry p) s = .next s)

/-- R55, R164, R171: a sent message leaves the head of its queue; on the address port the backlog is then released, oldest
first, down to nothing or to 16 messages in the queue. A SET SPEED is answered ACCEPT, and the sending of that ACCEPT brings
the speed, with the receiver IDLE where the speed changes; SPEED_CHANGE as that sending is the model's choice (log 8). -/
def Obligations.SentMessageLeavesTheHeadOfItsQueue : Prop :=
  ∀ (p : Port) (f : Frame) (rest : List Frame) (num : Byte) (v : Fin 7) (s : State), s.link.dropped = [] →
    (Roomy 1 s → exec (.setSpeed p num [BitVec.ofNat 8 v.val]) s = .next (replied p (acceptSpeedFrame num v) s) ∧
      (∀ b : List Byte, b.length ≠ 1 → exec (.setSpeed p num b) s = .next (replied p (refuseFrame num .badLength) s)) ∧
      ∀ x : Byte, 7 ≤ x.toNat → exec (.setSpeed p num [x]) s = .next (replied p (refuseFrame num .outOfRange) s)) ∧
    (txQueue p s = [] → exec (.messageSent p) s = .next s) ∧
    (p ≠ .address ∨ s.store.backlog = [] ∨ 16 ≤ rest.length →
      (txQueue p s = f :: rest → f.speed = none →
        exec (.messageSent p) s = .next (setPortState p { portState p s with tx := rest } s)) ∧
      (txQueue p s = acceptSpeedFrame num v :: rest →
        exec (.messageSent p) s = exec (.speedChange p) s ∧
        exec (.speedChange p) s = .next (setPortState p
          { speed := v, tx := rest,
            receiver := if (portState p s).speed = v then (portState p s).receiver else .idle } s))) ∧
    (∀ key o older r, p = .address → txQueue p s = f :: rest → f.speed = none → rest.length < 16 →
      s.store.backlog = (key, o) :: older → waitingRecord key s = some r →
      ∃ t more, exec (.messageSent p) s = .next t ∧ t.store.backlog <:+ older ∧
        (t.store.backlog = [] ∨ 16 ≤ (txQueue .address t).length) ∧ placeOf key t = none ∧
        txQueue .address t = rest ++ outcomeFrame r (match o with
          | .aborted => .aborted
          | .short => .offSequence .short) :: more ∧
        (∀ x ∈ t.store.queue ++ t.store.lane, x.key ≠ key) ∧ t.track = s.track ∧ t.carrier = s.carrier ∧ t.reg = s.reg)

/-- R171, R172: a message that finds 32 messages is dropped, and its LINK_OVERFLOW, whose action is STOP, halts the entry
gate and is counted; the request has its effect all the same, said here of CLEAR COUNTS, CLAIM and JOB OPEN. That the fault
is taken at the end of the event is the model's choice (log 4). -/
def Obligations.DroppedReplyHaltsTheLine : Prop :=
  ∀ (p : Port) (num : Byte) (s : State), s.link.dropped = [] → (txQueue p s).length = 32 →
    actionOf .linkOverflow s = .stop →
    (∀ f, post p f s = s.setLink { s.link with dropped := [p] }) ∧
    (∃ t, exec (.clearCounts p num []) s = .next t ∧ txQueue p t = txQueue p s ∧
      (∀ k, k ≠ .linkOverflow → t.fault.counts[kindIndex k] = 0) ∧ 1 ≤ t.fault.counts[kindIndex .linkOverflow] ∧
      t.fault.stopLatch = true ∧ (s.fault.stopLatch = false → t.run.gate = .halt) ∧ t.link.dropped = []) ∧
    (s.run.claim = none → ∃ t, exec (.claim p num []) s = .next t ∧ txQueue p t = txQueue p s ∧
      t.run.claim = some { holder := p, elapsed := 0 } ∧ t.fault.stopLatch = true ∧ t.link.dropped = []) ∧
    (p = .address → s.store.jobState = .noJob → ∀ b : List Byte, b.length = 2 → ofBytes b ≠ 0 →
      ∃ t, exec (.jobOpen p num b) s = .next t ∧ txQueue p t = txQueue p s ∧
        t.store = { s.store with jobState := .loading, jobNumber := some (ofBytes b), loadMark := 0 } ∧
        t.fault.stopLatch = true ∧ t.link.dropped = [])

/-! ## Wrong ports and the claim -/

/-- R169 and the first check of R30: a request of the line port's or the address port's group on another port is refused
WRONG_PORT, and a holder-only request from a port that does not hold the claim NOT_HOLDER. -/
def Obligations.RequestsNeedTheirPortOrTheClaim : Prop :=
  ∀ (p : Port) (num : Byte) (b : List Byte) (s : State), Roomy 1 s →
    (p ≠ .line →
      ∀ c ∈ [Instr.run p num b, .hold p num b, .drain p num b, .stopClear p num b, .chainClear p num b,
          .stationOn p num b, .stationOff p num b, .proof p num b, .alertClear p num b],
        exec c s = .next (replied p (refuseFrame num .wrongPort) s)) ∧
    (p ≠ .address →
      ∀ c ∈ [Instr.jobOpen p num b, .load p num b, .withdraw p num b, .jobEnd p num b, .jobAbort p num b,
          .closeShort p num b],
        exec c s = .next (replied p (refuseFrame num .wrongPort) s)) ∧
    ((∀ c, s.run.claim = some c → c.holder ≠ p) →
      ∀ c ∈ [Instr.setGeometry p num b, .setStation p num b, .clearStation p num b, .setAction p num b,
          .setLockout p num b, .setLineMask p num b, .restart p num b],
        exec c s = .next (replied p (refuseFrame num .notHolder) s))

/-- R169: a report on a port that is not its partner's is dropped as STRAY_REPORT with that port as source, and a carrier
report of a wrong length as STRAY_REPORT of the carrier port. -/
def Obligations.MisplacedReportIsStray : Prop :=
  ∀ (p : Port) (num : Byte) (b : List Byte) (s : State), Roomy 2 s →
    (p ≠ .line → exec (.wrapFault p num b) s = .next (strayReport p (silent p s))) ∧
    (p ≠ .delivery →
      exec (.tied p num b) s = .next (strayReport p (silent p s)) ∧
      exec (.jam p num b) s = .next (strayReport p (silent p s))) ∧
    (p ≠ .carrier ∨ b.length ≠ 3 →
      ∀ c ∈ [Instr.printed p num b, .spoiled p num b, .orderWithdrawn p num b, .orderLate p num b],
        exec c s = .next (strayReport p (silent p s))) ∧
    (p ≠ .carrier ∨ b.length ≠ 2 → exec (.codeRead p num b) s = .next (strayReport p (silent p s))) ∧
    (p ≠ .carrier ∨ b.length ≠ 0 →
      exec (.noRead p num b) s = .next (strayReport p (silent p s)) ∧
      exec (.purged p num b) s = .next (strayReport p (silent p s)))

/-- R27, R28, R29: CLAIM, RELEASE and the expiry of the claim. That the expiry does nothing where the claim is free is the
model's choice (log 2). -/
def Obligations.ClaimIsTakenReleasedAndExpires : Prop :=
  ∀ (p q : Port) (num : Byte) (n : Nat) (s : State), Roomy 1 s →
    (∀ b : List Byte, b ≠ [] → ∀ c ∈ [Instr.claim p num b, .release p num b],
      exec c s = .next (replied p (refuseFrame num .badLength) s)) ∧
    (s.run.claim = none →
      exec (.claim p num []) s =
        .next (replied p (acceptFrame num []) (s.setRun { s.run with claim := some { holder := p, elapsed := 0 } })) ∧
      exec (.release p num []) s = .next (replied p (refuseFrame num .notHolder) s) ∧
      exec .claimExpiry s = .next s) ∧
    (s.run.claim = some { holder := q, elapsed := n } →
      (p = q →
        exec (.claim p num []) s = .next (replied p (acceptFrame num [])
          (s.setRun { s.run with claim := some { holder := p, elapsed := 0 } })) ∧
        exec (.release p num []) s = .next (replied p (acceptFrame num []) (s.setRun { s.run with claim := none }))) ∧
      (p ≠ q →
        exec (.claim p num []) s = .next (replied p (refuseClaimHeldFrame num q) s) ∧
        exec (.release p num []) s = .next (replied p (refuseFrame num .notHolder) s)) ∧
      exec .claimExpiry s = .next (appended q claimExpiredFrame (s.setRun { s.run with claim := none })))

/-! ## The gate -/

/-- R22: HOLD from the line port in each gate state. Where the gate closes, everything but the gate state, the link unit
that carries the reply and the notices, and the claim's timer is kept. -/
def Obligations.HoldClosesTheGateAndNothingElse : Prop :=
  ∀ (num : Byte) (s : State), Roomy 2 s →
    (s.run.gate = .opened ∨ s.run.gate = .drain →
      ∃ t more, exec (.hold .line num []) s = .next t ∧
        t = (s.setRun { (silent .line s).run with gate := .closed }).setLink t.link ∧
        txQueue .line t = txQueue .line s ++ more ∧ acceptFrame num [] ∈ more ∧ ∀ r, refuseFrame num r ∉ more) ∧
    (s.run.gate = .closed → exec (.hold .line num []) s = .next (replied .line (acceptFrame num []) s)) ∧
    (s.run.gate = .halt → exec (.hold .line num []) s = .next (replied .line (refuseFrame num .wrongState) s))

/-- R16, R20, R21, R22, R23, R25, R36, R169: RUN, HOLD, DRAIN and STOP CLEAR in each gate state, each with the STATE notice
of the gate it changes, CHAIN CLEAR, the refusal of a payload, and when the setup is valid. That the ACCEPT is queued before
the STATE notice of a change is the model's choice (log 10). -/
def Obligations.RunDrainAndTheClearsAreTakenByTheGateState : Prop :=
  ∀ (num : Byte) (s : State), Roomy 2 s →
    (∀ b : List Byte, b ≠ [] →
      ∀ c ∈ [Instr.run .line num b, .hold .line num b, .drain .line num b, .stopClear .line num b,
          .chainClear .line num b],
        exec c s = .next (replied .line (refuseFrame num .badLength) s)) ∧
    (setupValid s = true ↔
      ∃ g, s.setup.geometry = some g ∧ GeometryFits g s ∧ ∃ i e, stationAt i s = some e) ∧
    (s.run.gate = .halt → exec (.hold .line num []) s = .next (replied .line (refuseFrame num .wrongState) s)) ∧
    (s.run.gate = .closed → exec (.hold .line num []) s = .next (replied .line (acceptFrame num []) s)) ∧
    (s.run.gate = .opened ∨ s.run.gate = .drain →
      exec (.hold .line num []) s = .next (announced (.gate .closed)
        (replied .line (acceptFrame num []) (s.setRun { s.run with gate := .closed })))) ∧
    (s.run.gate = .halt → exec (.run .line num []) s = .next (replied .line (refuseFrame num .wrongState) s)) ∧
    (s.run.gate = .opened → exec (.run .line num []) s = .next (replied .line (acceptFrame num []) s)) ∧
    (s.run.gate = .closed ∨ s.run.gate = .drain →
      (setupValid s = true ∧ s.reg.state = .registered ∧ s.carrier.mode = .run ∧
          (s.store.jobState = .loading ∨ s.store.jobState = .ended) →
        exec (.run .line num []) s = .next (announced (.gate .opened)
          (replied .line (acceptFrame num []) (s.setRun { s.run with gate := .opened })))) ∧
      (¬(setupValid s = true ∧ s.reg.state = .registered ∧ s.carrier.mode = .run ∧
          (s.store.jobState = .loading ∨ s.store.jobState = .ended)) →
        exec (.run .line num []) s = .next (replied .line (refuseFrame num .wrongState) s))) ∧
    (s.run.gate = .halt → exec (.drain .line num []) s = .next (replied .line (refuseFrame num .wrongState) s)) ∧
    (s.run.gate = .drain → exec (.drain .line num []) s = .next (replied .line (acceptFrame num []) s)) ∧
    (s.run.gate = .closed → setupValid s = false →
      exec (.drain .line num []) s = .next (replied .line (refuseFrame num .wrongState) s)) ∧
    (s.run.gate = .opened ∨ (s.run.gate = .closed ∧ setupValid s = true) →
      exec (.drain .line num []) s = .next (announced (.gate .drain)
        (replied .line (acceptFrame num []) (s.setRun { s.run with gate := .drain })))) ∧
    (s.fault.stopLatch = false → exec (.stopClear .line num []) s = .next (replied .line (acceptFrame num []) s)) ∧
    (s.fault.stopLatch = true → s.reg.chainClearPending = true ∨ s.carrier.mode ≠ .run →
      exec (.stopClear .line num []) s = .next (replied .line (refuseFrame num .wrongState) s)) ∧
    (s.fault.stopLatch = true → s.run.gate = .halt → s.reg.chainClearPending = false → s.carrier.mode = .run →
      exec (.stopClear .line num []) s = .next (announced (.gate .closed) (replied .line (acceptFrame num [])
        ((s.setFault { s.fault with stopLatch := false }).setRun { s.run with gate := .closed })))) ∧
    (s.reg.chainClearPending = true →
      exec (.chainClear .line num []) s = .next (announced (.chainClear false) (replied .line (acceptFrame num [])
        (s.setReg { s.reg with chainClearPending := false })))) ∧
    (s.reg.chainClearPending = false →
      exec (.chainClear .line num []) s = .next (replied .line (acceptFrame num []) s))

/-! ## The fault unit -/

/-- R24, R151, R153, R154, R157, R160, R161: what taking a fault does to the fault unit and the gate, by the kind's action
and steering, and the ALERT of a captured fault and the STATE notice of HALT to the ports subscribed to them. -/
def Obligations.FaultIsTakenByItsActionAndSteering : Prop :=
  ∀ (f : FaultRecord) (s : State),
    (actionOf f.kind s = .off → raise f s = s) ∧
    (actionOf f.kind s ≠ .off →
      (∀ k, (raise f s).fault.counts[kindIndex k] =
        if k = f.kind ∧ s.fault.counts[kindIndex k] < 65535 then s.fault.counts[kindIndex k] + 1
        else s.fault.counts[kindIndex k]) ∧
      (raise f s).fault.alarm =
        (s.fault.alarm || (decide (steeringOf f.kind s = .alarm) && !s.fault.maskAlarm)) ∧
      (raise f s).fault.slow =
        (s.fault.slow || (decide (steeringOf f.kind s = .slow) && !s.fault.maskSlow)) ∧
      (raise f s).fault.stopLatch = (s.fault.stopLatch || decide (actionOf f.kind s = .stop)) ∧
      (raise f s).run = { s.run with
        gate := if actionOf f.kind s = .stop ∧ s.fault.stopLatch = false then .halt else s.run.gate } ∧
      (∀ c, logOf c (raise f s) =
        if actionOf f.kind s = (match c with | .stop => Action.stop | .reject => Action.reject) then
          match logOf c s with
          | none => some { record := f, next := 0 }
          | some l => some { l with next := if l.next < 255 then l.next + 1 else l.next }
        else logOf c s) ∧
      (raise f s).fault.actions = s.fault.actions ∧ (raise f s).fault.subs = s.fault.subs) ∧
    (Roomy 2 s → ∀ p, txQueue p (raise f s) = txQueue p s ++
      match actionOf f.kind s with
      | .stop =>
        (if s.fault.stopLog = none ∧ (subscription p s).stop = true then [alertFrame .stop f] else []) ++
          (if s.fault.stopLatch = false ∧ s.run.gate ≠ .halt ∧ (subscription p s).state = true then
            [stateFrame (.gate .halt)] else [])
      | .reject => if s.fault.rejectLog = none ∧ (subscription p s).reject = true then [alertFrame .reject f] else []
      | .note => []
      | .off => [])

/-- R152, R155, R156, R161: SET ACTION and SET LINE MASK from the holder, ALERT CLEAR from the line port, and SUBSCRIBE. -/
def Obligations.ActionsLinesAndSubscriptionsAreSet : Prop :=
  ∀ (p : Port) (num x y z : Byte) (n : Nat) (k : FaultKind) (a : Action) (t : Steering) (s : State), Roomy 1 s →
    (∀ b : List Byte,
      (b.length ≠ 1 → exec (.subscribe p num b) s = .next (replied p (refuseFrame num .badLength) s)) ∧
      (s.run.claim = some { holder := p, elapsed := n } →
        (b.length ≠ 3 → exec (.setAction p num b) s = .next (replied p (refuseFrame num .badLength) s)) ∧
        (b.length ≠ 1 → exec (.setLineMask p num b) s = .next (replied p (refuseFrame num .badLength) s)))) ∧
    (s.run.claim = some { holder := p, elapsed := n } →
      (kindOfNumber x.toNat = some k → actionOfCode y.toNat = some a → steeringOfCode z.toNat = some t →
        (actionAllowed k a = true →
          exec (.setAction p num [x, y, z]) s = .next (replied p (acceptFrame num [])
            (s.setFault { s.fault with actions := s.fault.actions.set (kindIndex k) (a, t) }))) ∧
        (actionAllowed k a = false →
          exec (.setAction p num [x, y, z]) s = .next (replied p (refuseFrame num .outOfRange) s))) ∧
      (kindOfNumber x.toNat = none ∨ actionOfCode y.toNat = none ∨ steeringOfCode z.toNat = none →
        exec (.setAction p num [x, y, z]) s = .next (replied p (refuseFrame num .outOfRange) s))) ∧
    (x.toNat < 8 →
      exec (.subscribe p num [x]) s = .next (replied p (acceptFrame num []) (s.setFault { s.fault with
        subs := portSet s.fault.subs p
          { stop := x.getLsbD 0, reject := x.getLsbD 1, state := x.getLsbD 2 } }))) ∧
    (8 ≤ x.toNat → exec (.subscribe p num [x]) s = .next (replied p (refuseFrame num .outOfRange) s)) ∧
    (s.run.claim = some { holder := p, elapsed := n } →
      exec (.setLineMask p num [x]) s = .next (replied p (acceptFrame num []) (s.setFault { s.fault with
        maskAlarm := x.getLsbD 0, maskSlow := x.getLsbD 1,
        alarm := s.fault.alarm && !x.getLsbD 0, slow := s.fault.slow && !x.getLsbD 1 }))) ∧
    exec (.alertClear .line num []) s =
      .next (replied .line (acceptFrame num []) (s.setFault { s.fault with alarm := false, slow := false })) ∧
    (∀ c bs, exec (.alertClear .line num (c :: bs)) s = .next (replied .line (refuseFrame num .badLength) s))

/-- R158: READ LOG's checks and its reply, an empty log or its next count and first record. -/
def Obligations.ReadLogAnswersTheLogAndChangesNothing : Prop :=
  ∀ (p : Port) (num : Byte) (b : List Byte) (s : State), Roomy 1 s →
    (b.length ≠ 1 → exec (.readLog p num b) s = .next (replied p (refuseFrame num .badLength) s)) ∧
    (∀ c : Byte, c ≠ 0 → c ≠ 1 → exec (.readLog p num [c]) s = .next (replied p (refuseFrame num .outOfRange) s)) ∧
    exec (.readLog p num [0]) s = .next (replied p (acceptFrame num (match s.fault.stopLog with
      | none => [0, 0]
      | some l => [0, 1] ++ be 1 l.next ++ faultRecordBytes l.record)) s) ∧
    exec (.readLog p num [1]) s = .next (replied p (acceptFrame num (match s.fault.rejectLog with
      | none => [1, 0]
      | some l => [1, 1] ++ be 1 l.next ++ faultRecordBytes l.record)) s)

/-- R159, R160: CLEAR LOG, READ COUNTS and CLEAR COUNTS, and their checks. -/
def Obligations.LogsAndCountsAreReadAndCleared : Prop :=
  ∀ (p : Port) (num : Byte) (n : Nat) (s : State), Roomy 1 s →
    (p = .line ∨ s.run.claim = some { holder := p, elapsed := n } →
      exec (.clearLog p num [0]) s =
        .next (replied p (acceptFrame num []) (s.setFault { s.fault with stopLog := none })) ∧
      exec (.clearLog p num [1]) s =
        .next (replied p (acceptFrame num []) (s.setFault { s.fault with rejectLog := none })) ∧
      (∀ b : List Byte, b.length ≠ 1 → exec (.clearLog p num b) s = .next (replied p (refuseFrame num .badLength) s)) ∧
      ∀ c : Byte, c ≠ 0 → c ≠ 1 → exec (.clearLog p num [c]) s = .next (replied p (refuseFrame num .outOfRange) s)) ∧
    (∀ b : List Byte, b ≠ [] → ∀ c ∈ [Instr.readCounts p num b, .clearCounts p num b],
      exec c s = .next (replied p (refuseFrame num .badLength) s)) ∧
    (p ≠ .line → (∀ c, s.run.claim = some c → c.holder ≠ p) →
      ∀ b, exec (.clearLog p num b) s = .next (replied p (refuseFrame num .notHolder) s)) ∧
    exec (.readCounts p num []) s = .next (replied p (acceptFrame num (allKinds.flatMap fun k =>
      be 2 s.fault.counts[kindIndex k] ++ be 1 (actionCode (actionOf k s)) ++ be 1 (steeringCode (steeringOf k s)))) s) ∧
    exec (.clearCounts p num []) s =
      .next (replied p (acceptFrame num []) (s.setFault { s.fault with counts := Vector.replicate 22 0 }))

/-! ## Reads -/

/-- R59, R90, R112, R148, R173: STATUS answers 187 bytes, and READ TRACK, READ QUEUE, READ BUNDLE and READ ORDERS a copy of
the entry asked for; they change nothing but the claim's timer. The count of free values that STATUS raises is the model's
own (log 19), and that the unassigned bits of its flag bytes are 0 is the model's choice (log 27); the upper end of a tie
range in READ BUNDLE is at most 16,777,215 (log 25). -/
def Obligations.StatusAndReadsAnswerAndChangeNothing : Prop :=
  (∀ (p : Port) (num : Byte) (s : State), Roomy 1 s →
      (statusBytes s).length = 187 ∧
      exec (.status p num []) s =
        .next (replied p (acceptFrame num (statusBytes s)) (s.setFreeTaken (s.freeTaken + 108))) ∧
      (∀ c b, exec (.status p num (c :: b)) s = .next (replied p (refuseFrame num .badLength) s))) ∧
  (∀ (p : Port) (num : Byte) (b : List Byte) (s : State), Roomy 1 s →
      (b.length ≠ 1 → exec (.readTrack p num b) s = .next (replied p (refuseFrame num .badLength) s)) ∧
      (∀ q : Byte, s.track.length ≤ q.toNat →
        exec (.readTrack p num [q]) s = .next (replied p (refuseFrame num .outOfRange) s)) ∧
      (∀ (q : Byte) e, s.track[q.toNat]? = some e →
        exec (.readTrack p num [q]) s = .next (replied p (acceptFrame num (entryBytes q.toNat e)) s)) ∧
      (b.length ≠ 2 → exec (.readQueue p num b) s = .next (replied p (refuseFrame num .badLength) s)) ∧
      (b.length = 2 → s.store.queue.length + s.store.lane.length ≤ ofBytes b →
        exec (.readQueue p num b) s = .next (replied p (refuseFrame num .outOfRange) s)) ∧
      (b.length = 2 → ∀ r, (s.store.queue ++ s.store.lane)[ofBytes b]? = some r →
        exec (.readQueue p num b) s = .next (replied p (acceptFrame num (queueBytes (ofBytes b) r s)) s)) ∧
      (b.length ≠ 1 → exec (.readBundle p num b) s = .next (replied p (refuseFrame num .badLength) s)) ∧
      (∀ q : Byte, s.bundles.table.length ≤ q.toNat →
        exec (.readBundle p num [q]) s = .next (replied p (refuseFrame num .outOfRange) s)) ∧
      (∀ (q : Byte) e, s.bundles.table[q.toNat]? = some e →
        exec (.readBundle p num [q]) s = .next (replied p (acceptFrame num (bundleBytes q.toNat e)) s)) ∧
      (b.length ≠ 1 → exec (.readOrders p num b) s = .next (replied p (refuseFrame num .badLength) s)) ∧
      (∀ q : Byte, s.carrier.queue.length ≤ q.toNat →
        exec (.readOrders p num [q]) s = .next (replied p (refuseFrame num .outOfRange) s)) ∧
      (∀ (q : Byte) o, s.carrier.queue[q.toNat]? = some o →
        exec (.readOrders p num [q]) s = .next (replied p (acceptFrame num (orderBytes q.toNat o s)) s)))

/-! ## Setup -/

/-- R18, R30 to R33, R81, R91, R116, R128: an accepted SET GEOMETRY and its effects on the other blocks; its refusals; and
what its fourth check tests, item by item. The model's choices: the order of the effects, the ACCEPT first (log 17), the
tolerance in use kept through a restart of the count (log 12), and the suspect of a gate due counted for the entry that
bears the bundle's number (log 30). A count's value beyond 16,777,215 is free (log 24). That a restarted count has issued no
phase of its pitch is read from R9 and R18 (log 26). -/
def Obligations.GeometryIsReplacedWhole : Prop :=
  ∀ (p : Port) (num : Byte) (b : List Byte) (g : Geometry) (n : Nat) (s : State), Roomy 2 s →
    (∀ h, geometryInRange h = true ↔ ItemsFit h) ∧ (geometryAgrees g s = true ↔ GeometryFits g s) ∧
    (s.run.claim = some { holder := p, elapsed := n } → parseGeometry b = some g → TrackFitsGeometry s →
    (∀ c : List Byte, c.length ≠ 26 →
      exec (.setGeometry p num c) s = .next (replied p (refuseFrame num .badLength) s)) ∧
    (s.run.gate = .closed ∨ s.run.gate = .halt → pieces s = [] → GeometryFits g s →
      ∃ t, exec (.setGeometry p num b) s = .next t ∧ t.setup = { s.setup with geometry := some g } ∧
        (∃ more, txQueue p t = txQueue p s ++ acceptFrame num [] :: more) ∧
        (Restarts g s → t.reg = restarted s.reg ∧ t.lines = .released ∧
          t.callOutstanding = Vector.replicate 12 false ∧
          (s.reg.state ≠ .unregistered → ∀ q, (subscription q s).state = true →
            Queued q (stateFrame (.registration .unregistered)) s t)) ∧
        (¬Restarts g s → t.reg = s.reg ∧ t.lines = s.lines ∧ t.callOutstanding = s.callOutstanding) ∧
        t.track.length = g.gate + 1 ∧
        (s.setup.geometry = none → t.track = List.replicate (g.gate + 1) (.empty none 0)) ∧
        (∀ h, s.setup.geometry = some h →
          (h.gate = g.gate → t.track = s.track) ∧
          (∀ q e, q ≤ h.gate → q ≤ g.gate → s.track[q]? = some e → t.track[q]? = some (match e with
            | .gated pocket tag => if h.gate < g.gate then .empty (some pocket) 0 else .gated pocket tag
            | e => e)) ∧
          ∀ q, h.gate < q → q ≤ g.gate → t.track[q]? = some (.empty none 0)) ∧
        t.verify = (if (geometryItems s).verify = g.verify then s.verify else { mismatchRun := 0 }) ∧
        t.carrier = s.carrier ∧
        (s.disp.gateDue = none ∨ (geometryItems s).gate = g.gate →
          t.entry = s.entry ∧ t.store = s.store ∧ t.bundles = s.bundles ∧ t.disp = s.disp ∧ t.fault = s.fault ∧
            t.run.gate = s.run.gate) ∧
        (∀ d, s.disp.gateDue = some d → (geometryItems s).gate ≠ g.gate →
          t.disp = { s.disp with gateDue := none } ∧
            (actionOf .gateFail s = .stop → t.fault.stopLatch = true) ∧
            (Roomy 8 s → ∀ r, d.reject = some r → SuspectReported r s t))) ∧
    (¬(s.run.gate = .closed ∨ s.run.gate = .halt) ∨ pieces s ≠ [] →
      exec (.setGeometry p num b) s = .next (replied p (refuseFrame num .wrongState) s)) ∧
    (s.run.gate = .closed ∨ s.run.gate = .halt → pieces s = [] → ¬GeometryFits g s →
      exec (.setGeometry p num b) s = .next (replied p (refuseFrame num .outOfRange) s)))

/-- R30, R34, R35, R37, R81: SET STATION, CLEAR STATION and SET LOCKOUT from the holder, with their checks in order. -/
def Obligations.StationsAndLockoutAreWritten : Prop :=
  ∀ (p : Port) (num : Byte) (b : List Byte) (f : StationFields) (i : Fin 12) (n : Nat) (s : State),
    Roomy 1 s → s.run.claim = some { holder := p, elapsed := n } →
    let unlocked : Prop := (s.run.gate = .closed ∨ s.run.gate = .halt) ∧ pieces s = []
    (b.length ≠ 10 → exec (.setStation p num b) s = .next (replied p (refuseFrame num .badLength) s)) ∧
    (parseStation b = some f →
      (¬unlocked ∨ s.setup.geometry = none →
        exec (.setStation p num b) s = .next (replied p (refuseFrame num .wrongState) s)) ∧
      ∀ g, unlocked → s.setup.geometry = some g →
        let inRange : Prop := f.index < 12 ∧ (1 ≤ f.position ∧ f.position < g.applicator) ∧ f.item ≤ 15 ∧
          (f.alternate = 255 ∨ (f.alternate < 12 ∧ f.alternate ≠ f.index)) ∧
          (1 ≤ f.callPhase ∧ f.callPhase < g.pitch) ∧ 1 ≤ f.callWidth ∧
          f.callPhase + f.callWidth ≤ f.detectPhase ∧ f.detectPhase < g.pitch
        (¬inRange → exec (.setStation p num b) s = .next (replied p (refuseFrame num .outOfRange) s)) ∧
        (inRange → i.val = f.index → ∃ e : Station, exec (.setStation p num b) s = .next (replied p (acceptFrame num [])
            ((s.setSetup { s.setup with stations := s.setup.stations.set i (some e) }).setCallOutstanding
              (s.callOutstanding.set i false))) ∧
          e.position = f.position ∧ e.item = f.item ∧ e.callPhase = f.callPhase ∧ e.callWidth = f.callWidth ∧
          e.detectPhase = f.detectPhase ∧ e.on = true ∧
          e.alternate.map Fin.val = if f.alternate = 255 then none else some f.alternate)) ∧
    (b.length ≠ 1 → exec (.clearStation p num b) s = .next (replied p (refuseFrame num .badLength) s)) ∧
    (b.length = 1 → ¬unlocked →
      exec (.clearStation p num b) s = .next (replied p (refuseFrame num .wrongState) s)) ∧
    (unlocked →
      (∀ x : Byte, 12 ≤ x.toNat →
        exec (.clearStation p num [x]) s = .next (replied p (refuseFrame num .outOfRange) s)) ∧
      exec (.clearStation p num [BitVec.ofNat 8 i.val]) s = .next (replied p (acceptFrame num [])
        ((s.setSetup { s.setup with stations := s.setup.stations.set i none }).setCallOutstanding
          (s.callOutstanding.set i false)))) ∧
    (b.length % 2 = 1 → exec (.setLockout p num b) s = .next (replied p (refuseFrame num .badLength) s)) ∧
    (∀ l, parseIndices b = some l →
      let inRange : Prop :=
        l.length ≤ 32 ∧ ∀ m ∈ l, m < 1024 ∧ ∀ g, s.setup.geometry = some g → m < g.chainLength
      (¬inRange → exec (.setLockout p num b) s = .next (replied p (refuseFrame num .outOfRange) s)) ∧
      (inRange → exec (.setLockout p num b) s =
        .next (replied p (acceptFrame num []) (s.setEntry { s.entry with lockout := indexSet l }))) ∧
      ∀ m, m ∈ indexSet l ↔ m ∈ l)

/-- R87, R88, R89: STATION ON, and STATION OFF with its replan: a pending piece not beyond the station whose call is not
outstanding moves to the alternate that lies ahead of it, is on and carries the item; every other entry stays. Their checks
come first: the length, the index, the empty entry. -/
def Obligations.StationsAreSwitchedAndPiecesReplanned : Prop :=
  ∀ (num : Byte) (i : Fin 12) (s : State), Roomy 1 s →
    (∀ b : List Byte, b.length ≠ 1 → ∀ c ∈ [Instr.stationOn .line num b, .stationOff .line num b],
      exec c s = .next (replied .line (refuseFrame num .badLength) s)) ∧
    (∀ x : Byte, 12 ≤ x.toNat → ∀ c ∈ [Instr.stationOn .line num [x], .stationOff .line num [x]],
      exec c s = .next (replied .line (refuseFrame num .outOfRange) s)) ∧
    (stationAt i s = none →
      ∀ c ∈ [Instr.stationOn .line num [BitVec.ofNat 8 i.val], .stationOff .line num [BitVec.ofNat 8 i.val]],
        exec c s = .next (replied .line (refuseFrame num .wrongState) s)) ∧
    ∀ e, stationAt i s = some e →
    exec (.stationOn .line num [BitVec.ofNat 8 i.val]) s = .next (replied .line (acceptFrame num [])
      (s.setSetup { s.setup with stations := s.setup.stations.set i (some { e with on := true }) })) ∧
    ∃ track, exec (.stationOff .line num [BitVec.ofNat 8 i.val]) s = .next (replied .line (acceptFrame num [])
        ((s.setSetup { s.setup with stations := s.setup.stations.set i (some { e with on := false }) }).setTrack track)) ∧
      track.length = s.track.length ∧
      ∀ (q : Nat) (t : TrackEntry), s.track[q]? = some t →
        (∀ x a ea, t = .piece x → q ≤ e.position → planPending i x = true →
          ¬(q = e.position ∧ s.callOutstanding[i] = true) → e.alternate = some a → a ≠ i →
          stationAt a s = some ea → ea.on = true → ea.item = e.item → q < ea.position →
          track[q]? = some (.piece { x with
            plan := x.plan.map fun y => if y.station = i then { y with station := a } else y })) ∧
        ((∀ x, t = .piece x → e.position < q ∨ planPending i x = false ∨
            (q = e.position ∧ s.callOutstanding[i] = true) ∨
            ∀ a ea, e.alternate = some a → stationAt a s = some ea →
              a = i ∨ ea.on = false ∨ ea.item ≠ e.item ∨ ea.position ≤ q) → track[q]? = some t)

/-- R38, R39, R92, R174: RESTART keeps the setup, the lockout set, the action table, the mask, the subscriptions, the speeds
and the claim, and brings everything else to its power-on values; then the ACCEPT, and the STATE notice to every port. The
tolerance in use at 0 is the model's choice (log 12). -/
def Obligations.RestartKeepsTheSetup : Prop :=
  ∀ (p : Port) (num : Byte) (n : Nat) (s : State), s.run.claim = some { holder := p, elapsed := n } →
    (Roomy 1 s → ∀ b : List Byte, b ≠ [] →
      exec (.restart p num b) s = .next (replied p (refuseFrame num .badLength) s)) ∧
    ∃ t, exec (.restart p num []) s = .next t ∧
      t.setup = s.setup ∧ t.entry = { EntryUnit.powerOn with lockout := s.entry.lockout } ∧
      t.fault = { FaultUnit.powerOn with
        actions := s.fault.actions, maskAlarm := s.fault.maskAlarm, maskSlow := s.fault.maskSlow,
        subs := s.fault.subs } ∧
      t.run = { gate := .closed, claim := some { holder := p, elapsed := 0 } } ∧ t.reg = .powerOn ∧
      t.lines = .released ∧ t.store = .powerOn ∧ t.carrier = .powerOn ∧ t.verify = { mismatchRun := 0 } ∧
      t.disp = .powerOn ∧ t.bundles = .powerOn ∧ t.callOutstanding = Vector.replicate 12 false ∧
      t.pending = s.pending ∧
      (∀ g, s.setup.geometry = some g → t.track = List.replicate (g.gate + 1) (.empty none 0)) ∧
      (s.setup.geometry = none → t.track = []) ∧
      ∀ q, portState q t = {
        speed := (portState q s).speed
        receiver := .idle
        tx := if q = p then [acceptFrame num [], stateFrame .restart] else [stateFrame .restart] }

/-- R39, R19, R60, R74, R92, R113, R123, R135, R149, R163, R174: power-on brings every block to its power-on values and
sends nothing. The tolerance in use at 0 and inactive detect lines are the model's choices (log 12, log 13); the waiting
commands and the count of free values are the model's own and stay (log 19, log 22). -/
def Obligations.PowerOnBringsTheResetState : Prop :=
  ∀ s : State, exec .powerOn s = .next { State.reset with pending := s.pending, freeTaken := s.freeTaken }

/-! ## The dispatch store -/

/-- R26, R40, R41, R42, R44, R73: JOB OPEN's checks in their order, and its effect, the ACCEPT before the STATE notice (the
model's choice, log 10); JOB END's checks and effect, which seals every bundle and with nothing held and no bundle completes
the job at once; and the completion check, with JOB COMPLETE, the STATE notice of the job, and the gate's. The job number of
that STATE notice is read from R44 (log 21). -/
def Obligations.JobOpensAndEnds : Prop :=
  (∀ (num : Byte) (b : List Byte) (s : State), Roomy 2 s →
      (s.store.jobState ≠ .noJob →
        exec (.jobOpen .address num b) s = .next (replied .address (refuseFrame num .wrongState) s)) ∧
      (s.store.jobState = .noJob → b.length ≠ 2 →
        exec (.jobOpen .address num b) s = .next (replied .address (refuseFrame num .badLength) s)) ∧
      (s.store.jobState = .noJob → b.length = 2 → ofBytes b = 0 →
        exec (.jobOpen .address num b) s = .next (replied .address (refuseFrame num .outOfRange) s)) ∧
      (s.store.jobState = .noJob → b.length = 2 → ofBytes b ≠ 0 →
        exec (.jobOpen .address num b) s = .next (announced (.job .loading (some (ofBytes b)))
          (replied .address (acceptFrame num []) (s.setStore { s.store with
            jobState := .loading, jobNumber := some (ofBytes b), loadMark := 0 }))))) ∧
  (∀ (num : Byte) (s : State), Roomy 2 s →
      (s.store.jobState ≠ .loading →
        ∀ b, exec (.jobEnd .address num b) s = .next (replied .address (refuseFrame num .wrongState) s)) ∧
      (s.store.jobState = .loading → ∀ b : List Byte, b ≠ [] →
        exec (.jobEnd .address num b) s = .next (replied .address (refuseFrame num .badLength) s)) ∧
      (s.store.jobState = .loading →
        ∃ t more, exec (.jobEnd .address num []) s = .next t ∧
          txQueue .address t = txQueue .address s ++ acceptFrame num [] :: more ∧
          t.store.queue = s.store.queue ∧ t.store.lane = s.store.lane ∧ t.track = s.track ∧ t.carrier = s.carrier ∧
          ((bundleNumbers s).Nodup → ∀ x ∈ t.bundles.table, x.state ≠ .filling) ∧
          (s.store.queue ≠ [] ∨ s.store.lane ≠ [] ∨ pieces s ≠ [] →
            t.store.jobState = .ended ∧ t.store.jobNumber = s.store.jobNumber) ∧
          (NothingHeld s → JobCompleted s t ∧
            (Roomy 5 s → ∀ p, txQueue p t = txQueue p s ++ (if p = .address then [acceptFrame num []] else []) ++
              (if (subscription p s).state = true then [stateFrame (.job .ended s.store.jobNumber)] else []) ++
              completionNotices false p s)))) ∧
  (∀ s : State,
      (NothingHeld s → s.store.jobState = .ended ∨ s.store.jobState = .aborting →
        JobCompleted s (completionCheck s) ∧
        (completionCheck s).run = { s.run with gate := if s.run.gate = .halt then .halt else .closed } ∧
        (completionCheck s).track = s.track ∧
        (completionCheck s).carrier = s.carrier ∧ (completionCheck s).fault = s.fault ∧
        (Roomy 3 s → ∀ p, txQueue p (completionCheck s) = txQueue p s ++
          completionNotices (decide (s.store.jobState = .aborting)) p s)) ∧
      (¬NothingHeld s ∨ s.store.jobState = .noJob ∨ s.store.jobState = .loading → completionCheck s = s))

/-- R48, R49, R50, R139 to R141: LOAD's checks, in the order of the table. An accepted LOAD appends the record with attempt
0, takes its text, enters its key and raises the load mark, and then queues the ACCEPT. With a bundle number equal to the
load mark that is all. A higher one first seals every lower bundle still FILLING, and one with nothing left in the queue,
the lane and the track is broken or emptied, its bay freed, with its BREAK or BUNDLE EMPTY. Where more than one is, which no
run reaches (R50), their order by number is the model's choice (log 32). -/
def Obligations.LoadIsCheckedAndAppendsItsRecord : Prop :=
  (∀ (num : Byte) (b : List Byte) (s : State), Roomy 1 s →
      (s.store.jobState ≠ .loading →
        exec (.load .address num b) s = .next (replied .address (refuseFrame num .wrongState) s)) ∧
      (s.store.jobState = .loading →
        (parseLoad b = none →
          exec (.load .address num b) s = .next (replied .address (refuseFrame num .badLength) s)) ∧
        (∀ r, parseLoad b = some r →
          (recordInRange r = false →
            exec (.load .address num b) s = .next (replied .address (refuseFrame num .outOfRange) s)) ∧
          (recordInRange r = true →
            ((placeOf r.key s).isSome = true →
              exec (.load .address num b) s = .next (replied .address (refuseFrame num .duplicate) s)) ∧
            (placeOf r.key s = none →
              (r.bundle < s.store.loadMark →
                exec (.load .address num b) s = .next (replied .address (refuseFrame num .order) s)) ∧
              (s.store.loadMark ≤ r.bundle →
                (512 ≤ s.store.queue.length →
                  exec (.load .address num b) s = .next (replied .address (refuseFrame num .queueFull) s)) ∧
                (s.store.queue.length < 512 → 131072 - s.store.textUsed < textSize r →
                  exec (.load .address num b) s = .next (replied .address (refuseFrame num .textFull) s)))))))) ∧
  (∀ (num : Byte) (b : List Byte) (r : Record) (s : State),
      s.store.jobState = .loading → parseLoad b = some r → recordInRange r = true → placeOf r.key s = none →
      s.store.loadMark ≤ r.bundle → s.store.queue.length < 512 → textSize r ≤ 131072 - s.store.textUsed →
      r.attempt = 0 ∧
      (∃ t, exec (.load .address num b) s = .next t ∧
        t.store = { s.store with
          queue := s.store.queue ++ [r], textUsed := s.store.textUsed + textSize r, loadMark := r.bundle,
          map := insertPlace r.key .queue s.store.map } ∧
        ((bundleNumbers s).Nodup → ∀ x ∈ t.bundles.table, x.number < r.bundle → s.store.loadMark < r.bundle →
          x.state ≠ .filling) ∧
        t.track = s.track ∧ t.carrier = s.carrier ∧ t.reg = s.reg ∧ t.lines = s.lines ∧ t.entry = s.entry ∧
        t.disp = s.disp ∧ t.setup = s.setup) ∧
      (Roomy (s.bundles.table.length + 1) s → (bundleNumbers s).Nodup → s.store.loadMark < r.bundle →
        let falls := fun x : Bundle => decide (x.number < r.bundle ∧ x.state = .filling)
        let ready := fun x : Bundle =>
          decide ((∀ y ∈ s.store.queue, y.bundle ≠ x.number) ∧ x.inFlight = 0 ∧ x.inLane = 0)
        let bare := fun x : Bundle => decide (x.delivered = 0 ∧ x.suspects = 0)
        let emptied := s.bundles.table.filter fun x => falls x && ready x && bare x
        let broken := s.bundles.table.filter fun x => falls x && ready x && !bare x
        ∃ t, exec (.load .address num b) s = .next t ∧
          t.bundles.table = (s.bundles.table.filter fun x => !(falls x && ready x && bare x)).map (fun x =>
            if falls x && ready x then { x with state := .closing, tieTimer := some 0 }
            else if falls x then { x with state := .sealed } else x) ∧
          (∀ h : Fin 16, t.bundles.bays[h] =
            if ∃ x ∈ emptied, s.bundles.bays[h] = some x.number then none else s.bundles.bays[h]) ∧
          txQueue .address t = txQueue .address s ++ emptied.map (fun x => bundleEmptyFrame x.number) ++
            [acceptFrame num []] ∧
          txQueue .delivery t = txQueue .delivery s ++ broken.map (fun x => breakFrame x.number x.bay x.delivered) ∧
          txQueue .line t = txQueue .line s ∧ txQueue .carrier t = txQueue .carrier s ∧ t.fault = s.fault ∧
          t.run.gate = s.run.gate) ∧
      (Roomy 1 s → r.bundle = s.store.loadMark →
        exec (.load .address num b) s = .next (replied .address (acceptFrame num []) (s.setStore { s.store with
          queue := s.store.queue ++ [r], textUsed := s.store.textUsed + textSize r,
          map := insertPlace r.key .queue s.store.map }))))

/-- R53, R138, R140, R141: WITHDRAW by its length and the place of its key. An accepted one takes the record out, lowers its
bundle's lane count where it stood in the lane, and makes the close check of that bundle; no other bundle's entry
changes. -/
def Obligations.WithdrawTakesOutAWaitingRecord : Prop :=
  ∀ (num : Byte) (b : List Byte) (s : State), Roomy 1 s →
    (b.length ≠ 4 → exec (.withdraw .address num b) s = .next (replied .address (refuseFrame num .badLength) s)) ∧
    (b.length = 4 → placeOf (ofBytes b) s = none →
      exec (.withdraw .address num b) s = .next (replied .address (refuseFrame num .unknownKey) s)) ∧
    (b.length = 4 → placeOf (ofBytes b) s = some .track ∨
        ((placeOf (ofBytes b) s).isSome = true ∧ (backlogOutcome (ofBytes b) s).isSome = true) →
      exec (.withdraw .address num b) s = .next (replied .address (refuseFrame num .late) s)) ∧
    (∀ r, b.length = 4 → placeOf (ofBytes b) s = some .queue ∨ placeOf (ofBytes b) s = some .lane →
      backlogOutcome (ofBytes b) s = none → waitingRecord (ofBytes b) s = some r →
      ∃ t more, exec (.withdraw .address num b) s = .next t ∧
        t.store.queue = s.store.queue.filter (fun x => x.key ≠ ofBytes b) ∧
        t.store.lane = s.store.lane.filter (fun x => x.key ≠ ofBytes b) ∧ placeOf (ofBytes b) t = none ∧
        t.store.textUsed = s.store.textUsed - textSize r ∧ t.store.backlog = s.store.backlog ∧
        txQueue .address t = txQueue .address s ++ acceptFrame num [] :: more ∧
        (∀ m, m ≠ r.bundle → findBundle m t = findBundle m s) ∧
        (findBundle r.bundle s = none → t.bundles = s.bundles) ∧
        (∀ x, findBundle r.bundle s = some x →
          let y := if ∃ z ∈ s.store.lane, z.key = r.key then { x with inLane := x.inLane - 1 } else x
          let ready : Prop := y.state = .sealed ∧ (∀ z ∈ t.store.queue, z.bundle ≠ r.bundle) ∧ y.inFlight = 0 ∧ y.inLane = 0
          (¬ready → findBundle r.bundle t = some y) ∧
          (ready → y.delivered ≠ 0 ∨ y.suspects ≠ 0 →
            findBundle r.bundle t = some { y with state := .closing, tieTimer := some 0 }) ∧
          (ready → y.delivered = 0 → y.suspects = 0 → findBundle r.bundle t = none)) ∧
        t.track = s.track ∧ t.carrier = s.carrier ∧ t.reg = s.reg ∧ t.disp = s.disp)

/-- R26, R43, R44, R55: JOB ABORT closes the gate, seals and shortens every bundle, and gives up every waiting record: one
that still waits is in the backlog with ABORTED or the outcome it had there, and one that has left the store had its outcome
notice. The track is not touched. With nothing held and no bundle the job completes as aborted; the job number of its STATE
notice, 0 for none, is read from R44 (log 21). -/
def Obligations.JobAbortGivesUpTheWaitingRecords : Prop :=
  ∀ (num : Byte) (s : State),
    (Roomy 1 s → s.store.jobState = .noJob ∨ s.store.jobState = .aborting →
      ∀ b, exec (.jobAbort .address num b) s = .next (replied .address (refuseFrame num .wrongState) s)) ∧
    (Roomy 1 s → s.store.jobState = .loading ∨ s.store.jobState = .ended → ∀ b : List Byte, b ≠ [] →
      exec (.jobAbort .address num b) s = .next (replied .address (refuseFrame num .badLength) s)) ∧
    (s.store.jobState = .loading ∨ s.store.jobState = .ended →
      ∃ t, exec (.jobAbort .address num []) s = .next t ∧
        (∀ r ∈ t.store.queue ++ t.store.lane, r ∈ s.store.queue ++ s.store.lane ∧
          backlogOutcome r.key t = some ((backlogOutcome r.key s).getD .aborted)) ∧
        (KeysDistinct s → ∀ r ∈ s.store.queue ++ s.store.lane, r ∉ t.store.queue ++ t.store.lane →
          GivenUp r ((backlogOutcome r.key s).getD .aborted) s t) ∧
        (NothingHeld s → JobCompleted s t ∧
          (Roomy 5 s → ∀ p, txQueue p t = txQueue p s ++ (if p = .address then [acceptFrame num []] else []) ++
            (if (subscription p s).state = true then
              stateFrame (.job .aborting s.store.jobNumber) ::
                (if s.run.gate = .opened ∨ s.run.gate = .drain then [stateFrame (.gate .closed)] else []) else []) ++
            (if p = .address then [jobCompleteFrame s.store.jobNumber true] else []) ++
            (if (subscription p s).state = true then [stateFrame (.job .noJob none)] else []))) ∧
        (t.store.jobState = .aborting ∨ t.store.jobState = .noJob) ∧
        ((bundleNumbers s).Nodup → ∀ x ∈ t.bundles.table, x.short = true ∧ x.state ≠ .filling) ∧
        t.run.gate ≠ .opened ∧ t.run.gate ≠ .drain ∧
        t.track = s.track ∧ t.carrier = s.carrier ∧ t.reg = s.reg ∧ t.disp = s.disp ∧ t.lines = s.lines)

/-- R54, R55: CLOSE SHORT's checks, the bundle's short flag, and its waiting records: one that still waits is in the backlog
with SHORT or the outcome it had there, and a record that has left the store was given up and had its outcome notice. -/
def Obligations.CloseShortGivesUpTheRestOfABundle : Prop :=
  ∀ (num : Byte) (b : List Byte) (s : State),
    (Roomy 1 s → b.length ≠ 3 →
      exec (.closeShort .address num b) s = .next (replied .address (refuseFrame num .badLength) s)) ∧
    (Roomy 1 s → b.length = 3 → ofBytes b = 0 →
      exec (.closeShort .address num b) s = .next (replied .address (refuseFrame num .outOfRange) s)) ∧
    (Roomy 1 s → b.length = 3 → ofBytes b ≠ 0 → findBundle (ofBytes b) s = none →
      exec (.closeShort .address num b) s = .next (replied .address (refuseFrame num .unknownKey) s)) ∧
    (∀ x, b.length = 3 → ofBytes b ≠ 0 → findBundle (ofBytes b) s = some x →
      (Roomy 1 s → x.state = .filling →
        exec (.closeShort .address num b) s = .next (replied .address (refuseFrame num .wrongState) s)) ∧
      (x.state ≠ .filling →
        ∃ t, exec (.closeShort .address num b) s = .next t ∧
          (∀ y ∈ t.bundles.table, y.number = ofBytes b → y.short = true) ∧
          (∀ r ∈ t.store.queue ++ t.store.lane, r ∈ s.store.queue ++ s.store.lane ∧
            (r.bundle = ofBytes b → backlogOutcome r.key t = some ((backlogOutcome r.key s).getD .short))) ∧
          (KeysDistinct s → ∀ r ∈ s.store.queue ++ s.store.lane, r ∉ t.store.queue ++ t.store.lane →
            (r.bundle = ofBytes b ∨ (backlogOutcome r.key s).isSome = true) ∧
              GivenUp r ((backlogOutcome r.key s).getD .short) s t) ∧
          t.track = s.track ∧ t.carrier = s.carrier ∧ t.reg = s.reg ∧ t.disp = s.disp))

/-- R55, R57: the oldest backlog entry is released: its record leaves its list and the map, its text is given back, and its
outcome notice follows what the address port's queue holds. That the command does nothing where the test fails is the
model's choice (log 9). -/
def Obligations.BacklogReleaseEndsTheOldestRecord : Prop :=
  ∀ (key : Nat) (o : BacklogOutcome) (rest : List (Nat × BacklogOutcome)) (r : Record) (s : State),
    s.store.backlog = (key, o) :: rest → waitingRecord key s = some r →
    ((txQueue .address s).length < 16 →
      ∃ t more, exec .outcomeBacklogRelease s = .next t ∧ t.store.backlog = rest ∧
        t.store.queue = s.store.queue.filter (fun x => x.key ≠ key) ∧
        t.store.lane = s.store.lane.filter (fun x => x.key ≠ key) ∧ placeOf key t = none ∧
        t.store.textUsed = s.store.textUsed - textSize r ∧
        txQueue .address t = txQueue .address s ++ outcomeFrame r (match o with
          | .aborted => .aborted
          | .short => .offSequence .short) :: more ∧
        t.track = s.track ∧ t.carrier = s.carrier ∧ t.reg = s.reg ∧ t.disp = s.disp) ∧
    (16 ≤ (txQueue .address s).length → s.link.dropped = [] → exec .outcomeBacklogRelease s = .next s)

/-! ## Entry -/

/-- R51, R61 to R65, R67, R68, R73: the checks of an entry event that leave the pocket EMPTY or LOCKED, in their order, with
the bundle number of BAY_WAIT, the two episodes, and the source of an ITEM_UNAVAILABLE. NO_RECORD where the list asked from
is empty, whatever the backlog holds, is read from R65 (log 20). -/
def Obligations.EntryChecksLeaveThePocketEmpty : Prop :=
  ∀ s : State, 0 < s.track.length →
    ((entryEvent s).entry.result ≠ .bayWait → (entryEvent s).entry.awaitingBay = none) ∧
    (s.reg.state ≠ .registered →
      entryAt 0 (entryEvent s) = some (.empty none 0) ∧ (entryEvent s).entry.result = .notRegistered) ∧
    (s.reg.state = .registered →
      (s.reg.pocketIndex ∈ s.entry.lockout →
        entryAt 0 (entryEvent s) = some (.locked s.reg.pocketIndex 0) ∧ (entryEvent s).entry.result = .locked) ∧
      (s.reg.pocketIndex ∉ s.entry.lockout →
        (s.run.gate = .closed ∨ s.run.gate = .halt →
          entryAt 0 (entryEvent s) = some (.empty (some s.reg.pocketIndex) 0) ∧
            (entryEvent s).entry.result = .gate) ∧
        (s.run.gate = .opened ∨ s.run.gate = .drain →
          (s.carrier.mode ≠ .run ∨ 96 ≤ s.carrier.queue.length ∨ 32 ≤ (txQueue .carrier s).length →
            entryAt 0 (entryEvent s) = some (.empty (some s.reg.pocketIndex) 0) ∧
              (entryEvent s).entry.result = .carrier) ∧
          (s.carrier.mode = .run → s.carrier.queue.length < 96 → (txQueue .carrier s).length < 32 →
            (s.store.lane = [] → s.store.queue = [] ∨ s.run.gate = .drain ∨ s.store.jobState = .noJob ∨
                s.store.jobState = .aborting →
              entryAt 0 (entryEvent s) = some (.empty (some s.reg.pocketIndex) 0) ∧
                (entryEvent s).entry.result = .noRecord) ∧
            (s.store.lane = [] → s.store.queue = [] → s.run.gate = .opened → s.store.jobState = .loading →
              (entryEvent s).entry.starving = true ∧
                (s.entry.starving = true → (entryEvent s).fault = s.fault) ∧
                (s.entry.starving = false → (entryEvent s).fault = (raise { plainFault .queueStarve .none s with
                  pocket := some s.reg.pocketIndex, position := some 0 } s).fault)) ∧
            (s.store.lane ≠ [] → s.store.backlog ≠ [] ∨ s.store.jobState = .aborting →
              entryAt 0 (entryEvent s) = some (.empty (some s.reg.pocketIndex) 0) ∧
                (entryEvent s).entry.result = .backlog) ∧
            (s.store.lane = [] → s.store.queue ≠ [] → s.run.gate = .opened →
              s.store.jobState = .loading ∨ s.store.jobState = .ended → s.store.backlog ≠ [] →
              entryAt 0 (entryEvent s) = some (.empty (some s.reg.pocketIndex) 0) ∧
                (entryEvent s).entry.result = .backlog) ∧
            (∀ src r, IsOffered src r s →
              (planItems s (itemsOf r.items) = none →
                entryAt 0 (entryEvent s) = some (.empty (some s.reg.pocketIndex) 0) ∧
                  (entryEvent s).entry = { s.entry with
                    itemUnavailable := true, result := .itemWait, awaitingBay := none } ∧
                  (entryEvent s).store = s.store ∧ (entryEvent s).bundles = s.bundles ∧
                  (s.entry.itemUnavailable = true → (entryEvent s).fault = s.fault) ∧
                  (s.entry.itemUnavailable = false → (entryEvent s).fault =
                    (raise { plainFault .itemUnavailable (lackingSource r s) s with
                      key := some r.key, bundle := some r.bundle, pocket := some s.reg.pocketIndex,
                      position := some 0 } s).fault) ∧
                  ∀ item ∈ itemsOf r.items, (∀ i, ¬IsUsable item i s) →
                    (∀ m ∈ itemsOf r.items, m < item → ∃ i, IsUsable m i s) →
                    (∀ i, IsPrimary item i s → lackingSource r s = .station i) ∧
                      ((∀ i, ¬IsPrimary item i s) → lackingSource r s = .none)) ∧
              ((planItems s (itemsOf r.items)).isSome = true → findBundle r.bundle s = none →
                (∀ h : Fin 16, h.val < (geometryItems s).bays → s.bundles.bays[h] ≠ none) →
                entryAt 0 (entryEvent s) = some (.empty (some s.reg.pocketIndex) 0) ∧
                  (entryEvent s).entry = { s.entry with result := .bayWait, awaitingBay := some r.bundle } ∧
                  (entryEvent s).store = s.store ∧ (entryEvent s).bundles = s.bundles ∧
                  (entryEvent s).fault = s.fault))))))

/-- R66, R67: an item's usable station is its primary, the lowest entry that carries it, where on, and else the primary's
alternate where that is on and carries it; a plan names the usable station of every required item in ascending order, and
there is none where an item has no usable station. R51, R68 to R72, R137: a record that the store offers from the queue or
the lane, whose items have usable stations and whose bundle has a bay or gets the lowest free one, enters: the piece, the
tag, the order and its PRINT, the map and the bundle, created where it was not in the table. -/
def Obligations.OfferedRecordEnters : Prop :=
  (∀ x : BitVec 16, (itemsOf x).Pairwise (· < ·) ∧ ∀ n, n ∈ itemsOf x ↔ n < 16 ∧ x.getLsbD n = true) ∧
  (∀ (items : List Nat) (s : State),
    (∀ item i, usableStation item s = some i ↔ IsUsable item i s) ∧
    (planItems s items = none ↔ ∃ item ∈ items, ∀ i, ¬IsUsable item i s) ∧
    ∀ plan, planItems s items = some plan ↔
      plan.map PlanPair.item = items ∧ ∀ y ∈ plan, y.result = .pending ∧ IsUsable y.item y.station s) ∧
  ∀ (src : SourceList) (r : Record) (plan : List PlanPair) (s : State), 0 < s.track.length →
    s.reg.state = .registered → s.reg.pocketIndex ∉ s.entry.lockout → IsOffered src r s →
    s.carrier.mode = .run → s.carrier.queue.length < 96 → (txQueue .carrier s).length < 32 →
    planItems s (itemsOf r.items) = some plan →
    (findBundle r.bundle s).isSome = true ∨ (∃ h, LowestFreeBay h s) →
    entryAt 0 (entryEvent s) = some (.piece
        { tag := s.entry.nextTag, pocket := s.reg.pocketIndex, record := r, source := src, plan := plan, extra := 0,
          carrier := some s.carrier.nextOrder, fate := .awaiting, reprints := 0, applied := none,
          verify := if (geometryItems s).verify.isSome then .pending else .notChecked, wrap := none, faults := 0,
          firstKind := none, rejectDue := false, proof := false }) ∧
      (entryEvent s).entry = { s.entry with
        nextTag := if s.entry.nextTag = 65535 then 1 else s.entry.nextTag + 1, starving := false,
        itemUnavailable := false, result := .entered, awaitingBay := none } ∧
      (entryEvent s).carrier = { s.carrier with
        queue := s.carrier.queue ++ [{ number := s.carrier.nextOrder, tag := s.entry.nextTag, state := .issued }],
        nextOrder := if s.carrier.nextOrder = 16777215 then 1 else s.carrier.nextOrder + 1 } ∧
      txQueue .carrier (entryEvent s) = txQueue .carrier s ++ [printFrame s.carrier.nextOrder r] ∧
      (entryEvent s).store = { s.store with
        queue := s.store.queue.filter (fun y => y.key ≠ r.key), lane := s.store.lane.filter (fun y => y.key ≠ r.key),
        map := insertPlace r.key .track s.store.map } ∧
      placeOf r.key (entryEvent s) = some .track ∧
      (∀ x, findBundle r.bundle s = some x → (entryEvent s).bundles = { s.bundles with
        table := s.bundles.table.map fun y => if y.number = r.bundle then
          { y with
            inFlight := y.inFlight + 1
            inLane := match src with
              | .queue => y.inLane
              | .lane => y.inLane - 1 }
          else y }) ∧
      (∀ h, findBundle r.bundle s = none → LowestFreeBay h s → (entryEvent s).bundles = {
        bays := s.bundles.bays.set h (some r.bundle)
        table := insertBundle
          { number := r.bundle, bay := h.val,
            state := if r.bundle < s.store.loadMark ∨ s.store.jobState = .ended then .sealed else .filling,
            short := false, inFlight := 1, inLane := 0, delivered := 0, offSequence := 0, suspects := 0,
            tieTimer := none } s.bundles.table }) ∧
      (∀ q, 0 < q → entryAt q (entryEvent s) = entryAt q s) ∧ (entryEvent s).fault = s.fault

/-! ## The carrier unit -/

/-- R98, R99: PRINTED in RUN. Where HOLD follows, the LINK_OVERFLOW faults of its notices are taken at the end of the event,
the model's choice (log 4). -/
def Obligations.PrintedReportMovesTheOldestUnprinted : Prop :=
  ∀ (num : Byte) (b : List Byte) (o : Order) (s : State), Roomy 2 s → b.length = 3 →
    (s.carrier.mode ≠ .run → exec (.printed .carrier num b) s = .next (silent .carrier s)) ∧
    (s.carrier.mode = .run → findOrder (ofBytes b) s = some o → oldestUnprinted s = some (ofBytes b) →
      s.carrier.printedCount < (geometryItems s).depth →
      exec (.printed .carrier num b) s = .next (silent .carrier (s.setCarrier { s.carrier with
        printedCount := s.carrier.printedCount + 1,
        queue := s.carrier.queue.map fun y => if y.number = ofBytes b then
          { y with state := if o.state = .issued then .printed else .waste } else y }))) ∧
    (s.carrier.mode = .run →
      (findOrder (ofBytes b) s = none ∨ (findOrder (ofBytes b) s = some o ∧
          oldestUnprinted s = some (ofBytes b) ∧ (geometryItems s).depth ≤ s.carrier.printedCount) →
        exec (.printed .carrier num b) s = .next (settle (enterHold .overrun
          (raise (plainFault .carrierOverrun (.port .carrier) s) (silent .carrier s))))) ∧
      (findOrder (ofBytes b) s = some o → oldestUnprinted s ≠ some (ofBytes b) →
        exec (.printed .carrier num b) s = .next (settle (enterHold .sequence
          (raise (plainFault .carrierSequence (.port .carrier) s) (silent .carrier s))))))

/-- R108, R109, R110, R116: the entry into HOLD discards every order, voids the waiting pieces, and ends with CARRIER HOLD
and the STATE notice; in HOLD it changes nothing. PURGED ends the HOLD, and is stray in RUN. -/
def Obligations.HoldDiscardsEveryOrderUntilPurged : Prop :=
  (∀ (c : HoldCause) (s : State),
      (s.carrier.mode ≠ .run → enterHold c s = s) ∧
      (s.carrier.mode = .run →
        (enterHold c s).carrier = { s.carrier with mode := .hold c, queue := [], printedCount := 0 } ∧
        (enterHold c s).lines = { s.lines with apply := none, dump := none } ∧
        (∀ q, pieceAt q s = none → entryAt q (enterHold c s) = entryAt q s) ∧
        (∀ q x, pieceAt q s = some x →
          ∃ y, pieceAt q (enterHold c s) = some y ∧ y.tag = x.tag ∧ y.record = x.record ∧ y.plan = x.plan ∧
            y.verify = x.verify ∧ y.wrap = x.wrap ∧
            (y.fate = x.fate ∨ (x.fate = .awaiting ∧ y.fate = .void)) ∧
            (x.carrier = none → y = x)) ∧
        (∀ o ∈ s.carrier.queue, ∀ q x, orderOwner o.number s = some (q, x) →
          ∃ y, pieceAt q (enterHold c s) = some y ∧ y.carrier = none ∧ (x.fate = .awaiting → y.fate = .void) ∧
            (x.fate = .awaiting → actionOf .carrierVoid s = .reject ∨ actionOf .carrierVoid s = .stop →
              y.rejectDue = true)) ∧
        (∀ f ∈ (txQueue .carrier (enterHold c s)).tail, isCarrierWork f = false) ∧
        (enterHold c s).store = s.store ∧ (enterHold c s).bundles = s.bundles ∧ (enterHold c s).reg = s.reg ∧
        (Roomy 4 s → (enterHold c s).link.dropped = [] ∧ ∀ p, ∃ before, txQueue p (enterHold c s) = before ++
          (if p = .carrier then [carrierHoldFrame c] else []) ++
          (if (subscription p s).state = true then [stateFrame (.carrier (.hold c))] else [])))) ∧
  (∀ (num : Byte) (s : State), Roomy 2 s →
      (s.carrier.mode = .run → exec (.purged .carrier num []) s = .next (strayReport .carrier (silent .carrier s))) ∧
      (s.carrier.mode ≠ .run →
        exec (.purged .carrier num []) s = .next (announced (.carrier .run) (silent .carrier
          ((s.setCarrier { s.carrier with mode := .run }).setVerify { mismatchRun := 0 })))))

/-- R97, R100, R101: SPOILED is ignored in HOLD. In RUN, of the tail order of a piece with reprints below 2 it is a reprint
where the carrier port's queue has a free place; of an ISSUED order that fails any of the three it voids the piece's
carrier; of an order being withdrawn it removes the order; and of a number not in the queue it is stray. -/
def Obligations.SpoiledTailOrderIsReprinted : Prop :=
  ∀ (num : Byte) (b : List Byte) (o : Order) (q : Nat) (x : Piece) (s : State), b.length = 3 →
    (Roomy 2 s →
      (s.carrier.mode ≠ .run → exec (.spoiled .carrier num b) s = .next (silent .carrier s)) ∧
      (s.carrier.mode = .run → findOrder (ofBytes b) s = none →
        exec (.spoiled .carrier num b) s = .next (strayReport .carrier (silent .carrier s))) ∧
      (s.carrier.mode = .run → findOrder (ofBytes b) s = some o →
        (o.state = .withdrawing →
          exec (.spoiled .carrier num b) s = .next (silent .carrier (s.setCarrier { s.carrier with
            queue := s.carrier.queue.filter fun y => y.number ≠ ofBytes b }))) ∧
        (o.state = .printed ∨ o.state = .wastePending ∨ o.state = .waste →
          exec (.spoiled .carrier num b) s = .next (strayReport .carrier (silent .carrier s))))) ∧
    (s.carrier.mode = .run → findOrder (ofBytes b) s = some o → o.state = .issued →
      orderOwner (ofBytes b) s = some (q, x) →
      (Roomy 1 s → s.carrier.queue.getLast?.map Order.number = some (ofBytes b) → x.reprints < 2 →
        exec (.spoiled .carrier num b) s = .next (appended .carrier (printFrame s.carrier.nextOrder x.record)
          (silent .carrier ((s.setCarrier { s.carrier with
            queue := s.carrier.queue.filter (fun y => y.number ≠ ofBytes b) ++
              [{ number := s.carrier.nextOrder, tag := x.tag, state := .issued }],
            nextOrder := if s.carrier.nextOrder = 16777215 then 1 else s.carrier.nextOrder + 1 }).setTrack
              (s.track.set q (.piece { x with
                carrier := some s.carrier.nextOrder, reprints := x.reprints + 1 })))))) ∧
      (s.carrier.queue.getLast?.map Order.number ≠ some (ofBytes b) ∨ 2 ≤ x.reprints ∨
          32 ≤ (txQueue .carrier s).length →
        ∃ t, exec (.spoiled .carrier num b) s = .next t ∧
          t.carrier = { s.carrier with queue := s.carrier.queue.filter fun y => y.number ≠ ofBytes b } ∧
          pieceAt q t = some (markPiece .carrierVoid (actionOf .carrierVoid s)
            { x with fate := .void, carrier := none }) ∧
          (actionOf .carrierVoid s = .reject ∨ actionOf .carrierVoid s = .stop →
            ∀ y, pieceAt q t = some y → y.rejectDue = true) ∧
          (Roomy 2 s → t.fault = (raise (pieceFault .carrierVoid (.port .carrier) q x s) s).fault) ∧
          (∀ p, p ≠ q → entryAt p t = entryAt p s) ∧ t.store = s.store ∧ t.bundles = s.bundles))

/-- R97, R102: the printer's two answers to a WITHDRAW ORDER, in RUN, and ignored in HOLD. Where HOLD follows, the
LINK_OVERFLOW faults of its notices are taken at the end of the event, the model's choice (log 4). -/
def Obligations.WithdrawalAnswersAreTakenByTheOrderState : Prop :=
  ∀ (num : Byte) (b : List Byte) (o : Order) (s : State), Roomy 2 s → b.length = 3 →
    (s.carrier.mode ≠ .run →
      exec (.orderWithdrawn .carrier num b) s = .next (silent .carrier s) ∧
      exec (.orderLate .carrier num b) s = .next (silent .carrier s)) ∧
    (s.carrier.mode = .run → findOrder (ofBytes b) s = none →
      exec (.orderWithdrawn .carrier num b) s = .next (strayReport .carrier (silent .carrier s)) ∧
      exec (.orderLate .carrier num b) s = .next (strayReport .carrier (silent .carrier s))) ∧
    (s.carrier.mode = .run → findOrder (ofBytes b) s = some o →
      (o.state = .withdrawing →
        exec (.orderWithdrawn .carrier num b) s = .next (silent .carrier (s.setCarrier { s.carrier with
          queue := s.carrier.queue.filter fun y => y.number ≠ ofBytes b })) ∧
        exec (.orderLate .carrier num b) s = .next (silent .carrier (s.setCarrier { s.carrier with
          queue := s.carrier.queue.map fun y =>
            if y.number = ofBytes b then { y with state := .wastePending } else y }))) ∧
      (o.state = .waste →
        exec (.orderWithdrawn .carrier num b) s = .next (settle (enterHold .sequence
          (raise (plainFault .carrierSequence (.port .carrier) s) (silent .carrier s)))) ∧
        exec (.orderLate .carrier num b) s = .next (silent .carrier s)) ∧
      (o.state = .issued ∨ o.state = .printed ∨ o.state = .wastePending →
        exec (.orderWithdrawn .carrier num b) s = .next (strayReport .carrier (silent .carrier s)) ∧
        exec (.orderLate .carrier num b) s = .next (strayReport .carrier (silent .carrier s))))

/-- R103, R104, R105: the dump and apply phase events in RUN, on the head of the carrier queue or an empty one, and in
HOLD. -/
def Obligations.DumpAndApplyActOnTheHead : Prop :=
  ∀ (o : Order) (rest : List Order) (x : Piece) (s : State),
    let c := (geometryItems s).applicator
    (s.carrier.mode ≠ .run → dumpPhase s = s ∧ applyPhase s = s) ∧
    (s.carrier.mode = .run →
      (s.carrier.queue = [] → dumpPhase s = s) ∧
      (s.carrier.queue = o :: rest → o.state = .waste → dumpPhase s = (s.setLines { s.lines with
          dump := some (s.reg.phase + (geometryItems s).dumpWidth) }).setCarrier
        { s.carrier with queue := rest, printedCount := s.carrier.printedCount - 1 }) ∧
      (s.carrier.queue = o :: rest → o.state ≠ .waste → dumpPhase s = s) ∧
      (pieceAt c s = none → applyPhase s = s) ∧
      (pieceAt c s = some x →
        (x.fate ≠ .awaiting → applyPhase s = s) ∧
        (x.fate = .awaiting → s.carrier.queue = o :: rest → x.carrier = some o.number → o.state = .printed →
          applyPhase s = ((s.setLines { s.lines with
              apply := some (s.reg.phase + (geometryItems s).applyWidth) }).setCarrier
            { s.carrier with queue := rest, printedCount := s.carrier.printedCount - 1 }).setTrack
              (s.track.set c (.piece { x with fate := .applied, carrier := none, applied := some o.number }))) ∧
        (x.fate = .awaiting →
          (∀ y, s.carrier.queue.head? = some y → x.carrier ≠ some y.number ∨ y.state ≠ .printed) →
          ∃ y, pieceAt c (applyPhase s) = some y ∧ y.fate = .starved ∧
            (actionOf .carrierStarve s = .reject ∨ actionOf .carrierStarve s = .stop → y.rejectDue = true) ∧
            (applyPhase s).lines = s.lines ∧ (applyPhase s).carrier.printedCount = s.carrier.printedCount ∧
            (∀ q, q ≠ c → entryAt q (applyPhase s) = entryAt q s))))

/-- R105 steps 3 and 4, R106, R107: the order of a piece starved at c is given up where it is ISSUED and left where it is
PRINTED; at the boundary the piece that has just left c is starved where it still waits, and an order it still names is
given up, WITHDRAWING with a WITHDRAW ORDER or WASTE. A WITHDRAW ORDER that finds no place is dropped, and the order is
WITHDRAWING all the same; that the LINK_OVERFLOW is left to the end of the event, the port noted until then, is the model's
choice (log 4). -/
def Obligations.GivenUpOrderIsWithdrawnOrWasted : Prop :=
  ∀ (p : Nat) (o : Order) (x : Piece) (s : State), pieceAt p s = some x →
    (x.carrier = some o.number → findOrder o.number s = some o →
      (o.state = .issued → giveUpOrder p o.number o s = post .carrier (withdrawOrderFrame o.number)
        ((s.setTrack (s.track.set p (.piece { x with carrier := none }))).setCarrier { s.carrier with
          queue := s.carrier.queue.map fun y => if y.number = o.number then { y with state := .withdrawing } else y })) ∧
      (o.state = .printed → giveUpOrder p o.number o s =
        (s.setTrack (s.track.set p (.piece { x with carrier := none }))).setCarrier { s.carrier with
          queue := s.carrier.queue.map fun y => if y.number = o.number then { y with state := .waste } else y })) ∧
    (∀ u, (txHasRoom .carrier u = true → post .carrier (withdrawOrderFrame o.number) u =
        appended .carrier (withdrawOrderFrame o.number) u) ∧
      (txHasRoom .carrier u = false → post .carrier (withdrawOrderFrame o.number) u =
        u.setLink { u.link with dropped := u.link.dropped ++ [.carrier] })) ∧
    (p = (geometryItems s).applicator → s.carrier.mode = .run → x.fate = .awaiting →
      (∀ y, s.carrier.queue.head? = some y → x.carrier ≠ some y.number ∨ y.state ≠ .printed) →
      applyPhase s = (match liveOrder p s with
        | none => starvePiece p s
        | some y => if y.state = .issued then giveUpOrder p y.number y (starvePiece p s) else starvePiece p s)) ∧
    (pieceAt ((geometryItems s).applicator + 1) s = none → settleCarrier s = s) ∧
    (p = (geometryItems s).applicator + 1 →
      settleCarrier s =
        let u := if x.fate = .awaiting then starvePiece p s else s
        match liveOrder p s with
        | none => u
        | some y => giveUpOrder p y.number y u) ∧
    pieceAt p (starvePiece p s) = some (markPiece .carrierStarve (actionOf .carrierStarve s) { x with fate := .starved }) ∧
      (starvePiece p s).fault = (raise (pieceFault .carrierStarve .none p x s) s).fault ∧
      (starvePiece p s).carrier = s.carrier ∧ (∀ q, q ≠ p → entryAt q (starvePiece p s) = entryAt q s)

/-! ## Verify, wrap and feed -/

/-- R115 to R118: CODE READ by its four cases in their order, and NO READ, with v set, each with its fault recorded on the
piece; both stray while v is none; and the settlement at a boundary of the pieces that have just left v and v+1. It is part
of the track's advance, which ends before the entry event (R61): where it raises CARRIER_UNREAD under STOP, the gate is in
HALT before the pocket of that boundary is filled, and no record enters, so that with the records accounted for (the
invariant of StepKeepsRecordsAccounted) the queue stays as it was. -/
def Obligations.ReadingsAreJudgedAndSettled : Prop :=
  (∀ (num : Byte) (b : List Byte) (s : State), Roomy 2 s → b.length = 2 → (geometryItems s).verify = none →
      exec (.codeRead .carrier num b) s = .next (strayReport .carrier (silent .carrier s)) ∧
      exec (.noRead .carrier num []) s = .next (strayReport .carrier (silent .carrier s))) ∧
  (∀ (num : Byte) (b : List Byte) (v : Nat) (s : State), Roomy 2 s → b.length = 2 →
      (geometryItems s).verify = some v →
      let fits := fun x : Piece => x.applied.map matchCode = some (ofBytes b)
      let waits := fun x : Piece => x.fate = .applied ∧ x.verify = .pending
      let late := fun x : Piece => x.verify = .unreadProvisional ∧ fits x
      (∀ x, pieceAt v s = some x → waits x → fits x →
        exec (.codeRead .carrier num b) s = .next (silent .carrier
          ((s.setTrack (s.track.set v (.piece { x with verify := .match_ }))).setVerify { mismatchRun := 0 }))) ∧
      (∀ x, pieceAt (v + 1) s = some x → late x → (∀ y, pieceAt v s = some y → ¬(waits y ∧ fits y)) →
        exec (.codeRead .carrier num b) s = .next (silent .carrier
          ((s.setTrack (s.track.set (v + 1) (.piece { x with verify := .match_ }))).setVerify { mismatchRun := 0 }))) ∧
      (∀ x, pieceAt v s = some x → waits x → ¬fits x → (∀ y, pieceAt (v + 1) s = some y → ¬late y) →
        ∃ t y, exec (.codeRead .carrier num b) s = .next t ∧ pieceAt v t = some y ∧ y.verify = .mismatch ∧
          (actionOf .carrierMismatch s = .reject ∨ actionOf .carrierMismatch s = .stop → y.rejectDue = true) ∧
          (s.verify.mismatchRun = 0 → t.verify.mismatchRun = 1 ∧ t.carrier = s.carrier ∧
            y = markPiece .carrierMismatch (actionOf .carrierMismatch s) { x with verify := .mismatch } ∧
            t.fault = (raise (pieceFault .carrierMismatch (.port .carrier) v x s) s).fault) ∧
          (s.verify.mismatchRun = 1 → t.verify.mismatchRun = 0 ∧ t.carrier.mode ≠ .run ∧
            (actionOf .carrierSequence s = .stop → t.fault.stopLatch = true))) ∧
      ((∀ y, pieceAt v s = some y → ¬waits y) → (∀ y, pieceAt (v + 1) s = some y → ¬late y) →
        exec (.codeRead .carrier num b) s = .next (strayReport .carrier (silent .carrier s))) ∧
      (∀ x, pieceAt v s = some x → waits x → ∃ t, exec (.noRead .carrier num []) s = .next t ∧
        pieceAt v t = some (markPiece .carrierUnread (actionOf .carrierUnread s) { x with verify := .unread }) ∧
        t.fault = (raise (pieceFault .carrierUnread (.port .carrier) v x s) s).fault ∧
        (∀ q, q ≠ v → entryAt q t = entryAt q s) ∧ t.verify = s.verify ∧ t.carrier = s.carrier) ∧
      ((∀ y, pieceAt v s = some y → ¬waits y) →
        exec (.noRead .carrier num []) s = .next (strayReport .carrier (silent .carrier s)))) ∧
  (∀ s : State, (geometryItems s).verify = none → settleVerify s = s) ∧
  (∀ (v : Nat) (s : State), (geometryItems s).verify = some v →
      (∀ x, pieceAt (v + 1) s = some x →
        pieceAt (v + 1) (settleVerify s) = some { x with
          verify := if x.verify = .pending ∧ x.fate = .applied then .unreadProvisional
            else if x.verify = .pending ∧ (x.fate = .void ∨ x.fate = .starved) then .notChecked else x.verify }) ∧
      (∀ x, pieceAt (v + 2) s = some x → x.verify = .unreadProvisional →
        pieceAt (v + 2) (settleVerify s) =
            some (markPiece .carrierUnread (actionOf .carrierUnread s) { x with verify := .unread }) ∧
          (settleVerify s).fault = (raise (pieceFault .carrierUnread .none (v + 2) x s) s).fault) ∧
      ((∀ x, pieceAt (v + 2) s = some x → x.verify ≠ .unreadProvisional) →
        entryAt (v + 2) (settleVerify s) = entryAt (v + 2) s ∧ (settleVerify s).fault = s.fault) ∧
      (∀ q, q ≠ v + 1 → q ≠ v + 2 → entryAt q (settleVerify s) = entryAt q s) ∧
      (settleVerify s).verify = s.verify ∧ (settleVerify s).carrier = s.carrier) ∧
  (∀ (a b : BitVec 12) (order : List PulseTask) (g : Geometry) (v : Nat) (x : Piece) (s : State),
      s.setup.geometry = some g → g.verify = some v → g.divider ≤ s.reg.remainder + 1 → g.pitch ≤ s.reg.phase + 1 →
      pieceAt (v + 1) s = some x → x.verify = .unreadProvisional → v + 2 < s.track.length →
      actionOf .carrierUnread s = .stop → s.fault.stopLatch = false ∨ s.run.gate = .halt →
      ∃ t, exec (.encoderPulse a b order) s = .next t ∧ t.run.gate = .halt ∧ pieceAt 0 t = none ∧
        (RecordsAccounted s → t.store.queue = s.store.queue))

/-- R79, R121, R151: WRAP FAULT is stray where it is malformed or no geometry is set. Otherwise it covers the pieces at w,
w−1 and so on down to w−span+1: one whose wrap is OK takes the cause and the fault, one whose wrap is FAULT keeps its cause
and its fault set, WRAP_FAULT is handed on for each, and every other entry is left. That REJECT or STOP sets reject due also
where the wrap is FAULT already is read from R151 (log 28). -/
def Obligations.WrapFaultMarksTheCoveredPieces : Prop :=
  (∀ (num : Byte) (b : List Byte) (s : State), Roomy 2 s →
    b.length ≠ 2 ∨ wrapCauseOfCode (field b 0 1) = none ∨ field b 1 1 = 0 ∨ 8 < field b 1 1 ∨ s.setup.geometry = none →
    exec (.wrapFault .line num b) s = .next (strayReport .line (silent .line s))) ∧
  ∀ (num c n : Byte) (cause : WrapCause) (g : Geometry) (s : State), Roomy 2 s →
    s.setup.geometry = some g → wrapCauseOfCode c.toNat = some cause → 1 ≤ n.toNat → n.toNat ≤ 8 →
    ∃ t, exec (.wrapFault .line num [c, n]) s = .next t ∧
      (∀ q x, pieceAt q s = some x → q ≤ g.wrap → g.wrap < q + n.toNat →
        (x.wrap = none → pieceAt q t =
          some (markPiece .wrapFault (actionOf .wrapFault s) { x with wrap := some cause })) ∧
        (x.wrap ≠ none → pieceAt q t = some { x with
          rejectDue := x.rejectDue || decide (actionOf .wrapFault s = .reject ∨ actionOf .wrapFault s = .stop) })) ∧
      (actionOf .wrapFault s ≠ .off → s.fault.counts[kindIndex .wrapFault] ≤ 65535 →
        t.fault.counts[kindIndex .wrapFault] = min 65535 (s.fault.counts[kindIndex .wrapFault] +
          ((List.range (g.wrap + 1)).filter fun q => g.wrap < q + n.toNat && (pieceAt q s).isSome).length)) ∧
      (actionOf .wrapFault s = .off → t.fault = s.fault) ∧
      (∀ q, pieceAt q s = none ∨ g.wrap < q ∨ q + n.toNat ≤ g.wrap → entryAt q t = entryAt q s) ∧
      t.store = s.store ∧ t.bundles = s.bundles ∧ t.carrier = s.carrier ∧ t.reg = s.reg ∧ t.disp = s.disp

/-- R81 to R86: a station's call and detect phase events at the piece or pocket at its position, by the two detect lines,
with the faults handed on; the lines are read where the station is on or its call is outstanding. -/
def Obligations.StationCallsAndReadsThePocket : Prop :=
  ∀ (i : Fin 12) (e : Station) (s : State),
    let read := e.on || s.callOutstanding[i]
    let lines := (s.pins.detectA.getLsbD i.val, s.pins.detectB.getLsbD i.val)
    let unchanged := s.setCallOutstanding (s.callOutstanding.set i false)
    let pocketFaultAt := fun k pocket => raise { plainFault k (.station i) s with
      pocket := pocket, position := some e.position } s
    (pieceAt e.position s = none → callPhase i e s = s) ∧
    (detectPhase i e s).callOutstanding = s.callOutstanding.set i false ∧
    (∀ q, q ≠ e.position → entryAt q (detectPhase i e s) = entryAt q s) ∧
    (∀ x, pieceAt e.position s = some x →
      (e.on = true → planPending i x = true → callPhase i e s =
        ((s.setLines { s.lines with calls := s.lines.calls.set i (some (s.reg.phase + e.callWidth)) }).setCallOutstanding
          (s.callOutstanding.set i true))) ∧
      (e.on = false ∨ planPending i x = false → callPhase i e s = s) ∧
      (planPending i x = true →
        let (result, kind) := if s.callOutstanding[i] then
            match lines with
            | (true, false) => (FeedResult.fed, none)
            | (false, false) => (.missed, some FaultKind.feedMiss)
            | (true, true) => (.double, some .feedDouble)
            | (false, true) => (.sensor, some .feedSensor)
          else (.missed, some .feedMiss)
        let y := { x with plan := x.plan.map fun q => if q.station = i then { q with result := result } else q }
        match kind with
        | none => pieceAt e.position (detectPhase i e s) = some y ∧ (detectPhase i e s).fault = s.fault
        | some k => pieceAt e.position (detectPhase i e s) = some (markPiece k (actionOf k s) y) ∧
          (detectPhase i e s).fault = (raise (pieceFault k (.station i) e.position x s) s).fault) ∧
      (planNames i x = true → planPending i x = false → detectPhase i e s = unchanged) ∧
      (planNames i x = false → read = false ∨ lines = (false, false) → detectPhase i e s = unchanged) ∧
      (planNames i x = false → read = true → lines.1 = true →
        pieceAt e.position (detectPhase i e s) =
            some (markPiece .feedExtra (actionOf .feedExtra s) { x with extra := x.extra ||| (1#12 <<< i.val) }) ∧
          (detectPhase i e s).fault = (raise (pieceFault .feedExtra (.station i) e.position x s) s).fault) ∧
      (planNames i x = false → read = true → lines = (false, true) →
        pieceAt e.position (detectPhase i e s) = some (markPiece .feedSensor (actionOf .feedSensor s) x) ∧
          (detectPhase i e s).fault = (raise (pieceFault .feedSensor (.station i) e.position x s) s).fault)) ∧
    (∀ pocket extra, entryAt e.position s = some (.empty pocket extra) ∨
        (∃ k, pocket = some k ∧ entryAt e.position s = some (.locked k extra)) →
      (read = false ∨ lines = (false, false) → detectPhase i e s = unchanged) ∧
      (read = true → lines.1 = true →
        entryAt e.position (detectPhase i e s) = some (.stray pocket (extra ||| (1#12 <<< i.val)) .fed) ∧
          (detectPhase i e s).fault = (pocketFaultAt .strayPiece pocket).fault) ∧
      (read = true → lines = (false, true) →
        entryAt e.position (detectPhase i e s) = entryAt e.position s ∧
          (detectPhase i e s).fault = (pocketFaultAt .feedSensor pocket).fault)) ∧
    (∀ pocket extra cause, entryAt e.position s = some (.stray pocket extra cause) →
      (read = false ∨ lines = (false, false) → detectPhase i e s = unchanged) ∧
      (read = true → lines.1 = true →
        entryAt e.position (detectPhase i e s) = some (.stray pocket (extra ||| (1#12 <<< i.val)) cause) ∧
          (detectPhase i e s).fault = s.fault) ∧
      (read = true → lines = (false, true) →
        entryAt e.position (detectPhase i e s) = entryAt e.position s ∧
          (detectPhase i e s).fault = (pocketFaultAt .feedSensor pocket).fault))

/-! ## The gate -/

/-- R124 to R126: the entry that has just arrived at g: EMPTY and LOCKED pass, a STRAY sets the gate due, a GOOD piece is
announced and delivered, and a rejected one sets the gate due. -/
def Obligations.ArrivalIsDecidedByRejectDue : Prop :=
  ∀ (x : Piece) (b : Bundle) (s : State),
    let g := (geometryItems s).gate
    (∀ pocket extra, entryAt g s = some (.empty pocket extra) → takeArrival s = s) ∧
    (∀ pocket extra, entryAt g s = some (.locked pocket extra) → takeArrival s = s) ∧
    (∀ pocket extra cause, entryAt g s = some (.stray pocket extra cause) →
      takeArrival s = s.setDisp { s.disp with gateDue := some { reject := none, pocket := pocket } }) ∧
    (entryAt g s = some (.piece x) → findBundle x.record.bundle s = some b →
      entryAt g (takeArrival s) = some (.gated x.pocket x.tag) ∧
      (∀ q, q ≠ g → entryAt q (takeArrival s) = entryAt q s) ∧
      (x.rejectDue = false → s.disp.proofPending = false → (takeArrival s).disp = s.disp ∧
        RecordEnded (.delivered x.tag) x.record s (takeArrival s) ∧
        (∃ v : BitVec 24, ∀ y, findBundle x.record.bundle (takeArrival s) = some y →
          y.inFlight = b.inFlight - 1 ∧ y.inLane = b.inLane ∧ y.offSequence = b.offSequence ∧
            y.suspects = b.suspects ∧
            y.delivered = if b.delivered < 16777215 then b.delivered + 1 else v.toNat) ∧
        (txHasRoom .delivery s = true → ∃ more, txQueue .delivery (takeArrival s) = txQueue .delivery s ++
          pieceFrame x.tag x.record.key x.record.bundle b.bay :: more)) ∧
      (x.rejectDue = true ∨ s.disp.proofPending = true →
        (takeArrival s).disp = { s.disp with
          gateDue := some { pocket := none, reject := some {
            tag := x.tag, key := x.record.key, bundle := x.record.bundle, bay := b.bay,
            proof := x.proof || !x.rejectDue } },
          proofPending := x.rejectDue && s.disp.proofPending }))

/-- R52, R127: a rejected piece's record goes where the first line of the table that applies sends it: OFF SEQUENCE with
ABORT, SHORT or LIMIT, or the lane, with LANE_FULL where that holds 16 records; a proof piece keeps its attempt. A count's
value beyond 16,777,215 is free (log 24). -/
def Obligations.RejectedRecordIsPlacedByTheFirstLine : Prop :=
  ∀ (x : Piece) (b : Bundle) (s : State), entryAt (geometryItems s).gate s = some (.piece x) →
    findBundle x.record.bundle s = some b → x.rejectDue = true ∨ s.disp.proofPending = true →
    let proof := x.proof || !x.rejectDue
    let ends := fun reason => RecordEnded (.offSequence reason) x.record s (takeArrival s) ∧
      (takeArrival s).store.lane = s.store.lane ∧
      ∃ v : BitVec 24, ∀ y, findBundle x.record.bundle (takeArrival s) = some y →
        y.inFlight = b.inFlight - 1 ∧ y.inLane = b.inLane ∧ y.delivered = b.delivered ∧ y.suspects = b.suspects ∧
          y.offSequence = if b.offSequence < 16777215 then b.offSequence + 1 else v.toNat
    let joins := fun r : Record => (takeArrival s).store = { s.store with
        lane := s.store.lane ++ [r], map := insertPlace r.key .lane s.store.map } ∧
      placeOf r.key (takeArrival s) = some .lane ∧ (takeArrival s).link = s.link ∧
      (takeArrival s).bundles = { s.bundles with table := s.bundles.table.map fun y =>
        if y.number = r.bundle then { y with inFlight := y.inFlight - 1, inLane := y.inLane + 1 } else y }
    (s.store.jobState = .aborting → ends .abort) ∧
    (s.store.jobState ≠ .aborting → b.short = true → ends .short) ∧
    (s.store.jobState ≠ .aborting → b.short = false →
      (proof = true → s.store.lane.length < 16 → joins x.record) ∧
      (proof = false → x.record.attempt < (geometryItems s).remakeLimit → s.store.lane.length < 16 →
        joins { x.record with attempt := x.record.attempt + 1 }) ∧
      (proof = true ∨ x.record.attempt < (geometryItems s).remakeLimit → 16 ≤ s.store.lane.length → ends .laneFull) ∧
      (proof = false → (geometryItems s).remakeLimit ≤ x.record.attempt → ends .limit))

/-- R130, R131, R133, R134: GATE_CONFIRM, PROOF and the refusal of its payload, and the expiry of a pending confirm that has
seen a boundary, of a stray, of a reject and of a proof piece. The model's choices: the expiry as a command of its own,
which does nothing otherwise (log 7), and the suspect counted for the entry that bears the bundle's number, whichever job
made it (log 30). A count's value beyond 16,777,215 is free (log 24). -/
def Obligations.ConfirmsAreSatisfiedOrExpire : Prop :=
  ∀ (num : Byte) (c : Confirm) (rest : List Confirm) (r : Reject) (s : State), Roomy 3 s →
    (s.disp.confirms = [] →
      exec .gateConfirm s = .next (raise (plainFault .gateStray .none s) s) ∧
      exec .pendingConfirmExpiry s = .next s) ∧
    (s.disp.confirms = c :: rest →
      (c.reject = none ∨ (c.reject = some r ∧ r.proof = false) →
        exec .gateConfirm s = .next (s.setDisp { s.disp with confirms := rest })) ∧
      (c.reject = some r → r.proof = true →
        exec .gateConfirm s =
          .next (appended .line (proofDoneFrame r.tag false) (s.setDisp { s.disp with confirms := rest }))) ∧
      (c.seen ≠ 0 → c.reject = none → exec .pendingConfirmExpiry s =
        .next (raise (plainFault .gateFail .none s) (s.setDisp { s.disp with confirms := rest }))) ∧
      (c.seen ≠ 0 → c.reject = some r →
        ∃ t, exec .pendingConfirmExpiry s = .next t ∧ t.disp = { s.disp with confirms := rest } ∧
          SuspectReported r s t ∧ t.track = s.track ∧ (actionOf .gateFail s = .stop → t.fault.stopLatch = true) ∧
          (s.fault.stopLog = none → actionOf .gateFail s = .stop → (t.fault.stopLog.map FaultLog.record) =
            some { plainFault .gateFail .none s with tag := some r.tag, key := some r.key, bundle := some r.bundle }) ∧
          (r.proof = false → ∃ v : BitVec 24, t.bundles = { s.bundles with table := s.bundles.table.map fun b =>
            if b.number = r.bundle then
              { b with suspects := if b.suspects < 16777215 then b.suspects + 1 else v.toNat } else b })) ∧
      (c.seen = 0 → exec .pendingConfirmExpiry s = .next s)) ∧
    (∀ b : List Byte, b ≠ [] →
      exec (.proof .line num b) s = .next (replied .line (refuseFrame num .badLength) s)) ∧
    (s.disp.proofPending = false → exec (.proof .line num []) s =
      .next (replied .line (acceptFrame num []) (s.setDisp { s.disp with proofPending := true }))) ∧
    (s.disp.proofPending = true →
      exec (.proof .line num []) s = .next (replied .line (refuseFrame num .busy) s))

/-- R124, R128, R129, R133: the gate phase event, and a boundary: the pending confirms are counted, then a gate due left
over is cleared with GATE_FAIL and what R131 asks for its reject, then the arrival is taken. That the suspect is counted for
the entry that bears the bundle's number, whichever job made it, is the model's choice (log 30), and a count's value beyond
16,777,215 is free (log 24). -/
def Obligations.GateIsAssertedOnceForItsDue : Prop :=
  ∀ s : State,
    let g := (geometryItems s).gate
    (s.disp.gateDue = none → gatePhase s = s ∧ clearGateDue g s = s) ∧
    (∀ d, s.disp.gateDue = some d →
      gatePhase s = (s.setLines { s.lines with gate := some (s.reg.phase + (geometryItems s).gateWidth) }).setDisp
        { s.disp with confirms := s.disp.confirms ++ [{ reject := d.reject, seen := 0 }], gateDue := none } ∧
      (clearGateDue g s).disp = { s.disp with gateDue := none } ∧
      (clearGateDue g s).lines = s.lines ∧ (clearGateDue g s).track = s.track ∧
      (clearGateDue g s).fault = (raise { plainFault .gateFail .none s with
        tag := d.reject.map Reject.tag, key := d.reject.map Reject.key, bundle := d.reject.map Reject.bundle,
        pocket := d.pocket, position := some g } s).fault ∧
      (d.reject = none → (clearGateDue g s).store = s.store ∧ (clearGateDue g s).bundles = s.bundles) ∧
      (Roomy 3 s → ∀ r, d.reject = some r → SuspectReported r s (clearGateDue g s))) ∧
    (ageConfirms s).disp = { s.disp with
      confirms := (s.disp.confirms.filter fun c => c.seen = 0).map fun c => { c with seen := 1 } } ∧
    ((∀ c ∈ s.disp.confirms, c.seen = 0) → ageConfirms s = s.setDisp { s.disp with
      confirms := s.disp.confirms.map fun c => { c with seen := 1 } }) ∧
    (Roomy 3 s → ∀ c r, s.disp.confirms = [c] → c.seen ≠ 0 → c.reject = some r →
      SuspectReported r s (ageConfirms s)) ∧
    dispositionBoundary s = takeArrival (clearGateDue g (ageConfirms s))

/-! ## Bundles -/

/-- R44, R143 to R147: TIED accepted, with the completion of a finished job by the last bundle, out of its range, for a
bundle not CLOSING, and malformed or unknown; the tie timer's expiry and JAM, which raise DELIVERY_FAULT; and a JAM of a
wrong length, which is stray. That the expiry does nothing where no timer runs is the model's choice (log 2). The job number
of the STATE notice of a completion, 0 for none, is read from R44 (log 21). -/
def Obligations.TiesExpiriesAndJamsAreTaken : Prop :=
  (∀ (num : Byte) (b : List Byte) (x : Bundle) (s : State), Roomy 5 s →
      (b.length = 6 → field b 0 3 ≠ 0 → findBundle (field b 0 3) s = some x →
        (x.state = .closing → x.delivered ≤ field b 3 3 → field b 3 3 ≤ x.delivered + x.suspects →
          ∃ t more, exec (.tied .delivery num b) s = .next t ∧
            t.bundles.table = s.bundles.table.filter (fun y => y.number ≠ field b 0 3) ∧
            (∀ h : Fin 16, t.bundles.bays[h] = if s.bundles.bays[h] = some (field b 0 3) then none
              else s.bundles.bays[h]) ∧
            txQueue .address t =
              txQueue .address s ++ bundleDoneFrame (field b 0 3) x.delivered x.offSequence :: more ∧
            t.store.queue = s.store.queue ∧ t.store.lane = s.store.lane ∧ t.track = s.track ∧ t.fault = s.fault ∧
            (s.bundles.table = [x] → s.store.queue = [] → s.store.lane = [] → pieces s = [] →
              s.store.jobState = .ended ∨ s.store.jobState = .aborting → JobCompleted s t ∧
              ∀ p, txQueue p t = txQueue p s ++
                (if p = .address then [bundleDoneFrame x.number x.delivered x.offSequence] else []) ++
                completionNotices (decide (s.store.jobState = .aborting)) p s)) ∧
        (x.state = .closing → field b 3 3 < x.delivered ∨ x.delivered + x.suspects < field b 3 3 →
          exec (.tied .delivery num b) s = .next (raise { plainFault .deliveryFault (.port .delivery) s with
            bundle := some (field b 0 3) } (silent .delivery s))) ∧
        (x.state ≠ .closing →
          exec (.tied .delivery num b) s = .next (strayReport .delivery (silent .delivery s)))) ∧
      (b.length ≠ 6 ∨ field b 0 3 = 0 ∨ findBundle (field b 0 3) s = none →
        exec (.tied .delivery num b) s = .next (strayReport .delivery (silent .delivery s)))) ∧
  (∀ (num c : Byte) (n elapsed : Nat) (x : Bundle) (s : State), Roomy 2 s →
      (findBundle n s = some x → x.tieTimer = some elapsed →
        exec (.tieTimerExpiry n) s = .next (raise { plainFault .deliveryFault .none s with bundle := some n }
          (s.setBundles { s.bundles with table := s.bundles.table.map fun b =>
            if b.number = n then { b with tieTimer := none } else b }))) ∧
      (findBundle n s = some x → x.tieTimer = none → exec (.tieTimerExpiry n) s = .next s) ∧
      (∀ b : List Byte, b.length ≠ 1 →
        exec (.jam .delivery num b) s = .next (strayReport .delivery (silent .delivery s))) ∧
      (∀ h : Fin 16, h.val = c.toNat → h.val < (geometryItems s).bays →
        exec (.jam .delivery num [c]) s = .next (raise { plainFault .deliveryFault (.port .delivery) s with
          bundle := s.bundles.bays[h] } (silent .delivery s))) ∧
      ((geometryItems s).bays ≤ c.toNat →
        exec (.jam .delivery num [c]) s =
          .next (raise (plainFault .deliveryFault (.port .delivery) s) (silent .delivery s))))

/-- R137, R140, R141: the close check of a bundle. One that is not ready stays; a ready one is broken, its bay held, or
emptied, its bay freed in the same step. -/
def Obligations.ReadyBundleIsBrokenOrEmptied : Prop :=
  ∀ (n : Nat) (x : Bundle) (s : State), findBundle n s = some x →
    (x.state ≠ .sealed ∨ (∃ r ∈ s.store.queue, r.bundle = n) ∨ x.inFlight ≠ 0 ∨ x.inLane ≠ 0 →
      closeCheck n s = s) ∧
    (x.state = .sealed → (∀ r ∈ s.store.queue, r.bundle ≠ n) → x.inFlight = 0 → x.inLane = 0 →
      (x.delivered ≠ 0 ∨ x.suspects ≠ 0 →
        (closeCheck n s).bundles = { s.bundles with table := s.bundles.table.map fun b =>
          if b.number = n then { b with state := .closing, tieTimer := some 0 } else b } ∧
        (txHasRoom .delivery s = true →
          txQueue .delivery (closeCheck n s) = txQueue .delivery s ++ [breakFrame n x.bay x.delivered])) ∧
      (x.delivered = 0 → x.suspects = 0 →
        (closeCheck n s).bundles.table = s.bundles.table.filter (fun b => b.number ≠ n) ∧
        (∀ h : Fin 16, (closeCheck n s).bundles.bays[h] =
          if s.bundles.bays[h] = some n then none else s.bundles.bays[h]) ∧
        (txHasRoom .address s = true →
          ∃ more, txQueue .address (closeCheck n s) = txQueue .address s ++ bundleEmptyFrame n :: more)))

/-! ## Registration -/

/-- R1, R2, R9, R76: an encoder pulse before the first SET GEOMETRY, between counts, at a count above phase 0, and at a
pitch boundary, which begins a pitch of which no phase was issued. The detect lines' levels are what the pulse brings (the
model's choice, log 13). -/
def Obligations.EncoderPulsesCountPhasesAndPockets : Prop :=
  ∀ (a b : BitVec 12) (order : List PulseTask) (g : Geometry) (s : State), s.link.dropped = [] →
    (s.setup.geometry = none →
      exec (.encoderPulse a b order) s = .next (s.setPins { detectA := a, detectB := b })) ∧
    (s.setup.geometry = some g → s.reg.remainder + 1 < g.divider →
      exec (.encoderPulse a b order) s = .next ((s.setPins { detectA := a, detectB := b }).setReg
        { s.reg with remainder := s.reg.remainder + 1 })) ∧
    (s.setup.geometry = some g → g.divider ≤ s.reg.remainder + 1 → s.reg.phase + 1 < g.pitch →
      ∃ t, exec (.encoderPulse a b order) s = .next t ∧ t.reg.remainder = 0 ∧ t.reg.phase = s.reg.phase + 1 ∧
        t.reg.pocketIndex = s.reg.pocketIndex ∧ t.reg.issuedTo = s.reg.issuedTo ∧ t.track.length = s.track.length ∧
        t.setup = s.setup) ∧
    (s.setup.geometry = some g → g.divider ≤ s.reg.remainder + 1 → g.pitch ≤ s.reg.phase + 1 → 0 < s.track.length →
      ∃ t, exec (.encoderPulse a b order) s = .next t ∧ t.reg.remainder = 0 ∧ t.reg.phase = 0 ∧
        t.reg.issuedTo = 0 ∧ t.reg.pocketIndex = (s.reg.pocketIndex + 1) % g.chainLength ∧ t.reg.state = s.reg.state ∧
        t.track.length = s.track.length ∧ t.setup = s.setup ∧
        ∀ q, 0 < q → q < s.track.length → q ≠ g.gate → q ≠ g.applicator + 1 →
          (∀ v, g.verify = some v → q ≠ v + 1 ∧ q ≠ v + 2) → entryAt q t = entryAt (q - 1) s)

/-- R2, R3, R4, R8, R9, R61, R76, R118: the block events that a count issues, each once. At a phase above 0: the end of the line pulses
due, then the mark window, the stations, the carrier unit and the disposition unit, or the mark window alone where the phase
was issued before an alignment in this pitch. At a boundary: the end of the pulses due at P, a mark window of tolerance 0,
the track's advance with the verify settlement, then the entry, the carrier unit and the disposition unit. The model's
choices: the pulse names the order of the block events (log 6), the settlement and each of them are ended before the next
(log 23), the pulse brings the levels of the detect lines (log 13), and a phase moved to one already issued before an
alignment is not issued in the pitch (log 29). Which phases an alignment leaves issued, with the mark window looked at on them too, is read from R9 (log 26). -/
def Obligations.CountIssuesItsBlockEvents : Prop :=
  ∀ (a b : BitVec 12) (order : List PulseTask) (g : Geometry) (s : State), s.link.dropped = [] →
    s.setup.geometry = some g → g.divider ≤ s.reg.remainder + 1 →
    let u := s.setPins { detectA := a, detectB := b }
    (s.reg.phase + 1 < g.pitch → ∃ tasks : List PulseTask,
      tasks.Perm (if s.reg.issuedTo < s.reg.phase + 1 then
        .window :: allStations.map PulseTask.station ++ [.carrier, .disposition] else [.window]) ∧
      exec (.encoderPulse a b order) s = .next (phaseEvents tasks (releasePulses (s.reg.phase + 1)
        (u.setReg { s.reg with remainder := 0, phase := s.reg.phase + 1 })))) ∧
    (g.pitch ≤ s.reg.phase + 1 → ∃ tasks : List PulseTask, IsBoundaryOrder tasks ∧
      exec (.encoderPulse a b order) s =
        let v := windowBoundary (releasePulses g.pitch (u.setReg { s.reg with
          remainder := 0, phase := 0, pocketIndex := (s.reg.pocketIndex + 1) % g.chainLength }))
        .next (boundaryEvents tasks (settle (settleVerify ((v.setReg { v.reg with issuedTo := 0 }).setTrack
          (.empty none 0 :: v.track.dropLast)))))) ∧
    (∀ (i : Fin 12) (t : State), (stationAt i t = none → phaseTask (.station i) t = t) ∧
      ∀ e, stationAt i t = some e →
        (t.reg.phase = e.callPhase → phaseTask (.station i) t = callPhase i e t) ∧
        (t.reg.phase ≠ e.callPhase → t.reg.phase = e.detectPhase → phaseTask (.station i) t = detectPhase i e t) ∧
        (t.reg.phase ≠ e.callPhase → t.reg.phase ≠ e.detectPhase → phaseTask (.station i) t = t)) ∧
    (∀ t : State, phaseTask .window t = windowPhase t ∧
      phaseTask .carrier t = (if t.reg.phase = (geometryItems t).dumpPhase then dumpPhase t
        else if t.reg.phase = (geometryItems t).applyPhase then applyPhase t else t) ∧
      phaseTask .disposition t = (if t.reg.phase = (geometryItems t).gatePhase then gatePhase t else t) ∧
      boundaryTask .entry t = entryEvent t ∧ boundaryTask .carrier t = settleCarrier t ∧
      boundaryTask .disposition t = dispositionBoundary t) ∧
    (∀ (n : Nat) (t : State),
      (∀ i : Fin 12, (releasePulses n t).lines.calls[i] =
        if t.lines.calls[i] = some n then none else t.lines.calls[i]) ∧
      (releasePulses n t).lines.apply = (if t.lines.apply = some n then none else t.lines.apply) ∧
      (releasePulses n t).lines.dump = (if t.lines.dump = some n then none else t.lines.dump) ∧
      (releasePulses n t).lines.gate = if t.lines.gate = some n then none else t.lines.gate)

/-- R8, R10 to R15, R17: the mark window at a count. An open window keeps the bounds it opened with; a closed one opens by
the tolerance in the setup store, at phase P−T of pocket index L−1 or, with T 0, at the boundary into pocket index 0; a
close is classed by the registration state, and in REGISTERED the fault window is aged after it. -/
def Obligations.MarkWindowOpensAndCloses : Prop :=
  ∀ s : State,
    let g := geometryItems s
    let ends : Prop := s.reg.phase = s.reg.window.tolerance + 1 ∧ s.reg.pocketIndex = 0
    let closed : Registration := { s.reg with window := { s.reg.window with isOpen := false } }
    let opened : Registration :=
      { s.reg with window := { isOpen := true, markSeen := false, tolerance := g.tolerance } }
    let fault : FaultRecord := { plainFault .homeFault .none s with pocket := some s.reg.pocketIndex }
    (s.reg.window.isOpen = false →
      (s.reg.phase + g.tolerance = g.pitch → s.reg.pocketIndex + 1 = g.chainLength →
        windowPhase s = s.setReg opened) ∧
      (s.reg.phase + g.tolerance ≠ g.pitch ∨ s.reg.pocketIndex + 1 ≠ g.chainLength → windowPhase s = s) ∧
      (g.tolerance = 0 → s.reg.pocketIndex = 0 → windowBoundary s = s.setReg opened) ∧
      (g.tolerance ≠ 0 ∨ s.reg.pocketIndex ≠ 0 → windowBoundary s = s)) ∧
    (s.reg.window.isOpen = true → windowBoundary s = s ∧ (¬ends → windowPhase s = s)) ∧
    (s.reg.window.isOpen = true → ends →
      (s.reg.state = .unregistered ∨ s.reg.state = .lost → windowPhase s = s.setReg closed) ∧
      (s.reg.state = .seeking → windowPhase s = s.setReg (if s.reg.window.markSeen then closed
        else { closed with goodMarks := 0 })) ∧
      (s.reg.state = .registered → s.reg.window.markSeen = true → windowPhase s = s.setReg { closed with
        faultWindow := s.reg.faultWindow.bind fun n => if n + 1 < 8 then some (n + 1) else none }) ∧
      (s.reg.state = .registered → s.reg.window.markSeen = false → s.reg.faultWindow = none →
        (windowPhase s).reg = { closed with faultWindow := some 1 } ∧
          (windowPhase s).fault = (raise fault s).fault ∧ (windowPhase s).track = s.track ∧
          (windowPhase s).carrier = s.carrier ∧ (windowPhase s).store = s.store) ∧
      (s.reg.state = .registered → s.reg.window.markSeen = false → ∀ n, s.reg.faultWindow = some n →
        (windowPhase s).reg = { closed with
            state := .lost, faultWindow := none, goodMarks := 0, chainClearPending := true } ∧
          pieces (windowPhase s) = [] ∧ (windowPhase s).carrier.mode ≠ .run ∧
          (Roomy 4 s → LossTold s (windowPhase s)) ∧
          (actionOf .registrationLost s = .stop → (windowPhase s).fault.stopLatch = true)))

/-- R4, R9, R10, R11, R12, R15, R17, R81: a home mark that aligns, with the STATE notice of SEEKING where the state changes,
the line pulses and the call-outstanding flags released, and with a pitch boundary where 2q is P or more, its advance with
the verify settlement first (R118), and none otherwise, when the phases up to q are not issued again; a good mark, and a bad
mark in SEEKING. The model's choices: the mark names the order of the boundary's block events (log 6), and the settlement
and each of them are ended, with the faults of dropped messages, before the next (log 23). Where a pitch is aligned more
than once, the phases of each alignment stay issued (read from R9, log 26). -/
def Obligations.HomeMarksAlignAndConfirmTheCount : Prop :=
  ∀ (order : List PulseTask) (g : Geometry) (s : State), Roomy 2 s →
    let aligned : Registration := { s.reg with
      phase := 0, pocketIndex := 0, remainder := 0, goodMarks := 0,
      issuedTo := if g.pitch ≤ 2 * s.reg.phase then 0 else max s.reg.issuedTo s.reg.phase,
      window := { isOpen := true, markSeen := true, tolerance := g.tolerance } }
    let aligns : Prop := ∃ t, exec (.homeMark order) s = .next t ∧
      t.reg = (if s.reg.state = .seeking then aligned else { aligned with state := .seeking }) ∧
      t.lines = .released ∧ t.callOutstanding = Vector.replicate 12 false ∧
      (2 * s.reg.phase < g.pitch → t.track = s.track ∧ t.disp = s.disp ∧ t.entry = s.entry ∧ t.store = s.store ∧
        t.carrier = s.carrier ∧ t.bundles = s.bundles ∧ t.fault = s.fault ∧
        ∀ p, txQueue p t = txQueue p s ++
          if s.reg.state ≠ .seeking ∧ (subscription p s).state = true then [stateFrame (.registration .seeking)] else []) ∧
      (g.pitch ≤ 2 * s.reg.phase → ∃ tasks, IsBoundaryOrder tasks ∧
        let u := boundaryEvents tasks (settle (settleVerify ((s.setReg { s.reg with
          phase := 0, issuedTo := 0, pocketIndex := 0 }).setTrack (.empty none 0 :: s.track.dropLast))))
        t.track = u.track ∧ t.disp = u.disp ∧ t.entry = u.entry ∧ t.store = u.store ∧ t.carrier = u.carrier ∧
          t.bundles = u.bundles ∧
          ∀ p, s.reg.state ≠ .seeking → (subscription p s).state = true → txHasRoom p u = true →
            ∃ more, txQueue p t = txQueue p u ++ stateFrame (.registration .seeking) :: more)
    (s.setup.geometry = none → exec (.homeMark order) s = .next s) ∧
    (s.setup.geometry = some g →
      (s.reg.state = .unregistered ∨ s.reg.state = .lost → aligns) ∧
      (s.reg.state = .seeking → s.reg.window.isOpen = false ∨ s.reg.window.markSeen = true → aligns) ∧
      (s.reg.state = .seeking → s.reg.window.isOpen = true → s.reg.window.markSeen = false →
        (s.reg.goodMarks + 1 < 2 → exec (.homeMark order) s = .next (s.setReg { s.reg with
          window := { s.reg.window with markSeen := true }, goodMarks := s.reg.goodMarks + 1 })) ∧
        (2 ≤ s.reg.goodMarks + 1 →
          exec (.homeMark order) s = .next (announced (.registration .registered) (s.setReg { s.reg with
            window := { s.reg.window with markSeen := true }, state := .registered, goodMarks := 0,
            faultWindow := none })))) ∧
      (s.reg.state = .registered → s.reg.window.isOpen = true → s.reg.window.markSeen = false →
        exec (.homeMark order) s =
          .next (s.setReg { s.reg with window := { s.reg.window with markSeen := true } })))

/-- R12, R13, R14, R17, R58, R80: a bad mark in REGISTERED is a HOME_FAULT alone where the fault window is CLEAR; else
registration is lost, the track purged, the stop latch set and the carrier unit in HOLD, with the STATE notices of LOST and
of chain-clear-pending. The first-attempt records go back before the head of the queue and the remakes to the lane's tail as
far as it has room; while the job is ABORTING each of them is in the backlog or has left the store. -/
def Obligations.SecondBadMarkLosesRegistration : Prop :=
  ∀ (order : List PulseTask) (g : Geometry) (s : State), s.setup.geometry = some g → s.reg.state = .registered →
    s.reg.window.isOpen = false ∨ s.reg.window.markSeen = true →
    let oldest := (pieces s).reverse
    let firsts := (oldest.filter fun x => x.source == .queue).map Piece.record
    let remakes := (oldest.filter fun x => x.source == .lane).map Piece.record
    (Roomy 2 s → s.reg.faultWindow = none →
      exec (.homeMark order) s = .next ((raise { plainFault .homeFault .none s with
        pocket := some s.reg.pocketIndex } s).setReg { s.reg with faultWindow := some 0 })) ∧
    (∀ n, s.reg.faultWindow = some n →
      ∃ t, exec (.homeMark order) s = .next t ∧
        t.reg = { s.reg with state := .lost, faultWindow := none, goodMarks := 0, chainClearPending := true } ∧
        pieces t = [] ∧ t.carrier.mode ≠ .run ∧ (Roomy 4 s → LossTold s t) ∧
        (∀ q x, pieceAt q s = some x → entryAt q t = some (.stray (some x.pocket) 0 .purged)) ∧
        (∀ q, pieceAt q s = none → entryAt q t = entryAt q s) ∧
        (s.store.jobState ≠ .aborting →
          t.store.queue = firsts ++ s.store.queue ∧
          t.store.lane = s.store.lane ++ remakes.take (16 - s.store.lane.length) ∧
          t.store.backlog = s.store.backlog ∧
          (KeysDistinct s →
            (∀ r ∈ firsts, placeOf r.key t = some .queue) ∧
            (∀ r ∈ remakes.take (16 - s.store.lane.length), placeOf r.key t = some .lane) ∧
            ∀ r ∈ remakes.drop (16 - s.store.lane.length), placeOf r.key t = none) ∧
          (s.store.lane.length + remakes.length ≤ 16 →
            t.store.textUsed = s.store.textUsed ∧
            t.bundles = { s.bundles with table := s.bundles.table.map fun b => { b with
              inFlight := b.inFlight - oldest.countP fun x => x.record.bundle == b.number
              inLane := b.inLane + remakes.countP fun r => r.bundle == b.number } })) ∧
        (s.store.jobState = .aborting → KeysDistinct s →
          ∀ x ∈ pieces s, ∀ r ∈ t.store.queue ++ t.store.lane, r.key = x.record.key →
            (backlogOutcome r.key t).isSome = true) ∧
        (actionOf .registrationLost s = .stop → t.fault.stopLatch = true))

/-! ## Invariants -/

/-- The invariants hold after power-on. -/
def Obligations.InvariantsHoldAtReset : Prop :=
  StopHalts State.reset ∧ NoPiecesUnlessRegistered State.reset ∧ HoldIsEmpty State.reset ∧
    WithinCapacity State.reset ∧ CountersInRange State.reset ∧ ActionsAllowed State.reset ∧
    TrackFitsGeometry State.reset ∧ CountWithinPitch State.reset ∧ ConfirmsBounded State.reset ∧
    BaysMatchTable State.reset ∧ RecordsAccounted State.reset ∧ GateHoldsNoPiece State.reset ∧
    QueueInOrder State.reset ∧ OrdersDistinct State.reset ∧ BufferAtHead State.reset ∧ OrdersMatchPieces State.reset

/-- R14, R24, R62, R77, R153: every step keeps the stop latch set exactly while the gate is in HALT, and the track free of
piece records outside REGISTERED. -/
def Obligations.StepKeepsHaltWithTheLatchAndPiecesRegistered : Prop :=
  (∀ s t : State, StopHalts s → step s = .next t → StopHalts t) ∧
    ∀ s t : State, NoPiecesUnlessRegistered s → step s = .next t → NoPiecesUnlessRegistered t

/-- R95, R109: every step keeps the carrier queue and the printed count empty in HOLD, and in a queue of distinct numbers
the printed orders an unbroken run at the head, as many as the printed count and at most K. That the numbers are distinct is
what R93 says of every queue; the counter's wrap after 16,777,215 orders makes it a premise. -/
def Obligations.StepKeepsHoldEmptyAndTheBufferAtTheHead : Prop :=
  (∀ s t : State, HoldIsEmpty s → step s = .next t → HoldIsEmpty t) ∧
    ∀ s t : State, BufferAtHead s ∧ OrdersDistinct s → step s = .next t → BufferAtHead t

/-- R93, R94: every step keeps the live orders in the entry order of the pieces that name them, one for one, and those
pieces no further than the applicator, in a queue of distinct numbers (what R93 says of every queue). -/
def Obligations.StepKeepsOrdersWithTheirPieces : Prop :=
  ∀ s t : State, OrdersMatchPieces s ∧ OrdersDistinct s ∧ HoldIsEmpty s ∧ TrackFitsGeometry s → step s = .next t →
    OrdersMatchPieces t

/-- R45, R46, R55, R124: every step keeps each held record in one place with its entry in the record map, the text pool at
their texts, the backlog to waiting records, and the gate position free of piece records. -/
def Obligations.StepKeepsRecordsAccounted : Prop :=
  ∀ s t : State, RecordsAccounted s ∧ GateHoldsNoPiece s ∧ TrackFitsGeometry s → step s = .next t →
    RecordsAccounted t ∧ GateHoldsNoPiece t

/-- R44, R47, R58: every step keeps the first-attempt records in bundle order, from the oldest in the track to the tail of
the queue, none above the load mark and no more than 768, and no record held without a job. -/
def Obligations.StepKeepsTheDispatchQueueInOrder : Prop :=
  ∀ s t : State, QueueInOrder s ∧ TrackFitsGeometry s → step s = .next t → QueueInOrder t

/-- R37, R46, R52, R93, R136, R150, R160, R171: every step keeps the capacities, the counters' ranges and the allowed
actions, and leaves no dropped message without its fault. -/
def Obligations.StepKeepsCapacitiesAndRanges : Prop :=
  ∀ s t : State, WithinCapacity s ∧ CountersInRange s ∧ ActionsAllowed s ∧ s.link.dropped = [] → step s = .next t →
    WithinCapacity t ∧ CountersInRange t ∧ ActionsAllowed t ∧ t.link.dropped = []

/-- R1, R2, R6, R9, R75, R129: every step keeps the track at g+1 positions of a geometry in range, the count within its
pitch and the chain, and the pending confirms at one of each pitch. -/
def Obligations.StepKeepsTrackCountAndConfirms : Prop :=
  ∀ s t : State, TrackFitsGeometry s ∧ CountWithinPitch s ∧ ConfirmsBounded s → step s = .next t →
    TrackFitsGeometry t ∧ CountWithinPitch t ∧ ConfirmsBounded t

/-- R136: every step keeps the bay map and the bay fields naming the same pairs, in a table of ascending numbers. -/
def Obligations.StepKeepsBaysAndTableTogether : Prop :=
  ∀ s t : State, BaysMatchTable s → step s = .next t → BaysMatchTable t
end

