-- ==== Sys2Proof/Laws/State.lean ====
section
/-! SUPPORT. One lemma for each field and each setter of State, true by rfl, so that no proof unfolds a record update. -/

namespace Sys2Proof.Machine

variable (s : State)

@[simp] theorem State.setPending_pending (x : List Instr) : (s.setPending x).pending = x := rfl
@[simp] theorem State.setPending_pins (x : List Instr) : (s.setPending x).pins = s.pins := rfl
@[simp] theorem State.setPending_reg (x : List Instr) : (s.setPending x).reg = s.reg := rfl
@[simp] theorem State.setPending_lines (x : List Instr) : (s.setPending x).lines = s.lines := rfl
@[simp] theorem State.setPending_run (x : List Instr) : (s.setPending x).run = s.run := rfl
@[simp] theorem State.setPending_setup (x : List Instr) : (s.setPending x).setup = s.setup := rfl
@[simp] theorem State.setPending_store (x : List Instr) : (s.setPending x).store = s.store := rfl
@[simp] theorem State.setPending_entry (x : List Instr) : (s.setPending x).entry = s.entry := rfl
@[simp] theorem State.setPending_track (x : List Instr) : (s.setPending x).track = s.track := rfl
@[simp] theorem State.setPending_callOutstanding (x : List Instr) : (s.setPending x).callOutstanding = s.callOutstanding := rfl
@[simp] theorem State.setPending_carrier (x : List Instr) : (s.setPending x).carrier = s.carrier := rfl
@[simp] theorem State.setPending_verify (x : List Instr) : (s.setPending x).verify = s.verify := rfl
@[simp] theorem State.setPending_disp (x : List Instr) : (s.setPending x).disp = s.disp := rfl
@[simp] theorem State.setPending_bundles (x : List Instr) : (s.setPending x).bundles = s.bundles := rfl
@[simp] theorem State.setPending_fault (x : List Instr) : (s.setPending x).fault = s.fault := rfl
@[simp] theorem State.setPending_link (x : List Instr) : (s.setPending x).link = s.link := rfl
@[simp] theorem State.setPending_freeTaken (x : List Instr) : (s.setPending x).freeTaken = s.freeTaken := rfl

@[simp] theorem State.setPins_pending (x : Pins) : (s.setPins x).pending = s.pending := rfl
@[simp] theorem State.setPins_pins (x : Pins) : (s.setPins x).pins = x := rfl
@[simp] theorem State.setPins_reg (x : Pins) : (s.setPins x).reg = s.reg := rfl
@[simp] theorem State.setPins_lines (x : Pins) : (s.setPins x).lines = s.lines := rfl
@[simp] theorem State.setPins_run (x : Pins) : (s.setPins x).run = s.run := rfl
@[simp] theorem State.setPins_setup (x : Pins) : (s.setPins x).setup = s.setup := rfl
@[simp] theorem State.setPins_store (x : Pins) : (s.setPins x).store = s.store := rfl
@[simp] theorem State.setPins_entry (x : Pins) : (s.setPins x).entry = s.entry := rfl
@[simp] theorem State.setPins_track (x : Pins) : (s.setPins x).track = s.track := rfl
@[simp] theorem State.setPins_callOutstanding (x : Pins) : (s.setPins x).callOutstanding = s.callOutstanding := rfl
@[simp] theorem State.setPins_carrier (x : Pins) : (s.setPins x).carrier = s.carrier := rfl
@[simp] theorem State.setPins_verify (x : Pins) : (s.setPins x).verify = s.verify := rfl
@[simp] theorem State.setPins_disp (x : Pins) : (s.setPins x).disp = s.disp := rfl
@[simp] theorem State.setPins_bundles (x : Pins) : (s.setPins x).bundles = s.bundles := rfl
@[simp] theorem State.setPins_fault (x : Pins) : (s.setPins x).fault = s.fault := rfl
@[simp] theorem State.setPins_link (x : Pins) : (s.setPins x).link = s.link := rfl
@[simp] theorem State.setPins_freeTaken (x : Pins) : (s.setPins x).freeTaken = s.freeTaken := rfl

@[simp] theorem State.setReg_pending (x : Registration) : (s.setReg x).pending = s.pending := rfl
@[simp] theorem State.setReg_pins (x : Registration) : (s.setReg x).pins = s.pins := rfl
@[simp] theorem State.setReg_reg (x : Registration) : (s.setReg x).reg = x := rfl
@[simp] theorem State.setReg_lines (x : Registration) : (s.setReg x).lines = s.lines := rfl
@[simp] theorem State.setReg_run (x : Registration) : (s.setReg x).run = s.run := rfl
@[simp] theorem State.setReg_setup (x : Registration) : (s.setReg x).setup = s.setup := rfl
@[simp] theorem State.setReg_store (x : Registration) : (s.setReg x).store = s.store := rfl
@[simp] theorem State.setReg_entry (x : Registration) : (s.setReg x).entry = s.entry := rfl
@[simp] theorem State.setReg_track (x : Registration) : (s.setReg x).track = s.track := rfl
@[simp] theorem State.setReg_callOutstanding (x : Registration) : (s.setReg x).callOutstanding = s.callOutstanding := rfl
@[simp] theorem State.setReg_carrier (x : Registration) : (s.setReg x).carrier = s.carrier := rfl
@[simp] theorem State.setReg_verify (x : Registration) : (s.setReg x).verify = s.verify := rfl
@[simp] theorem State.setReg_disp (x : Registration) : (s.setReg x).disp = s.disp := rfl
@[simp] theorem State.setReg_bundles (x : Registration) : (s.setReg x).bundles = s.bundles := rfl
@[simp] theorem State.setReg_fault (x : Registration) : (s.setReg x).fault = s.fault := rfl
@[simp] theorem State.setReg_link (x : Registration) : (s.setReg x).link = s.link := rfl
@[simp] theorem State.setReg_freeTaken (x : Registration) : (s.setReg x).freeTaken = s.freeTaken := rfl

@[simp] theorem State.setLines_pending (x : Lines) : (s.setLines x).pending = s.pending := rfl
@[simp] theorem State.setLines_pins (x : Lines) : (s.setLines x).pins = s.pins := rfl
@[simp] theorem State.setLines_reg (x : Lines) : (s.setLines x).reg = s.reg := rfl
@[simp] theorem State.setLines_lines (x : Lines) : (s.setLines x).lines = x := rfl
@[simp] theorem State.setLines_run (x : Lines) : (s.setLines x).run = s.run := rfl
@[simp] theorem State.setLines_setup (x : Lines) : (s.setLines x).setup = s.setup := rfl
@[simp] theorem State.setLines_store (x : Lines) : (s.setLines x).store = s.store := rfl
@[simp] theorem State.setLines_entry (x : Lines) : (s.setLines x).entry = s.entry := rfl
@[simp] theorem State.setLines_track (x : Lines) : (s.setLines x).track = s.track := rfl
@[simp] theorem State.setLines_callOutstanding (x : Lines) : (s.setLines x).callOutstanding = s.callOutstanding := rfl
@[simp] theorem State.setLines_carrier (x : Lines) : (s.setLines x).carrier = s.carrier := rfl
@[simp] theorem State.setLines_verify (x : Lines) : (s.setLines x).verify = s.verify := rfl
@[simp] theorem State.setLines_disp (x : Lines) : (s.setLines x).disp = s.disp := rfl
@[simp] theorem State.setLines_bundles (x : Lines) : (s.setLines x).bundles = s.bundles := rfl
@[simp] theorem State.setLines_fault (x : Lines) : (s.setLines x).fault = s.fault := rfl
@[simp] theorem State.setLines_link (x : Lines) : (s.setLines x).link = s.link := rfl
@[simp] theorem State.setLines_freeTaken (x : Lines) : (s.setLines x).freeTaken = s.freeTaken := rfl

@[simp] theorem State.setRun_pending (x : RunControl) : (s.setRun x).pending = s.pending := rfl
@[simp] theorem State.setRun_pins (x : RunControl) : (s.setRun x).pins = s.pins := rfl
@[simp] theorem State.setRun_reg (x : RunControl) : (s.setRun x).reg = s.reg := rfl
@[simp] theorem State.setRun_lines (x : RunControl) : (s.setRun x).lines = s.lines := rfl
@[simp] theorem State.setRun_run (x : RunControl) : (s.setRun x).run = x := rfl
@[simp] theorem State.setRun_setup (x : RunControl) : (s.setRun x).setup = s.setup := rfl
@[simp] theorem State.setRun_store (x : RunControl) : (s.setRun x).store = s.store := rfl
@[simp] theorem State.setRun_entry (x : RunControl) : (s.setRun x).entry = s.entry := rfl
@[simp] theorem State.setRun_track (x : RunControl) : (s.setRun x).track = s.track := rfl
@[simp] theorem State.setRun_callOutstanding (x : RunControl) : (s.setRun x).callOutstanding = s.callOutstanding := rfl
@[simp] theorem State.setRun_carrier (x : RunControl) : (s.setRun x).carrier = s.carrier := rfl
@[simp] theorem State.setRun_verify (x : RunControl) : (s.setRun x).verify = s.verify := rfl
@[simp] theorem State.setRun_disp (x : RunControl) : (s.setRun x).disp = s.disp := rfl
@[simp] theorem State.setRun_bundles (x : RunControl) : (s.setRun x).bundles = s.bundles := rfl
@[simp] theorem State.setRun_fault (x : RunControl) : (s.setRun x).fault = s.fault := rfl
@[simp] theorem State.setRun_link (x : RunControl) : (s.setRun x).link = s.link := rfl
@[simp] theorem State.setRun_freeTaken (x : RunControl) : (s.setRun x).freeTaken = s.freeTaken := rfl

@[simp] theorem State.setSetup_pending (x : Setup) : (s.setSetup x).pending = s.pending := rfl
@[simp] theorem State.setSetup_pins (x : Setup) : (s.setSetup x).pins = s.pins := rfl
@[simp] theorem State.setSetup_reg (x : Setup) : (s.setSetup x).reg = s.reg := rfl
@[simp] theorem State.setSetup_lines (x : Setup) : (s.setSetup x).lines = s.lines := rfl
@[simp] theorem State.setSetup_run (x : Setup) : (s.setSetup x).run = s.run := rfl
@[simp] theorem State.setSetup_setup (x : Setup) : (s.setSetup x).setup = x := rfl
@[simp] theorem State.setSetup_store (x : Setup) : (s.setSetup x).store = s.store := rfl
@[simp] theorem State.setSetup_entry (x : Setup) : (s.setSetup x).entry = s.entry := rfl
@[simp] theorem State.setSetup_track (x : Setup) : (s.setSetup x).track = s.track := rfl
@[simp] theorem State.setSetup_callOutstanding (x : Setup) : (s.setSetup x).callOutstanding = s.callOutstanding := rfl
@[simp] theorem State.setSetup_carrier (x : Setup) : (s.setSetup x).carrier = s.carrier := rfl
@[simp] theorem State.setSetup_verify (x : Setup) : (s.setSetup x).verify = s.verify := rfl
@[simp] theorem State.setSetup_disp (x : Setup) : (s.setSetup x).disp = s.disp := rfl
@[simp] theorem State.setSetup_bundles (x : Setup) : (s.setSetup x).bundles = s.bundles := rfl
@[simp] theorem State.setSetup_fault (x : Setup) : (s.setSetup x).fault = s.fault := rfl
@[simp] theorem State.setSetup_link (x : Setup) : (s.setSetup x).link = s.link := rfl
@[simp] theorem State.setSetup_freeTaken (x : Setup) : (s.setSetup x).freeTaken = s.freeTaken := rfl

@[simp] theorem State.setStore_pending (x : Store) : (s.setStore x).pending = s.pending := rfl
@[simp] theorem State.setStore_pins (x : Store) : (s.setStore x).pins = s.pins := rfl
@[simp] theorem State.setStore_reg (x : Store) : (s.setStore x).reg = s.reg := rfl
@[simp] theorem State.setStore_lines (x : Store) : (s.setStore x).lines = s.lines := rfl
@[simp] theorem State.setStore_run (x : Store) : (s.setStore x).run = s.run := rfl
@[simp] theorem State.setStore_setup (x : Store) : (s.setStore x).setup = s.setup := rfl
@[simp] theorem State.setStore_store (x : Store) : (s.setStore x).store = x := rfl
@[simp] theorem State.setStore_entry (x : Store) : (s.setStore x).entry = s.entry := rfl
@[simp] theorem State.setStore_track (x : Store) : (s.setStore x).track = s.track := rfl
@[simp] theorem State.setStore_callOutstanding (x : Store) : (s.setStore x).callOutstanding = s.callOutstanding := rfl
@[simp] theorem State.setStore_carrier (x : Store) : (s.setStore x).carrier = s.carrier := rfl
@[simp] theorem State.setStore_verify (x : Store) : (s.setStore x).verify = s.verify := rfl
@[simp] theorem State.setStore_disp (x : Store) : (s.setStore x).disp = s.disp := rfl
@[simp] theorem State.setStore_bundles (x : Store) : (s.setStore x).bundles = s.bundles := rfl
@[simp] theorem State.setStore_fault (x : Store) : (s.setStore x).fault = s.fault := rfl
@[simp] theorem State.setStore_link (x : Store) : (s.setStore x).link = s.link := rfl
@[simp] theorem State.setStore_freeTaken (x : Store) : (s.setStore x).freeTaken = s.freeTaken := rfl

@[simp] theorem State.setEntry_pending (x : EntryUnit) : (s.setEntry x).pending = s.pending := rfl
@[simp] theorem State.setEntry_pins (x : EntryUnit) : (s.setEntry x).pins = s.pins := rfl
@[simp] theorem State.setEntry_reg (x : EntryUnit) : (s.setEntry x).reg = s.reg := rfl
@[simp] theorem State.setEntry_lines (x : EntryUnit) : (s.setEntry x).lines = s.lines := rfl
@[simp] theorem State.setEntry_run (x : EntryUnit) : (s.setEntry x).run = s.run := rfl
@[simp] theorem State.setEntry_setup (x : EntryUnit) : (s.setEntry x).setup = s.setup := rfl
@[simp] theorem State.setEntry_store (x : EntryUnit) : (s.setEntry x).store = s.store := rfl
@[simp] theorem State.setEntry_entry (x : EntryUnit) : (s.setEntry x).entry = x := rfl
@[simp] theorem State.setEntry_track (x : EntryUnit) : (s.setEntry x).track = s.track := rfl
@[simp] theorem State.setEntry_callOutstanding (x : EntryUnit) : (s.setEntry x).callOutstanding = s.callOutstanding := rfl
@[simp] theorem State.setEntry_carrier (x : EntryUnit) : (s.setEntry x).carrier = s.carrier := rfl
@[simp] theorem State.setEntry_verify (x : EntryUnit) : (s.setEntry x).verify = s.verify := rfl
@[simp] theorem State.setEntry_disp (x : EntryUnit) : (s.setEntry x).disp = s.disp := rfl
@[simp] theorem State.setEntry_bundles (x : EntryUnit) : (s.setEntry x).bundles = s.bundles := rfl
@[simp] theorem State.setEntry_fault (x : EntryUnit) : (s.setEntry x).fault = s.fault := rfl
@[simp] theorem State.setEntry_link (x : EntryUnit) : (s.setEntry x).link = s.link := rfl
@[simp] theorem State.setEntry_freeTaken (x : EntryUnit) : (s.setEntry x).freeTaken = s.freeTaken := rfl

@[simp] theorem State.setTrack_pending (x : List TrackEntry) : (s.setTrack x).pending = s.pending := rfl
@[simp] theorem State.setTrack_pins (x : List TrackEntry) : (s.setTrack x).pins = s.pins := rfl
@[simp] theorem State.setTrack_reg (x : List TrackEntry) : (s.setTrack x).reg = s.reg := rfl
@[simp] theorem State.setTrack_lines (x : List TrackEntry) : (s.setTrack x).lines = s.lines := rfl
@[simp] theorem State.setTrack_run (x : List TrackEntry) : (s.setTrack x).run = s.run := rfl
@[simp] theorem State.setTrack_setup (x : List TrackEntry) : (s.setTrack x).setup = s.setup := rfl
@[simp] theorem State.setTrack_store (x : List TrackEntry) : (s.setTrack x).store = s.store := rfl
@[simp] theorem State.setTrack_entry (x : List TrackEntry) : (s.setTrack x).entry = s.entry := rfl
@[simp] theorem State.setTrack_track (x : List TrackEntry) : (s.setTrack x).track = x := rfl
@[simp] theorem State.setTrack_callOutstanding (x : List TrackEntry) : (s.setTrack x).callOutstanding = s.callOutstanding := rfl
@[simp] theorem State.setTrack_carrier (x : List TrackEntry) : (s.setTrack x).carrier = s.carrier := rfl
@[simp] theorem State.setTrack_verify (x : List TrackEntry) : (s.setTrack x).verify = s.verify := rfl
@[simp] theorem State.setTrack_disp (x : List TrackEntry) : (s.setTrack x).disp = s.disp := rfl
@[simp] theorem State.setTrack_bundles (x : List TrackEntry) : (s.setTrack x).bundles = s.bundles := rfl
@[simp] theorem State.setTrack_fault (x : List TrackEntry) : (s.setTrack x).fault = s.fault := rfl
@[simp] theorem State.setTrack_link (x : List TrackEntry) : (s.setTrack x).link = s.link := rfl
@[simp] theorem State.setTrack_freeTaken (x : List TrackEntry) : (s.setTrack x).freeTaken = s.freeTaken := rfl

@[simp] theorem State.setCallOutstanding_pending (x : Vector Bool 12) : (s.setCallOutstanding x).pending = s.pending := rfl
@[simp] theorem State.setCallOutstanding_pins (x : Vector Bool 12) : (s.setCallOutstanding x).pins = s.pins := rfl
@[simp] theorem State.setCallOutstanding_reg (x : Vector Bool 12) : (s.setCallOutstanding x).reg = s.reg := rfl
@[simp] theorem State.setCallOutstanding_lines (x : Vector Bool 12) : (s.setCallOutstanding x).lines = s.lines := rfl
@[simp] theorem State.setCallOutstanding_run (x : Vector Bool 12) : (s.setCallOutstanding x).run = s.run := rfl
@[simp] theorem State.setCallOutstanding_setup (x : Vector Bool 12) : (s.setCallOutstanding x).setup = s.setup := rfl
@[simp] theorem State.setCallOutstanding_store (x : Vector Bool 12) : (s.setCallOutstanding x).store = s.store := rfl
@[simp] theorem State.setCallOutstanding_entry (x : Vector Bool 12) : (s.setCallOutstanding x).entry = s.entry := rfl
@[simp] theorem State.setCallOutstanding_track (x : Vector Bool 12) : (s.setCallOutstanding x).track = s.track := rfl
@[simp] theorem State.setCallOutstanding_callOutstanding (x : Vector Bool 12) : (s.setCallOutstanding x).callOutstanding = x := rfl
@[simp] theorem State.setCallOutstanding_carrier (x : Vector Bool 12) : (s.setCallOutstanding x).carrier = s.carrier := rfl
@[simp] theorem State.setCallOutstanding_verify (x : Vector Bool 12) : (s.setCallOutstanding x).verify = s.verify := rfl
@[simp] theorem State.setCallOutstanding_disp (x : Vector Bool 12) : (s.setCallOutstanding x).disp = s.disp := rfl
@[simp] theorem State.setCallOutstanding_bundles (x : Vector Bool 12) : (s.setCallOutstanding x).bundles = s.bundles := rfl
@[simp] theorem State.setCallOutstanding_fault (x : Vector Bool 12) : (s.setCallOutstanding x).fault = s.fault := rfl
@[simp] theorem State.setCallOutstanding_link (x : Vector Bool 12) : (s.setCallOutstanding x).link = s.link := rfl
@[simp] theorem State.setCallOutstanding_freeTaken (x : Vector Bool 12) : (s.setCallOutstanding x).freeTaken = s.freeTaken := rfl

@[simp] theorem State.setCarrier_pending (x : CarrierUnit) : (s.setCarrier x).pending = s.pending := rfl
@[simp] theorem State.setCarrier_pins (x : CarrierUnit) : (s.setCarrier x).pins = s.pins := rfl
@[simp] theorem State.setCarrier_reg (x : CarrierUnit) : (s.setCarrier x).reg = s.reg := rfl
@[simp] theorem State.setCarrier_lines (x : CarrierUnit) : (s.setCarrier x).lines = s.lines := rfl
@[simp] theorem State.setCarrier_run (x : CarrierUnit) : (s.setCarrier x).run = s.run := rfl
@[simp] theorem State.setCarrier_setup (x : CarrierUnit) : (s.setCarrier x).setup = s.setup := rfl
@[simp] theorem State.setCarrier_store (x : CarrierUnit) : (s.setCarrier x).store = s.store := rfl
@[simp] theorem State.setCarrier_entry (x : CarrierUnit) : (s.setCarrier x).entry = s.entry := rfl
@[simp] theorem State.setCarrier_track (x : CarrierUnit) : (s.setCarrier x).track = s.track := rfl
@[simp] theorem State.setCarrier_callOutstanding (x : CarrierUnit) : (s.setCarrier x).callOutstanding = s.callOutstanding := rfl
@[simp] theorem State.setCarrier_carrier (x : CarrierUnit) : (s.setCarrier x).carrier = x := rfl
@[simp] theorem State.setCarrier_verify (x : CarrierUnit) : (s.setCarrier x).verify = s.verify := rfl
@[simp] theorem State.setCarrier_disp (x : CarrierUnit) : (s.setCarrier x).disp = s.disp := rfl
@[simp] theorem State.setCarrier_bundles (x : CarrierUnit) : (s.setCarrier x).bundles = s.bundles := rfl
@[simp] theorem State.setCarrier_fault (x : CarrierUnit) : (s.setCarrier x).fault = s.fault := rfl
@[simp] theorem State.setCarrier_link (x : CarrierUnit) : (s.setCarrier x).link = s.link := rfl
@[simp] theorem State.setCarrier_freeTaken (x : CarrierUnit) : (s.setCarrier x).freeTaken = s.freeTaken := rfl

@[simp] theorem State.setVerify_pending (x : VerifyUnit) : (s.setVerify x).pending = s.pending := rfl
@[simp] theorem State.setVerify_pins (x : VerifyUnit) : (s.setVerify x).pins = s.pins := rfl
@[simp] theorem State.setVerify_reg (x : VerifyUnit) : (s.setVerify x).reg = s.reg := rfl
@[simp] theorem State.setVerify_lines (x : VerifyUnit) : (s.setVerify x).lines = s.lines := rfl
@[simp] theorem State.setVerify_run (x : VerifyUnit) : (s.setVerify x).run = s.run := rfl
@[simp] theorem State.setVerify_setup (x : VerifyUnit) : (s.setVerify x).setup = s.setup := rfl
@[simp] theorem State.setVerify_store (x : VerifyUnit) : (s.setVerify x).store = s.store := rfl
@[simp] theorem State.setVerify_entry (x : VerifyUnit) : (s.setVerify x).entry = s.entry := rfl
@[simp] theorem State.setVerify_track (x : VerifyUnit) : (s.setVerify x).track = s.track := rfl
@[simp] theorem State.setVerify_callOutstanding (x : VerifyUnit) : (s.setVerify x).callOutstanding = s.callOutstanding := rfl
@[simp] theorem State.setVerify_carrier (x : VerifyUnit) : (s.setVerify x).carrier = s.carrier := rfl
@[simp] theorem State.setVerify_verify (x : VerifyUnit) : (s.setVerify x).verify = x := rfl
@[simp] theorem State.setVerify_disp (x : VerifyUnit) : (s.setVerify x).disp = s.disp := rfl
@[simp] theorem State.setVerify_bundles (x : VerifyUnit) : (s.setVerify x).bundles = s.bundles := rfl
@[simp] theorem State.setVerify_fault (x : VerifyUnit) : (s.setVerify x).fault = s.fault := rfl
@[simp] theorem State.setVerify_link (x : VerifyUnit) : (s.setVerify x).link = s.link := rfl
@[simp] theorem State.setVerify_freeTaken (x : VerifyUnit) : (s.setVerify x).freeTaken = s.freeTaken := rfl

@[simp] theorem State.setDisp_pending (x : Disposition) : (s.setDisp x).pending = s.pending := rfl
@[simp] theorem State.setDisp_pins (x : Disposition) : (s.setDisp x).pins = s.pins := rfl
@[simp] theorem State.setDisp_reg (x : Disposition) : (s.setDisp x).reg = s.reg := rfl
@[simp] theorem State.setDisp_lines (x : Disposition) : (s.setDisp x).lines = s.lines := rfl
@[simp] theorem State.setDisp_run (x : Disposition) : (s.setDisp x).run = s.run := rfl
@[simp] theorem State.setDisp_setup (x : Disposition) : (s.setDisp x).setup = s.setup := rfl
@[simp] theorem State.setDisp_store (x : Disposition) : (s.setDisp x).store = s.store := rfl
@[simp] theorem State.setDisp_entry (x : Disposition) : (s.setDisp x).entry = s.entry := rfl
@[simp] theorem State.setDisp_track (x : Disposition) : (s.setDisp x).track = s.track := rfl
@[simp] theorem State.setDisp_callOutstanding (x : Disposition) : (s.setDisp x).callOutstanding = s.callOutstanding := rfl
@[simp] theorem State.setDisp_carrier (x : Disposition) : (s.setDisp x).carrier = s.carrier := rfl
@[simp] theorem State.setDisp_verify (x : Disposition) : (s.setDisp x).verify = s.verify := rfl
@[simp] theorem State.setDisp_disp (x : Disposition) : (s.setDisp x).disp = x := rfl
@[simp] theorem State.setDisp_bundles (x : Disposition) : (s.setDisp x).bundles = s.bundles := rfl
@[simp] theorem State.setDisp_fault (x : Disposition) : (s.setDisp x).fault = s.fault := rfl
@[simp] theorem State.setDisp_link (x : Disposition) : (s.setDisp x).link = s.link := rfl
@[simp] theorem State.setDisp_freeTaken (x : Disposition) : (s.setDisp x).freeTaken = s.freeTaken := rfl

@[simp] theorem State.setBundles_pending (x : BundleUnit) : (s.setBundles x).pending = s.pending := rfl
@[simp] theorem State.setBundles_pins (x : BundleUnit) : (s.setBundles x).pins = s.pins := rfl
@[simp] theorem State.setBundles_reg (x : BundleUnit) : (s.setBundles x).reg = s.reg := rfl
@[simp] theorem State.setBundles_lines (x : BundleUnit) : (s.setBundles x).lines = s.lines := rfl
@[simp] theorem State.setBundles_run (x : BundleUnit) : (s.setBundles x).run = s.run := rfl
@[simp] theorem State.setBundles_setup (x : BundleUnit) : (s.setBundles x).setup = s.setup := rfl
@[simp] theorem State.setBundles_store (x : BundleUnit) : (s.setBundles x).store = s.store := rfl
@[simp] theorem State.setBundles_entry (x : BundleUnit) : (s.setBundles x).entry = s.entry := rfl
@[simp] theorem State.setBundles_track (x : BundleUnit) : (s.setBundles x).track = s.track := rfl
@[simp] theorem State.setBundles_callOutstanding (x : BundleUnit) : (s.setBundles x).callOutstanding = s.callOutstanding := rfl
@[simp] theorem State.setBundles_carrier (x : BundleUnit) : (s.setBundles x).carrier = s.carrier := rfl
@[simp] theorem State.setBundles_verify (x : BundleUnit) : (s.setBundles x).verify = s.verify := rfl
@[simp] theorem State.setBundles_disp (x : BundleUnit) : (s.setBundles x).disp = s.disp := rfl
@[simp] theorem State.setBundles_bundles (x : BundleUnit) : (s.setBundles x).bundles = x := rfl
@[simp] theorem State.setBundles_fault (x : BundleUnit) : (s.setBundles x).fault = s.fault := rfl
@[simp] theorem State.setBundles_link (x : BundleUnit) : (s.setBundles x).link = s.link := rfl
@[simp] theorem State.setBundles_freeTaken (x : BundleUnit) : (s.setBundles x).freeTaken = s.freeTaken := rfl

@[simp] theorem State.setFault_pending (x : FaultUnit) : (s.setFault x).pending = s.pending := rfl
@[simp] theorem State.setFault_pins (x : FaultUnit) : (s.setFault x).pins = s.pins := rfl
@[simp] theorem State.setFault_reg (x : FaultUnit) : (s.setFault x).reg = s.reg := rfl
@[simp] theorem State.setFault_lines (x : FaultUnit) : (s.setFault x).lines = s.lines := rfl
@[simp] theorem State.setFault_run (x : FaultUnit) : (s.setFault x).run = s.run := rfl
@[simp] theorem State.setFault_setup (x : FaultUnit) : (s.setFault x).setup = s.setup := rfl
@[simp] theorem State.setFault_store (x : FaultUnit) : (s.setFault x).store = s.store := rfl
@[simp] theorem State.setFault_entry (x : FaultUnit) : (s.setFault x).entry = s.entry := rfl
@[simp] theorem State.setFault_track (x : FaultUnit) : (s.setFault x).track = s.track := rfl
@[simp] theorem State.setFault_callOutstanding (x : FaultUnit) : (s.setFault x).callOutstanding = s.callOutstanding := rfl
@[simp] theorem State.setFault_carrier (x : FaultUnit) : (s.setFault x).carrier = s.carrier := rfl
@[simp] theorem State.setFault_verify (x : FaultUnit) : (s.setFault x).verify = s.verify := rfl
@[simp] theorem State.setFault_disp (x : FaultUnit) : (s.setFault x).disp = s.disp := rfl
@[simp] theorem State.setFault_bundles (x : FaultUnit) : (s.setFault x).bundles = s.bundles := rfl
@[simp] theorem State.setFault_fault (x : FaultUnit) : (s.setFault x).fault = x := rfl
@[simp] theorem State.setFault_link (x : FaultUnit) : (s.setFault x).link = s.link := rfl
@[simp] theorem State.setFault_freeTaken (x : FaultUnit) : (s.setFault x).freeTaken = s.freeTaken := rfl

@[simp] theorem State.setLink_pending (x : LinkUnit) : (s.setLink x).pending = s.pending := rfl
@[simp] theorem State.setLink_pins (x : LinkUnit) : (s.setLink x).pins = s.pins := rfl
@[simp] theorem State.setLink_reg (x : LinkUnit) : (s.setLink x).reg = s.reg := rfl
@[simp] theorem State.setLink_lines (x : LinkUnit) : (s.setLink x).lines = s.lines := rfl
@[simp] theorem State.setLink_run (x : LinkUnit) : (s.setLink x).run = s.run := rfl
@[simp] theorem State.setLink_setup (x : LinkUnit) : (s.setLink x).setup = s.setup := rfl
@[simp] theorem State.setLink_store (x : LinkUnit) : (s.setLink x).store = s.store := rfl
@[simp] theorem State.setLink_entry (x : LinkUnit) : (s.setLink x).entry = s.entry := rfl
@[simp] theorem State.setLink_track (x : LinkUnit) : (s.setLink x).track = s.track := rfl
@[simp] theorem State.setLink_callOutstanding (x : LinkUnit) : (s.setLink x).callOutstanding = s.callOutstanding := rfl
@[simp] theorem State.setLink_carrier (x : LinkUnit) : (s.setLink x).carrier = s.carrier := rfl
@[simp] theorem State.setLink_verify (x : LinkUnit) : (s.setLink x).verify = s.verify := rfl
@[simp] theorem State.setLink_disp (x : LinkUnit) : (s.setLink x).disp = s.disp := rfl
@[simp] theorem State.setLink_bundles (x : LinkUnit) : (s.setLink x).bundles = s.bundles := rfl
@[simp] theorem State.setLink_fault (x : LinkUnit) : (s.setLink x).fault = s.fault := rfl
@[simp] theorem State.setLink_link (x : LinkUnit) : (s.setLink x).link = x := rfl
@[simp] theorem State.setLink_freeTaken (x : LinkUnit) : (s.setLink x).freeTaken = s.freeTaken := rfl

@[simp] theorem State.setFreeTaken_pending (x : Nat) : (s.setFreeTaken x).pending = s.pending := rfl
@[simp] theorem State.setFreeTaken_pins (x : Nat) : (s.setFreeTaken x).pins = s.pins := rfl
@[simp] theorem State.setFreeTaken_reg (x : Nat) : (s.setFreeTaken x).reg = s.reg := rfl
@[simp] theorem State.setFreeTaken_lines (x : Nat) : (s.setFreeTaken x).lines = s.lines := rfl
@[simp] theorem State.setFreeTaken_run (x : Nat) : (s.setFreeTaken x).run = s.run := rfl
@[simp] theorem State.setFreeTaken_setup (x : Nat) : (s.setFreeTaken x).setup = s.setup := rfl
@[simp] theorem State.setFreeTaken_store (x : Nat) : (s.setFreeTaken x).store = s.store := rfl
@[simp] theorem State.setFreeTaken_entry (x : Nat) : (s.setFreeTaken x).entry = s.entry := rfl
@[simp] theorem State.setFreeTaken_track (x : Nat) : (s.setFreeTaken x).track = s.track := rfl
@[simp] theorem State.setFreeTaken_callOutstanding (x : Nat) : (s.setFreeTaken x).callOutstanding = s.callOutstanding := rfl
@[simp] theorem State.setFreeTaken_carrier (x : Nat) : (s.setFreeTaken x).carrier = s.carrier := rfl
@[simp] theorem State.setFreeTaken_verify (x : Nat) : (s.setFreeTaken x).verify = s.verify := rfl
@[simp] theorem State.setFreeTaken_disp (x : Nat) : (s.setFreeTaken x).disp = s.disp := rfl
@[simp] theorem State.setFreeTaken_bundles (x : Nat) : (s.setFreeTaken x).bundles = s.bundles := rfl
@[simp] theorem State.setFreeTaken_fault (x : Nat) : (s.setFreeTaken x).fault = s.fault := rfl
@[simp] theorem State.setFreeTaken_link (x : Nat) : (s.setFreeTaken x).link = s.link := rfl
@[simp] theorem State.setFreeTaken_freeTaken (x : Nat) : (s.setFreeTaken x).freeTaken = x := rfl

end Sys2Proof.Machine
end

