-- ==== Sys2Proof/Laws/Ops.lean ====
section
/-! SUPPORT. What each operation of the shared operations over ports, tables and lists leaves unchanged: one lemma for each, its conjuncts simp rules. -/

namespace Sys2Proof.Machine

@[simp] theorem setPortState_keeps (p : Port) (x : PortState) (s : State) :
    (setPortState p x s).pending = s.pending ∧ (setPortState p x s).pins = s.pins ∧
    (setPortState p x s).reg = s.reg ∧ (setPortState p x s).lines = s.lines ∧ (setPortState p x s).run = s.run ∧
    (setPortState p x s).setup = s.setup ∧ (setPortState p x s).store = s.store ∧
    (setPortState p x s).entry = s.entry ∧ (setPortState p x s).track = s.track ∧
    (setPortState p x s).callOutstanding = s.callOutstanding ∧ (setPortState p x s).carrier = s.carrier ∧
    (setPortState p x s).verify = s.verify ∧ (setPortState p x s).disp = s.disp ∧
    (setPortState p x s).bundles = s.bundles ∧ (setPortState p x s).fault = s.fault ∧
    (setPortState p x s).freeTaken = s.freeTaken := by
  simp [setPortState]

@[simp] theorem post_keeps (p : Port) (f : Frame) (s : State) :
    (post p f s).pending = s.pending ∧ (post p f s).pins = s.pins ∧ (post p f s).reg = s.reg ∧
    (post p f s).lines = s.lines ∧ (post p f s).run = s.run ∧ (post p f s).setup = s.setup ∧
    (post p f s).store = s.store ∧ (post p f s).entry = s.entry ∧ (post p f s).track = s.track ∧
    (post p f s).callOutstanding = s.callOutstanding ∧ (post p f s).carrier = s.carrier ∧
    (post p f s).verify = s.verify ∧ (post p f s).disp = s.disp ∧ (post p f s).bundles = s.bundles ∧
    (post p f s).fault = s.fault ∧ (post p f s).freeTaken = s.freeTaken := by
  unfold post; (repeat' split) <;> simp

@[simp] theorem postTo_keeps (ps : List Port) (f : Frame) (s : State) :
    (postTo ps f s).pending = s.pending ∧ (postTo ps f s).pins = s.pins ∧ (postTo ps f s).reg = s.reg ∧
    (postTo ps f s).lines = s.lines ∧ (postTo ps f s).run = s.run ∧ (postTo ps f s).setup = s.setup ∧
    (postTo ps f s).store = s.store ∧ (postTo ps f s).entry = s.entry ∧ (postTo ps f s).track = s.track ∧
    (postTo ps f s).callOutstanding = s.callOutstanding ∧ (postTo ps f s).carrier = s.carrier ∧
    (postTo ps f s).verify = s.verify ∧ (postTo ps f s).disp = s.disp ∧ (postTo ps f s).bundles = s.bundles ∧
    (postTo ps f s).fault = s.fault ∧ (postTo ps f s).freeTaken = s.freeTaken := by
  unfold postTo; induction ps generalizing s <;> simp_all

@[simp] theorem postState_keeps (c : StateChange) (s : State) :
    (postState c s).pending = s.pending ∧ (postState c s).pins = s.pins ∧ (postState c s).reg = s.reg ∧
    (postState c s).lines = s.lines ∧ (postState c s).run = s.run ∧ (postState c s).setup = s.setup ∧
    (postState c s).store = s.store ∧ (postState c s).entry = s.entry ∧ (postState c s).track = s.track ∧
    (postState c s).callOutstanding = s.callOutstanding ∧ (postState c s).carrier = s.carrier ∧
    (postState c s).verify = s.verify ∧ (postState c s).disp = s.disp ∧ (postState c s).bundles = s.bundles ∧
    (postState c s).fault = s.fault ∧ (postState c s).freeTaken = s.freeTaken := by
  simp [postState]

@[simp] theorem accept_keeps (p : Port) (num : Byte) (s : State) :
    (accept p num s).pending = s.pending ∧ (accept p num s).pins = s.pins ∧ (accept p num s).reg = s.reg ∧
    (accept p num s).lines = s.lines ∧ (accept p num s).run = s.run ∧ (accept p num s).setup = s.setup ∧
    (accept p num s).store = s.store ∧ (accept p num s).entry = s.entry ∧ (accept p num s).track = s.track ∧
    (accept p num s).callOutstanding = s.callOutstanding ∧ (accept p num s).carrier = s.carrier ∧
    (accept p num s).verify = s.verify ∧ (accept p num s).disp = s.disp ∧ (accept p num s).bundles = s.bundles ∧
    (accept p num s).fault = s.fault ∧ (accept p num s).freeTaken = s.freeTaken := by
  simp [accept]

@[simp] theorem acceptWith_keeps (p : Port) (num : Byte) (b : List Byte) (s : State) :
    (acceptWith p num b s).pending = s.pending ∧ (acceptWith p num b s).pins = s.pins ∧
    (acceptWith p num b s).reg = s.reg ∧ (acceptWith p num b s).lines = s.lines ∧
    (acceptWith p num b s).run = s.run ∧ (acceptWith p num b s).setup = s.setup ∧
    (acceptWith p num b s).store = s.store ∧ (acceptWith p num b s).entry = s.entry ∧
    (acceptWith p num b s).track = s.track ∧ (acceptWith p num b s).callOutstanding = s.callOutstanding ∧
    (acceptWith p num b s).carrier = s.carrier ∧ (acceptWith p num b s).verify = s.verify ∧
    (acceptWith p num b s).disp = s.disp ∧ (acceptWith p num b s).bundles = s.bundles ∧
    (acceptWith p num b s).fault = s.fault ∧ (acceptWith p num b s).freeTaken = s.freeTaken := by
  simp [acceptWith]

@[simp] theorem refuse_keeps (p : Port) (num : Byte) (r : Reason) (s : State) :
    (refuse p num r s).pending = s.pending ∧ (refuse p num r s).pins = s.pins ∧ (refuse p num r s).reg = s.reg ∧
    (refuse p num r s).lines = s.lines ∧ (refuse p num r s).run = s.run ∧ (refuse p num r s).setup = s.setup ∧
    (refuse p num r s).store = s.store ∧ (refuse p num r s).entry = s.entry ∧ (refuse p num r s).track = s.track ∧
    (refuse p num r s).callOutstanding = s.callOutstanding ∧ (refuse p num r s).carrier = s.carrier ∧
    (refuse p num r s).verify = s.verify ∧ (refuse p num r s).disp = s.disp ∧
    (refuse p num r s).bundles = s.bundles ∧ (refuse p num r s).fault = s.fault ∧
    (refuse p num r s).freeTaken = s.freeTaken := by
  simp [refuse]

@[simp] theorem restartClaimTimer_keeps (p : Port) (s : State) :
    (restartClaimTimer p s).pending = s.pending ∧ (restartClaimTimer p s).pins = s.pins ∧
    (restartClaimTimer p s).reg = s.reg ∧ (restartClaimTimer p s).lines = s.lines ∧
    (restartClaimTimer p s).setup = s.setup ∧ (restartClaimTimer p s).store = s.store ∧
    (restartClaimTimer p s).entry = s.entry ∧ (restartClaimTimer p s).track = s.track ∧
    (restartClaimTimer p s).callOutstanding = s.callOutstanding ∧ (restartClaimTimer p s).carrier = s.carrier ∧
    (restartClaimTimer p s).verify = s.verify ∧ (restartClaimTimer p s).disp = s.disp ∧
    (restartClaimTimer p s).bundles = s.bundles ∧ (restartClaimTimer p s).fault = s.fault ∧
    (restartClaimTimer p s).link = s.link ∧ (restartClaimTimer p s).freeTaken = s.freeTaken := by
  unfold restartClaimTimer; (repeat' split) <;> simp

@[simp] theorem beginMessage_keeps (p : Port) (s : State) :
    (beginMessage p s).pending = s.pending ∧ (beginMessage p s).pins = s.pins ∧ (beginMessage p s).reg = s.reg ∧
    (beginMessage p s).lines = s.lines ∧ (beginMessage p s).setup = s.setup ∧ (beginMessage p s).store = s.store ∧
    (beginMessage p s).entry = s.entry ∧ (beginMessage p s).track = s.track ∧
    (beginMessage p s).callOutstanding = s.callOutstanding ∧ (beginMessage p s).carrier = s.carrier ∧
    (beginMessage p s).verify = s.verify ∧ (beginMessage p s).disp = s.disp ∧
    (beginMessage p s).bundles = s.bundles ∧ (beginMessage p s).fault = s.fault ∧
    (beginMessage p s).freeTaken = s.freeTaken := by
  simp [beginMessage]

@[simp] theorem changeGate_keeps (g : GateState) (s : State) :
    (changeGate g s).pending = s.pending ∧ (changeGate g s).pins = s.pins ∧ (changeGate g s).reg = s.reg ∧
    (changeGate g s).lines = s.lines ∧ (changeGate g s).setup = s.setup ∧ (changeGate g s).store = s.store ∧
    (changeGate g s).entry = s.entry ∧ (changeGate g s).track = s.track ∧
    (changeGate g s).callOutstanding = s.callOutstanding ∧ (changeGate g s).carrier = s.carrier ∧
    (changeGate g s).verify = s.verify ∧ (changeGate g s).disp = s.disp ∧ (changeGate g s).bundles = s.bundles ∧
    (changeGate g s).fault = s.fault ∧ (changeGate g s).freeTaken = s.freeTaken := by
  unfold changeGate; (repeat' split) <;> simp

@[simp] theorem closeGate_keeps (s : State) :
    (closeGate s).pending = s.pending ∧ (closeGate s).pins = s.pins ∧ (closeGate s).reg = s.reg ∧
    (closeGate s).lines = s.lines ∧ (closeGate s).setup = s.setup ∧ (closeGate s).store = s.store ∧
    (closeGate s).entry = s.entry ∧ (closeGate s).track = s.track ∧
    (closeGate s).callOutstanding = s.callOutstanding ∧ (closeGate s).carrier = s.carrier ∧
    (closeGate s).verify = s.verify ∧ (closeGate s).disp = s.disp ∧ (closeGate s).bundles = s.bundles ∧
    (closeGate s).fault = s.fault ∧ (closeGate s).freeTaken = s.freeTaken := by
  unfold closeGate; (repeat' split) <;> simp

@[simp] theorem setStationEntry_keeps (i : Fin 12) (e : Option Station) (s : State) :
    (setStationEntry i e s).pending = s.pending ∧ (setStationEntry i e s).pins = s.pins ∧
    (setStationEntry i e s).reg = s.reg ∧ (setStationEntry i e s).lines = s.lines ∧
    (setStationEntry i e s).run = s.run ∧ (setStationEntry i e s).store = s.store ∧
    (setStationEntry i e s).entry = s.entry ∧ (setStationEntry i e s).track = s.track ∧
    (setStationEntry i e s).callOutstanding = s.callOutstanding ∧ (setStationEntry i e s).carrier = s.carrier ∧
    (setStationEntry i e s).verify = s.verify ∧ (setStationEntry i e s).disp = s.disp ∧
    (setStationEntry i e s).bundles = s.bundles ∧ (setStationEntry i e s).fault = s.fault ∧
    (setStationEntry i e s).link = s.link ∧ (setStationEntry i e s).freeTaken = s.freeTaken := by
  simp [setStationEntry]

@[simp] theorem setCallOutstanding_keeps (i : Fin 12) (b : Bool) (s : State) :
    (setCallOutstanding i b s).pending = s.pending ∧ (setCallOutstanding i b s).pins = s.pins ∧
    (setCallOutstanding i b s).reg = s.reg ∧ (setCallOutstanding i b s).lines = s.lines ∧
    (setCallOutstanding i b s).run = s.run ∧ (setCallOutstanding i b s).setup = s.setup ∧
    (setCallOutstanding i b s).store = s.store ∧ (setCallOutstanding i b s).entry = s.entry ∧
    (setCallOutstanding i b s).track = s.track ∧ (setCallOutstanding i b s).carrier = s.carrier ∧
    (setCallOutstanding i b s).verify = s.verify ∧ (setCallOutstanding i b s).disp = s.disp ∧
    (setCallOutstanding i b s).bundles = s.bundles ∧ (setCallOutstanding i b s).fault = s.fault ∧
    (setCallOutstanding i b s).link = s.link ∧ (setCallOutstanding i b s).freeTaken = s.freeTaken := by
  simp [setCallOutstanding]

@[simp] theorem setEntryAt_keeps (p : Nat) (e : TrackEntry) (s : State) :
    (setEntryAt p e s).pending = s.pending ∧ (setEntryAt p e s).pins = s.pins ∧ (setEntryAt p e s).reg = s.reg ∧
    (setEntryAt p e s).lines = s.lines ∧ (setEntryAt p e s).run = s.run ∧ (setEntryAt p e s).setup = s.setup ∧
    (setEntryAt p e s).store = s.store ∧ (setEntryAt p e s).entry = s.entry ∧
    (setEntryAt p e s).callOutstanding = s.callOutstanding ∧ (setEntryAt p e s).carrier = s.carrier ∧
    (setEntryAt p e s).verify = s.verify ∧ (setEntryAt p e s).disp = s.disp ∧
    (setEntryAt p e s).bundles = s.bundles ∧ (setEntryAt p e s).fault = s.fault ∧ (setEntryAt p e s).link = s.link ∧
    (setEntryAt p e s).freeTaken = s.freeTaken := by
  simp [setEntryAt]

@[simp] theorem updatePiece_keeps (p : Nat) (f : Piece → Piece) (s : State) :
    (updatePiece p f s).pending = s.pending ∧ (updatePiece p f s).pins = s.pins ∧ (updatePiece p f s).reg = s.reg ∧
    (updatePiece p f s).lines = s.lines ∧ (updatePiece p f s).run = s.run ∧ (updatePiece p f s).setup = s.setup ∧
    (updatePiece p f s).store = s.store ∧ (updatePiece p f s).entry = s.entry ∧
    (updatePiece p f s).callOutstanding = s.callOutstanding ∧ (updatePiece p f s).carrier = s.carrier ∧
    (updatePiece p f s).verify = s.verify ∧ (updatePiece p f s).disp = s.disp ∧
    (updatePiece p f s).bundles = s.bundles ∧ (updatePiece p f s).fault = s.fault ∧
    (updatePiece p f s).link = s.link ∧ (updatePiece p f s).freeTaken = s.freeTaken := by
  unfold updatePiece; (repeat' split) <;> simp

@[simp] theorem setOrderState_keeps (n : Nat) (x : OrderState) (s : State) :
    (setOrderState n x s).pending = s.pending ∧ (setOrderState n x s).pins = s.pins ∧
    (setOrderState n x s).reg = s.reg ∧ (setOrderState n x s).lines = s.lines ∧ (setOrderState n x s).run = s.run ∧
    (setOrderState n x s).setup = s.setup ∧ (setOrderState n x s).store = s.store ∧
    (setOrderState n x s).entry = s.entry ∧ (setOrderState n x s).track = s.track ∧
    (setOrderState n x s).callOutstanding = s.callOutstanding ∧ (setOrderState n x s).verify = s.verify ∧
    (setOrderState n x s).disp = s.disp ∧ (setOrderState n x s).bundles = s.bundles ∧
    (setOrderState n x s).fault = s.fault ∧ (setOrderState n x s).link = s.link ∧
    (setOrderState n x s).freeTaken = s.freeTaken := by
  simp [setOrderState]

@[simp] theorem removeOrder_keeps (n : Nat) (s : State) :
    (removeOrder n s).pending = s.pending ∧ (removeOrder n s).pins = s.pins ∧ (removeOrder n s).reg = s.reg ∧
    (removeOrder n s).lines = s.lines ∧ (removeOrder n s).run = s.run ∧ (removeOrder n s).setup = s.setup ∧
    (removeOrder n s).store = s.store ∧ (removeOrder n s).entry = s.entry ∧ (removeOrder n s).track = s.track ∧
    (removeOrder n s).callOutstanding = s.callOutstanding ∧ (removeOrder n s).verify = s.verify ∧
    (removeOrder n s).disp = s.disp ∧ (removeOrder n s).bundles = s.bundles ∧ (removeOrder n s).fault = s.fault ∧
    (removeOrder n s).link = s.link ∧ (removeOrder n s).freeTaken = s.freeTaken := by
  simp [removeOrder]

@[simp] theorem updateBundle_keeps (n : Nat) (f : Bundle → Bundle) (s : State) :
    (updateBundle n f s).pending = s.pending ∧ (updateBundle n f s).pins = s.pins ∧
    (updateBundle n f s).reg = s.reg ∧ (updateBundle n f s).lines = s.lines ∧ (updateBundle n f s).run = s.run ∧
    (updateBundle n f s).setup = s.setup ∧ (updateBundle n f s).store = s.store ∧
    (updateBundle n f s).entry = s.entry ∧ (updateBundle n f s).track = s.track ∧
    (updateBundle n f s).callOutstanding = s.callOutstanding ∧ (updateBundle n f s).carrier = s.carrier ∧
    (updateBundle n f s).verify = s.verify ∧ (updateBundle n f s).disp = s.disp ∧
    (updateBundle n f s).fault = s.fault ∧ (updateBundle n f s).link = s.link ∧
    (updateBundle n f s).freeTaken = s.freeTaken := by
  simp [updateBundle]

@[simp] theorem countBundle_keeps (n : Nat) (f : BitVec 24 → Bundle → Bundle) (s : State) :
    (countBundle n f s).pending = s.pending ∧ (countBundle n f s).pins = s.pins ∧ (countBundle n f s).reg = s.reg ∧
    (countBundle n f s).lines = s.lines ∧ (countBundle n f s).run = s.run ∧ (countBundle n f s).setup = s.setup ∧
    (countBundle n f s).store = s.store ∧ (countBundle n f s).entry = s.entry ∧ (countBundle n f s).track = s.track ∧
    (countBundle n f s).callOutstanding = s.callOutstanding ∧ (countBundle n f s).carrier = s.carrier ∧
    (countBundle n f s).verify = s.verify ∧ (countBundle n f s).disp = s.disp ∧ (countBundle n f s).fault = s.fault ∧
    (countBundle n f s).link = s.link := by
  simp [countBundle]

@[simp] theorem removeBundle_keeps (n : Nat) (s : State) :
    (removeBundle n s).pending = s.pending ∧ (removeBundle n s).pins = s.pins ∧ (removeBundle n s).reg = s.reg ∧
    (removeBundle n s).lines = s.lines ∧ (removeBundle n s).run = s.run ∧ (removeBundle n s).setup = s.setup ∧
    (removeBundle n s).store = s.store ∧ (removeBundle n s).entry = s.entry ∧ (removeBundle n s).track = s.track ∧
    (removeBundle n s).callOutstanding = s.callOutstanding ∧ (removeBundle n s).carrier = s.carrier ∧
    (removeBundle n s).verify = s.verify ∧ (removeBundle n s).disp = s.disp ∧ (removeBundle n s).fault = s.fault ∧
    (removeBundle n s).link = s.link ∧ (removeBundle n s).freeTaken = s.freeTaken := by
  simp [removeBundle]

@[simp] theorem setPlace_keeps (key : Nat) (x : Place) (s : State) :
    (setPlace key x s).pending = s.pending ∧ (setPlace key x s).pins = s.pins ∧ (setPlace key x s).reg = s.reg ∧
    (setPlace key x s).lines = s.lines ∧ (setPlace key x s).run = s.run ∧ (setPlace key x s).setup = s.setup ∧
    (setPlace key x s).entry = s.entry ∧ (setPlace key x s).track = s.track ∧
    (setPlace key x s).callOutstanding = s.callOutstanding ∧ (setPlace key x s).carrier = s.carrier ∧
    (setPlace key x s).verify = s.verify ∧ (setPlace key x s).disp = s.disp ∧
    (setPlace key x s).bundles = s.bundles ∧ (setPlace key x s).fault = s.fault ∧ (setPlace key x s).link = s.link ∧
    (setPlace key x s).freeTaken = s.freeTaken := by
  simp [setPlace]

@[simp] theorem removeWaiting_keeps (key : Nat) (s : State) :
    (removeWaiting key s).pending = s.pending ∧ (removeWaiting key s).pins = s.pins ∧
    (removeWaiting key s).reg = s.reg ∧ (removeWaiting key s).lines = s.lines ∧ (removeWaiting key s).run = s.run ∧
    (removeWaiting key s).setup = s.setup ∧ (removeWaiting key s).entry = s.entry ∧
    (removeWaiting key s).track = s.track ∧ (removeWaiting key s).callOutstanding = s.callOutstanding ∧
    (removeWaiting key s).carrier = s.carrier ∧ (removeWaiting key s).verify = s.verify ∧
    (removeWaiting key s).disp = s.disp ∧ (removeWaiting key s).bundles = s.bundles ∧
    (removeWaiting key s).fault = s.fault ∧ (removeWaiting key s).link = s.link ∧
    (removeWaiting key s).freeTaken = s.freeTaken := by
  simp [removeWaiting]

end Sys2Proof.Machine
end

