-- ==== Sys2Proof/Laws/Faults.lean ====
section
/-! SUPPORT. What each operation of the fault unit leaves unchanged: one lemma for each, its conjuncts simp rules. -/

namespace Sys2Proof.Machine

@[simp] theorem countFault_keeps (k : FaultKind) (s : State) :
    (countFault k s).pending = s.pending ∧ (countFault k s).pins = s.pins ∧ (countFault k s).reg = s.reg ∧
    (countFault k s).lines = s.lines ∧ (countFault k s).run = s.run ∧ (countFault k s).setup = s.setup ∧
    (countFault k s).store = s.store ∧ (countFault k s).entry = s.entry ∧ (countFault k s).track = s.track ∧
    (countFault k s).callOutstanding = s.callOutstanding ∧ (countFault k s).carrier = s.carrier ∧
    (countFault k s).verify = s.verify ∧ (countFault k s).disp = s.disp ∧ (countFault k s).bundles = s.bundles ∧
    (countFault k s).link = s.link ∧ (countFault k s).freeTaken = s.freeTaken := by
  unfold countFault; dsimp only; split <;> simp

@[simp] theorem steerFault_keeps (k : FaultKind) (s : State) :
    (steerFault k s).pending = s.pending ∧ (steerFault k s).pins = s.pins ∧ (steerFault k s).reg = s.reg ∧
    (steerFault k s).lines = s.lines ∧ (steerFault k s).run = s.run ∧ (steerFault k s).setup = s.setup ∧
    (steerFault k s).store = s.store ∧ (steerFault k s).entry = s.entry ∧ (steerFault k s).track = s.track ∧
    (steerFault k s).callOutstanding = s.callOutstanding ∧ (steerFault k s).carrier = s.carrier ∧
    (steerFault k s).verify = s.verify ∧ (steerFault k s).disp = s.disp ∧ (steerFault k s).bundles = s.bundles ∧
    (steerFault k s).link = s.link ∧ (steerFault k s).freeTaken = s.freeTaken := by
  unfold steerFault; (repeat' split) <;> simp

@[simp] theorem setLog_keeps (c : LogClass) (x : Option FaultLog) (s : State) :
    (setLog c x s).pending = s.pending ∧ (setLog c x s).pins = s.pins ∧ (setLog c x s).reg = s.reg ∧
    (setLog c x s).lines = s.lines ∧ (setLog c x s).run = s.run ∧ (setLog c x s).setup = s.setup ∧
    (setLog c x s).store = s.store ∧ (setLog c x s).entry = s.entry ∧ (setLog c x s).track = s.track ∧
    (setLog c x s).callOutstanding = s.callOutstanding ∧ (setLog c x s).carrier = s.carrier ∧
    (setLog c x s).verify = s.verify ∧ (setLog c x s).disp = s.disp ∧ (setLog c x s).bundles = s.bundles ∧
    (setLog c x s).link = s.link ∧ (setLog c x s).freeTaken = s.freeTaken := by
  unfold setLog; (repeat' split) <;> simp

@[simp] theorem enterLog_keeps (c : LogClass) (f : FaultRecord) (s : State) :
    (enterLog c f s).pending = s.pending ∧ (enterLog c f s).pins = s.pins ∧ (enterLog c f s).reg = s.reg ∧
    (enterLog c f s).lines = s.lines ∧ (enterLog c f s).run = s.run ∧ (enterLog c f s).setup = s.setup ∧
    (enterLog c f s).store = s.store ∧ (enterLog c f s).entry = s.entry ∧ (enterLog c f s).track = s.track ∧
    (enterLog c f s).callOutstanding = s.callOutstanding ∧ (enterLog c f s).carrier = s.carrier ∧
    (enterLog c f s).verify = s.verify ∧ (enterLog c f s).disp = s.disp ∧ (enterLog c f s).bundles = s.bundles ∧
    (enterLog c f s).freeTaken = s.freeTaken := by
  unfold enterLog; (repeat' split) <;> simp

@[simp] theorem setStopLatch_keeps (s : State) :
    (setStopLatch s).pending = s.pending ∧ (setStopLatch s).pins = s.pins ∧ (setStopLatch s).reg = s.reg ∧
    (setStopLatch s).lines = s.lines ∧ (setStopLatch s).setup = s.setup ∧ (setStopLatch s).store = s.store ∧
    (setStopLatch s).entry = s.entry ∧ (setStopLatch s).track = s.track ∧
    (setStopLatch s).callOutstanding = s.callOutstanding ∧ (setStopLatch s).carrier = s.carrier ∧
    (setStopLatch s).verify = s.verify ∧ (setStopLatch s).disp = s.disp ∧ (setStopLatch s).bundles = s.bundles ∧
    (setStopLatch s).freeTaken = s.freeTaken := by
  unfold setStopLatch; (repeat' split) <;> simp

@[simp] theorem logAndStop_keeps (a : Action) (f : FaultRecord) (s : State) :
    (logAndStop a f s).pending = s.pending ∧ (logAndStop a f s).pins = s.pins ∧ (logAndStop a f s).reg = s.reg ∧
    (logAndStop a f s).lines = s.lines ∧ (logAndStop a f s).setup = s.setup ∧ (logAndStop a f s).store = s.store ∧
    (logAndStop a f s).entry = s.entry ∧ (logAndStop a f s).track = s.track ∧
    (logAndStop a f s).callOutstanding = s.callOutstanding ∧ (logAndStop a f s).carrier = s.carrier ∧
    (logAndStop a f s).verify = s.verify ∧ (logAndStop a f s).disp = s.disp ∧
    (logAndStop a f s).bundles = s.bundles ∧ (logAndStop a f s).freeTaken = s.freeTaken := by
  unfold logAndStop; (repeat' split) <;> simp

@[simp] theorem raise_keeps (f : FaultRecord) (s : State) :
    (raise f s).pending = s.pending ∧ (raise f s).pins = s.pins ∧ (raise f s).reg = s.reg ∧
    (raise f s).lines = s.lines ∧ (raise f s).setup = s.setup ∧ (raise f s).store = s.store ∧
    (raise f s).entry = s.entry ∧ (raise f s).track = s.track ∧ (raise f s).callOutstanding = s.callOutstanding ∧
    (raise f s).carrier = s.carrier ∧ (raise f s).verify = s.verify ∧ (raise f s).disp = s.disp ∧
    (raise f s).bundles = s.bundles ∧ (raise f s).freeTaken = s.freeTaken := by
  unfold raise; (repeat' split) <;> simp

@[simp] theorem raiseOverflow_keeps (p : Port) (s : State) :
    (raiseOverflow p s).pending = s.pending ∧ (raiseOverflow p s).pins = s.pins ∧ (raiseOverflow p s).reg = s.reg ∧
    (raiseOverflow p s).lines = s.lines ∧ (raiseOverflow p s).setup = s.setup ∧ (raiseOverflow p s).store = s.store ∧
    (raiseOverflow p s).entry = s.entry ∧ (raiseOverflow p s).track = s.track ∧
    (raiseOverflow p s).callOutstanding = s.callOutstanding ∧ (raiseOverflow p s).carrier = s.carrier ∧
    (raiseOverflow p s).verify = s.verify ∧ (raiseOverflow p s).disp = s.disp ∧
    (raiseOverflow p s).bundles = s.bundles ∧ (raiseOverflow p s).freeTaken = s.freeTaken := by
  simp [raiseOverflow]

@[simp] theorem foldOverflow_keeps (ps : List Port) (s : State) :
    (ps.foldl (fun s p => raiseOverflow p s) s).pending = s.pending ∧
    (ps.foldl (fun s p => raiseOverflow p s) s).pins = s.pins ∧
    (ps.foldl (fun s p => raiseOverflow p s) s).reg = s.reg ∧
    (ps.foldl (fun s p => raiseOverflow p s) s).lines = s.lines ∧
    (ps.foldl (fun s p => raiseOverflow p s) s).setup = s.setup ∧
    (ps.foldl (fun s p => raiseOverflow p s) s).store = s.store ∧
    (ps.foldl (fun s p => raiseOverflow p s) s).entry = s.entry ∧
    (ps.foldl (fun s p => raiseOverflow p s) s).track = s.track ∧
    (ps.foldl (fun s p => raiseOverflow p s) s).callOutstanding = s.callOutstanding ∧
    (ps.foldl (fun s p => raiseOverflow p s) s).carrier = s.carrier ∧
    (ps.foldl (fun s p => raiseOverflow p s) s).verify = s.verify ∧
    (ps.foldl (fun s p => raiseOverflow p s) s).disp = s.disp ∧
    (ps.foldl (fun s p => raiseOverflow p s) s).bundles = s.bundles ∧
    (ps.foldl (fun s p => raiseOverflow p s) s).freeTaken = s.freeTaken := by
  induction ps generalizing s <;> simp_all

@[simp] theorem takeOverflows_keeps (s : State) :
    (takeOverflows s).pending = s.pending ∧ (takeOverflows s).pins = s.pins ∧ (takeOverflows s).reg = s.reg ∧
    (takeOverflows s).lines = s.lines ∧ (takeOverflows s).setup = s.setup ∧ (takeOverflows s).store = s.store ∧
    (takeOverflows s).entry = s.entry ∧ (takeOverflows s).track = s.track ∧
    (takeOverflows s).callOutstanding = s.callOutstanding ∧ (takeOverflows s).carrier = s.carrier ∧
    (takeOverflows s).verify = s.verify ∧ (takeOverflows s).disp = s.disp ∧ (takeOverflows s).bundles = s.bundles ∧
    (takeOverflows s).freeTaken = s.freeTaken := by
  simp [takeOverflows]

@[simp] theorem settle_keeps (s : State) :
    (settle s).pending = s.pending ∧ (settle s).pins = s.pins ∧ (settle s).reg = s.reg ∧ (settle s).lines = s.lines ∧
    (settle s).setup = s.setup ∧ (settle s).store = s.store ∧ (settle s).entry = s.entry ∧
    (settle s).track = s.track ∧ (settle s).callOutstanding = s.callOutstanding ∧ (settle s).carrier = s.carrier ∧
    (settle s).verify = s.verify ∧ (settle s).disp = s.disp ∧ (settle s).bundles = s.bundles ∧
    (settle s).freeTaken = s.freeTaken := by
  simp [settle]

@[simp] theorem linkError_keeps (p : Port) (s : State) :
    (linkError p s).pending = s.pending ∧ (linkError p s).pins = s.pins ∧ (linkError p s).reg = s.reg ∧
    (linkError p s).lines = s.lines ∧ (linkError p s).setup = s.setup ∧ (linkError p s).store = s.store ∧
    (linkError p s).entry = s.entry ∧ (linkError p s).track = s.track ∧
    (linkError p s).callOutstanding = s.callOutstanding ∧ (linkError p s).carrier = s.carrier ∧
    (linkError p s).verify = s.verify ∧ (linkError p s).disp = s.disp ∧ (linkError p s).bundles = s.bundles ∧
    (linkError p s).freeTaken = s.freeTaken := by
  simp [linkError]

@[simp] theorem strayReport_keeps (p : Port) (s : State) :
    (strayReport p s).pending = s.pending ∧ (strayReport p s).pins = s.pins ∧ (strayReport p s).reg = s.reg ∧
    (strayReport p s).lines = s.lines ∧ (strayReport p s).setup = s.setup ∧ (strayReport p s).store = s.store ∧
    (strayReport p s).entry = s.entry ∧ (strayReport p s).track = s.track ∧
    (strayReport p s).callOutstanding = s.callOutstanding ∧ (strayReport p s).carrier = s.carrier ∧
    (strayReport p s).verify = s.verify ∧ (strayReport p s).disp = s.disp ∧ (strayReport p s).bundles = s.bundles ∧
    (strayReport p s).freeTaken = s.freeTaken := by
  simp [strayReport]

@[simp] theorem raiseMarking_keeps (m : Action → Piece → Piece) (k : FaultKind) (src : Source) (p : Nat) (s : State) :
    (raiseMarking m k src p s).pending = s.pending ∧ (raiseMarking m k src p s).pins = s.pins ∧
    (raiseMarking m k src p s).reg = s.reg ∧ (raiseMarking m k src p s).lines = s.lines ∧
    (raiseMarking m k src p s).setup = s.setup ∧ (raiseMarking m k src p s).store = s.store ∧
    (raiseMarking m k src p s).entry = s.entry ∧ (raiseMarking m k src p s).callOutstanding = s.callOutstanding ∧
    (raiseMarking m k src p s).carrier = s.carrier ∧ (raiseMarking m k src p s).verify = s.verify ∧
    (raiseMarking m k src p s).disp = s.disp ∧ (raiseMarking m k src p s).bundles = s.bundles ∧
    (raiseMarking m k src p s).freeTaken = s.freeTaken := by
  unfold raiseMarking; (repeat' split) <;> simp

@[simp] theorem raiseOnPiece_keeps (k : FaultKind) (src : Source) (p : Nat) (s : State) :
    (raiseOnPiece k src p s).pending = s.pending ∧ (raiseOnPiece k src p s).pins = s.pins ∧
    (raiseOnPiece k src p s).reg = s.reg ∧ (raiseOnPiece k src p s).lines = s.lines ∧
    (raiseOnPiece k src p s).setup = s.setup ∧ (raiseOnPiece k src p s).store = s.store ∧
    (raiseOnPiece k src p s).entry = s.entry ∧ (raiseOnPiece k src p s).callOutstanding = s.callOutstanding ∧
    (raiseOnPiece k src p s).carrier = s.carrier ∧ (raiseOnPiece k src p s).verify = s.verify ∧
    (raiseOnPiece k src p s).disp = s.disp ∧ (raiseOnPiece k src p s).bundles = s.bundles ∧
    (raiseOnPiece k src p s).freeTaken = s.freeTaken := by
  simp [raiseOnPiece]

end Sys2Proof.Machine
end

