-- ==== Sys2Proof/Laws/Bundles.lean ====
section
/-! SUPPORT. What each operation of the bundle unit and the dispatch store leaves unchanged: one lemma for each, its conjuncts simp rules. -/

namespace Sys2Proof.Machine

@[simp] theorem changeJob_keeps (j : JobState) (n : Option Nat) (s : State) :
    (changeJob j n s).pending = s.pending ∧ (changeJob j n s).pins = s.pins ∧ (changeJob j n s).reg = s.reg ∧
    (changeJob j n s).lines = s.lines ∧ (changeJob j n s).run = s.run ∧ (changeJob j n s).setup = s.setup ∧
    (changeJob j n s).entry = s.entry ∧ (changeJob j n s).track = s.track ∧
    (changeJob j n s).callOutstanding = s.callOutstanding ∧ (changeJob j n s).carrier = s.carrier ∧
    (changeJob j n s).verify = s.verify ∧ (changeJob j n s).disp = s.disp ∧ (changeJob j n s).bundles = s.bundles ∧
    (changeJob j n s).fault = s.fault ∧ (changeJob j n s).freeTaken = s.freeTaken := by
  simp [changeJob]

@[simp] theorem endEpisodes_keeps (s : State) :
    (endEpisodes s).pending = s.pending ∧ (endEpisodes s).pins = s.pins ∧ (endEpisodes s).reg = s.reg ∧
    (endEpisodes s).lines = s.lines ∧ (endEpisodes s).run = s.run ∧ (endEpisodes s).setup = s.setup ∧
    (endEpisodes s).store = s.store ∧ (endEpisodes s).track = s.track ∧
    (endEpisodes s).callOutstanding = s.callOutstanding ∧ (endEpisodes s).carrier = s.carrier ∧
    (endEpisodes s).verify = s.verify ∧ (endEpisodes s).disp = s.disp ∧ (endEpisodes s).bundles = s.bundles ∧
    (endEpisodes s).fault = s.fault ∧ (endEpisodes s).link = s.link ∧ (endEpisodes s).freeTaken = s.freeTaken := by
  simp [endEpisodes]

@[simp] theorem completeJob_keeps (s : State) :
    (completeJob s).pending = s.pending ∧ (completeJob s).pins = s.pins ∧ (completeJob s).reg = s.reg ∧
    (completeJob s).lines = s.lines ∧ (completeJob s).setup = s.setup ∧ (completeJob s).track = s.track ∧
    (completeJob s).callOutstanding = s.callOutstanding ∧ (completeJob s).carrier = s.carrier ∧
    (completeJob s).verify = s.verify ∧ (completeJob s).disp = s.disp ∧ (completeJob s).bundles = s.bundles ∧
    (completeJob s).fault = s.fault ∧ (completeJob s).freeTaken = s.freeTaken := by
  simp [completeJob]

@[simp] theorem completionCheck_keeps (s : State) :
    (completionCheck s).pending = s.pending ∧ (completionCheck s).pins = s.pins ∧ (completionCheck s).reg = s.reg ∧
    (completionCheck s).lines = s.lines ∧ (completionCheck s).setup = s.setup ∧ (completionCheck s).track = s.track ∧
    (completionCheck s).callOutstanding = s.callOutstanding ∧ (completionCheck s).carrier = s.carrier ∧
    (completionCheck s).verify = s.verify ∧ (completionCheck s).disp = s.disp ∧
    (completionCheck s).bundles = s.bundles ∧ (completionCheck s).fault = s.fault ∧
    (completionCheck s).freeTaken = s.freeTaken := by
  unfold completionCheck; (repeat' split) <;> simp

@[simp] theorem closeBundle_keeps (b : Bundle) (s : State) :
    (closeBundle b s).pending = s.pending ∧ (closeBundle b s).pins = s.pins ∧ (closeBundle b s).reg = s.reg ∧
    (closeBundle b s).lines = s.lines ∧ (closeBundle b s).setup = s.setup ∧ (closeBundle b s).track = s.track ∧
    (closeBundle b s).callOutstanding = s.callOutstanding ∧ (closeBundle b s).carrier = s.carrier ∧
    (closeBundle b s).verify = s.verify ∧ (closeBundle b s).disp = s.disp ∧ (closeBundle b s).fault = s.fault ∧
    (closeBundle b s).freeTaken = s.freeTaken := by
  unfold closeBundle; (repeat' split) <;> simp

@[simp] theorem closeCheck_keeps (n : Nat) (s : State) :
    (closeCheck n s).pending = s.pending ∧ (closeCheck n s).pins = s.pins ∧ (closeCheck n s).reg = s.reg ∧
    (closeCheck n s).lines = s.lines ∧ (closeCheck n s).setup = s.setup ∧ (closeCheck n s).track = s.track ∧
    (closeCheck n s).callOutstanding = s.callOutstanding ∧ (closeCheck n s).carrier = s.carrier ∧
    (closeCheck n s).verify = s.verify ∧ (closeCheck n s).disp = s.disp ∧ (closeCheck n s).fault = s.fault ∧
    (closeCheck n s).freeTaken = s.freeTaken := by
  unfold closeCheck; (repeat' split) <;> simp

@[simp] theorem closeChecks_keeps (ns : List Nat) (s : State) :
    (closeChecks ns s).pending = s.pending ∧ (closeChecks ns s).pins = s.pins ∧ (closeChecks ns s).reg = s.reg ∧
    (closeChecks ns s).lines = s.lines ∧ (closeChecks ns s).setup = s.setup ∧ (closeChecks ns s).track = s.track ∧
    (closeChecks ns s).callOutstanding = s.callOutstanding ∧ (closeChecks ns s).carrier = s.carrier ∧
    (closeChecks ns s).verify = s.verify ∧ (closeChecks ns s).disp = s.disp ∧ (closeChecks ns s).fault = s.fault ∧
    (closeChecks ns s).freeTaken = s.freeTaken := by
  unfold closeChecks
  induction ns generalizing s <;> simp_all

@[simp] theorem sealBundle_keeps (n : Nat) (s : State) :
    (sealBundle n s).pending = s.pending ∧ (sealBundle n s).pins = s.pins ∧ (sealBundle n s).reg = s.reg ∧
    (sealBundle n s).lines = s.lines ∧ (sealBundle n s).setup = s.setup ∧ (sealBundle n s).track = s.track ∧
    (sealBundle n s).callOutstanding = s.callOutstanding ∧ (sealBundle n s).carrier = s.carrier ∧
    (sealBundle n s).verify = s.verify ∧ (sealBundle n s).disp = s.disp ∧ (sealBundle n s).fault = s.fault ∧
    (sealBundle n s).freeTaken = s.freeTaken := by
  unfold sealBundle; (repeat' split) <;> simp

@[simp] theorem sealBundles_keeps (ns : List Nat) (s : State) :
    (sealBundles ns s).pending = s.pending ∧ (sealBundles ns s).pins = s.pins ∧ (sealBundles ns s).reg = s.reg ∧
    (sealBundles ns s).lines = s.lines ∧ (sealBundles ns s).setup = s.setup ∧ (sealBundles ns s).track = s.track ∧
    (sealBundles ns s).callOutstanding = s.callOutstanding ∧ (sealBundles ns s).carrier = s.carrier ∧
    (sealBundles ns s).verify = s.verify ∧ (sealBundles ns s).disp = s.disp ∧ (sealBundles ns s).fault = s.fault ∧
    (sealBundles ns s).freeTaken = s.freeTaken := by
  unfold sealBundles
  induction ns generalizing s <;> simp_all

@[simp] theorem setShort_keeps (n : Nat) (s : State) :
    (setShort n s).pending = s.pending ∧ (setShort n s).pins = s.pins ∧ (setShort n s).reg = s.reg ∧
    (setShort n s).lines = s.lines ∧ (setShort n s).run = s.run ∧ (setShort n s).setup = s.setup ∧
    (setShort n s).store = s.store ∧ (setShort n s).entry = s.entry ∧ (setShort n s).track = s.track ∧
    (setShort n s).callOutstanding = s.callOutstanding ∧ (setShort n s).carrier = s.carrier ∧
    (setShort n s).verify = s.verify ∧ (setShort n s).disp = s.disp ∧ (setShort n s).fault = s.fault ∧
    (setShort n s).link = s.link ∧ (setShort n s).freeTaken = s.freeTaken := by
  simp [setShort]

@[simp] theorem deliveryFault_keeps (src : Source) (b : Option Nat) (s : State) :
    (deliveryFault src b s).pending = s.pending ∧ (deliveryFault src b s).pins = s.pins ∧
    (deliveryFault src b s).reg = s.reg ∧ (deliveryFault src b s).lines = s.lines ∧
    (deliveryFault src b s).setup = s.setup ∧ (deliveryFault src b s).store = s.store ∧
    (deliveryFault src b s).entry = s.entry ∧ (deliveryFault src b s).track = s.track ∧
    (deliveryFault src b s).callOutstanding = s.callOutstanding ∧ (deliveryFault src b s).carrier = s.carrier ∧
    (deliveryFault src b s).verify = s.verify ∧ (deliveryFault src b s).disp = s.disp ∧
    (deliveryFault src b s).bundles = s.bundles ∧ (deliveryFault src b s).freeTaken = s.freeTaken := by
  simp [deliveryFault]

@[simp] theorem forgetRecord_keeps (r : Record) (s : State) :
    (forgetRecord r s).pending = s.pending ∧ (forgetRecord r s).pins = s.pins ∧ (forgetRecord r s).reg = s.reg ∧
    (forgetRecord r s).lines = s.lines ∧ (forgetRecord r s).run = s.run ∧ (forgetRecord r s).setup = s.setup ∧
    (forgetRecord r s).entry = s.entry ∧ (forgetRecord r s).track = s.track ∧
    (forgetRecord r s).callOutstanding = s.callOutstanding ∧ (forgetRecord r s).carrier = s.carrier ∧
    (forgetRecord r s).verify = s.verify ∧ (forgetRecord r s).disp = s.disp ∧
    (forgetRecord r s).bundles = s.bundles ∧ (forgetRecord r s).fault = s.fault ∧ (forgetRecord r s).link = s.link ∧
    (forgetRecord r s).freeTaken = s.freeTaken := by
  simp [forgetRecord]

@[simp] theorem leaveList_keeps (x : Place) (key : Nat) (s : State) :
    (leaveList x key s).pending = s.pending ∧ (leaveList x key s).pins = s.pins ∧ (leaveList x key s).reg = s.reg ∧
    (leaveList x key s).lines = s.lines ∧ (leaveList x key s).run = s.run ∧ (leaveList x key s).setup = s.setup ∧
    (leaveList x key s).entry = s.entry ∧ (leaveList x key s).track = s.track ∧
    (leaveList x key s).callOutstanding = s.callOutstanding ∧ (leaveList x key s).carrier = s.carrier ∧
    (leaveList x key s).verify = s.verify ∧ (leaveList x key s).disp = s.disp ∧
    (leaveList x key s).bundles = s.bundles ∧ (leaveList x key s).fault = s.fault ∧
    (leaveList x key s).link = s.link ∧ (leaveList x key s).freeTaken = s.freeTaken := by
  unfold leaveList; (repeat' split) <;> simp

@[simp] theorem endLife_keeps (x : Place) (e : RecordEnd) (r : Record) (s : State) :
    (endLife x e r s).pending = s.pending ∧ (endLife x e r s).pins = s.pins ∧ (endLife x e r s).reg = s.reg ∧
    (endLife x e r s).lines = s.lines ∧ (endLife x e r s).setup = s.setup ∧ (endLife x e r s).track = s.track ∧
    (endLife x e r s).callOutstanding = s.callOutstanding ∧ (endLife x e r s).carrier = s.carrier ∧
    (endLife x e r s).verify = s.verify ∧ (endLife x e r s).disp = s.disp ∧ (endLife x e r s).fault = s.fault := by
  simp [endLife]

@[simp] theorem enterBacklog_keeps (o : BacklogOutcome) (rs : List Record) (s : State) :
    (enterBacklog o rs s).pending = s.pending ∧ (enterBacklog o rs s).pins = s.pins ∧
    (enterBacklog o rs s).reg = s.reg ∧ (enterBacklog o rs s).lines = s.lines ∧ (enterBacklog o rs s).run = s.run ∧
    (enterBacklog o rs s).setup = s.setup ∧ (enterBacklog o rs s).entry = s.entry ∧
    (enterBacklog o rs s).track = s.track ∧ (enterBacklog o rs s).callOutstanding = s.callOutstanding ∧
    (enterBacklog o rs s).carrier = s.carrier ∧ (enterBacklog o rs s).verify = s.verify ∧
    (enterBacklog o rs s).disp = s.disp ∧ (enterBacklog o rs s).bundles = s.bundles ∧
    (enterBacklog o rs s).fault = s.fault ∧ (enterBacklog o rs s).link = s.link ∧
    (enterBacklog o rs s).freeTaken = s.freeTaken := by
  simp [enterBacklog]

@[simp] theorem releaseOldest_keeps (s : State) :
    (releaseOldest s).pending = s.pending ∧ (releaseOldest s).pins = s.pins ∧ (releaseOldest s).reg = s.reg ∧
    (releaseOldest s).lines = s.lines ∧ (releaseOldest s).setup = s.setup ∧ (releaseOldest s).track = s.track ∧
    (releaseOldest s).callOutstanding = s.callOutstanding ∧ (releaseOldest s).carrier = s.carrier ∧
    (releaseOldest s).verify = s.verify ∧ (releaseOldest s).disp = s.disp ∧ (releaseOldest s).fault = s.fault := by
  unfold releaseOldest; dsimp only; (repeat' split) <;> simp

@[simp] theorem releaseEntries_keeps (n : Nat) (s : State) :
    (releaseEntries n s).pending = s.pending ∧ (releaseEntries n s).pins = s.pins ∧
    (releaseEntries n s).reg = s.reg ∧ (releaseEntries n s).lines = s.lines ∧ (releaseEntries n s).setup = s.setup ∧
    (releaseEntries n s).track = s.track ∧ (releaseEntries n s).callOutstanding = s.callOutstanding ∧
    (releaseEntries n s).carrier = s.carrier ∧ (releaseEntries n s).verify = s.verify ∧
    (releaseEntries n s).disp = s.disp ∧ (releaseEntries n s).fault = s.fault := by
  induction n generalizing s with
  | zero => simp [releaseEntries]
  | succ n ih => unfold releaseEntries; split <;> simp [ih]

@[simp] theorem drainBacklog_keeps (s : State) :
    (drainBacklog s).pending = s.pending ∧ (drainBacklog s).pins = s.pins ∧ (drainBacklog s).reg = s.reg ∧
    (drainBacklog s).lines = s.lines ∧ (drainBacklog s).setup = s.setup ∧ (drainBacklog s).track = s.track ∧
    (drainBacklog s).callOutstanding = s.callOutstanding ∧ (drainBacklog s).carrier = s.carrier ∧
    (drainBacklog s).verify = s.verify ∧ (drainBacklog s).disp = s.disp ∧ (drainBacklog s).fault = s.fault := by
  simp [drainBacklog]

@[simp] theorem raiseLoadMark_keeps (n : Nat) (s : State) :
    (raiseLoadMark n s).pending = s.pending ∧ (raiseLoadMark n s).pins = s.pins ∧ (raiseLoadMark n s).reg = s.reg ∧
    (raiseLoadMark n s).lines = s.lines ∧ (raiseLoadMark n s).setup = s.setup ∧ (raiseLoadMark n s).track = s.track ∧
    (raiseLoadMark n s).callOutstanding = s.callOutstanding ∧ (raiseLoadMark n s).carrier = s.carrier ∧
    (raiseLoadMark n s).verify = s.verify ∧ (raiseLoadMark n s).disp = s.disp ∧ (raiseLoadMark n s).fault = s.fault ∧
    (raiseLoadMark n s).freeTaken = s.freeTaken := by
  unfold raiseLoadMark; (repeat' split) <;> simp

@[simp] theorem loadRecord_keeps (r : Record) (s : State) :
    (loadRecord r s).pending = s.pending ∧ (loadRecord r s).pins = s.pins ∧ (loadRecord r s).reg = s.reg ∧
    (loadRecord r s).lines = s.lines ∧ (loadRecord r s).setup = s.setup ∧ (loadRecord r s).track = s.track ∧
    (loadRecord r s).callOutstanding = s.callOutstanding ∧ (loadRecord r s).carrier = s.carrier ∧
    (loadRecord r s).verify = s.verify ∧ (loadRecord r s).disp = s.disp ∧ (loadRecord r s).fault = s.fault ∧
    (loadRecord r s).freeTaken = s.freeTaken := by
  simp [loadRecord]

@[simp] theorem placeInLane_keeps (r : Record) (s : State) :
    (placeInLane r s).pending = s.pending ∧ (placeInLane r s).pins = s.pins ∧ (placeInLane r s).reg = s.reg ∧
    (placeInLane r s).lines = s.lines ∧ (placeInLane r s).run = s.run ∧ (placeInLane r s).setup = s.setup ∧
    (placeInLane r s).entry = s.entry ∧ (placeInLane r s).track = s.track ∧
    (placeInLane r s).callOutstanding = s.callOutstanding ∧ (placeInLane r s).carrier = s.carrier ∧
    (placeInLane r s).verify = s.verify ∧ (placeInLane r s).disp = s.disp ∧ (placeInLane r s).fault = s.fault ∧
    (placeInLane r s).link = s.link ∧ (placeInLane r s).freeTaken = s.freeTaken := by
  simp [placeInLane]

@[simp] theorem sendToLane_keeps (o : OffReason) (r : Record) (s : State) :
    (sendToLane o r s).pending = s.pending ∧ (sendToLane o r s).pins = s.pins ∧ (sendToLane o r s).reg = s.reg ∧
    (sendToLane o r s).lines = s.lines ∧ (sendToLane o r s).setup = s.setup ∧ (sendToLane o r s).track = s.track ∧
    (sendToLane o r s).callOutstanding = s.callOutstanding ∧ (sendToLane o r s).carrier = s.carrier ∧
    (sendToLane o r s).verify = s.verify ∧ (sendToLane o r s).disp = s.disp ∧ (sendToLane o r s).fault = s.fault := by
  unfold sendToLane; (repeat' split) <;> simp

end Sys2Proof.Machine
end

