-- ==== Sys2Proof/Laws/Carrier.lean ====
section
/-! SUPPORT. What each operation of the carrier unit leaves unchanged: one lemma for each, its conjuncts simp rules. -/

namespace Sys2Proof.Machine

@[simp] theorem issueOrder_keeps (tag : Nat) (r : Record) (s : State) :
    (issueOrder tag r s).pending = s.pending ∧ (issueOrder tag r s).pins = s.pins ∧
    (issueOrder tag r s).reg = s.reg ∧ (issueOrder tag r s).lines = s.lines ∧ (issueOrder tag r s).run = s.run ∧
    (issueOrder tag r s).setup = s.setup ∧ (issueOrder tag r s).store = s.store ∧
    (issueOrder tag r s).entry = s.entry ∧ (issueOrder tag r s).track = s.track ∧
    (issueOrder tag r s).callOutstanding = s.callOutstanding ∧ (issueOrder tag r s).verify = s.verify ∧
    (issueOrder tag r s).disp = s.disp ∧ (issueOrder tag r s).bundles = s.bundles ∧
    (issueOrder tag r s).fault = s.fault ∧ (issueOrder tag r s).freeTaken = s.freeTaken := by
  simp [issueOrder]

@[simp] theorem discardOrder_keeps (n : Nat) (s : State) :
    (discardOrder n s).pending = s.pending ∧ (discardOrder n s).pins = s.pins ∧ (discardOrder n s).reg = s.reg ∧
    (discardOrder n s).lines = s.lines ∧ (discardOrder n s).setup = s.setup ∧ (discardOrder n s).store = s.store ∧
    (discardOrder n s).entry = s.entry ∧ (discardOrder n s).callOutstanding = s.callOutstanding ∧
    (discardOrder n s).carrier = s.carrier ∧ (discardOrder n s).verify = s.verify ∧
    (discardOrder n s).disp = s.disp ∧ (discardOrder n s).bundles = s.bundles ∧
    (discardOrder n s).freeTaken = s.freeTaken := by
  unfold discardOrder; (repeat' split) <;> simp

@[simp] theorem foldDiscard_keeps (os : List Order) (s : State) :
    (os.foldl (fun s o => discardOrder o.number s) s).pending = s.pending ∧
    (os.foldl (fun s o => discardOrder o.number s) s).pins = s.pins ∧
    (os.foldl (fun s o => discardOrder o.number s) s).reg = s.reg ∧
    (os.foldl (fun s o => discardOrder o.number s) s).lines = s.lines ∧
    (os.foldl (fun s o => discardOrder o.number s) s).setup = s.setup ∧
    (os.foldl (fun s o => discardOrder o.number s) s).store = s.store ∧
    (os.foldl (fun s o => discardOrder o.number s) s).entry = s.entry ∧
    (os.foldl (fun s o => discardOrder o.number s) s).callOutstanding = s.callOutstanding ∧
    (os.foldl (fun s o => discardOrder o.number s) s).carrier = s.carrier ∧
    (os.foldl (fun s o => discardOrder o.number s) s).verify = s.verify ∧
    (os.foldl (fun s o => discardOrder o.number s) s).disp = s.disp ∧
    (os.foldl (fun s o => discardOrder o.number s) s).bundles = s.bundles ∧
    (os.foldl (fun s o => discardOrder o.number s) s).freeTaken = s.freeTaken := by
  induction os generalizing s <;> simp_all

@[simp] theorem dropCarrierWork_keeps (s : State) :
    (dropCarrierWork s).pending = s.pending ∧ (dropCarrierWork s).pins = s.pins ∧ (dropCarrierWork s).reg = s.reg ∧
    (dropCarrierWork s).lines = s.lines ∧ (dropCarrierWork s).run = s.run ∧ (dropCarrierWork s).setup = s.setup ∧
    (dropCarrierWork s).store = s.store ∧ (dropCarrierWork s).entry = s.entry ∧ (dropCarrierWork s).track = s.track ∧
    (dropCarrierWork s).callOutstanding = s.callOutstanding ∧ (dropCarrierWork s).carrier = s.carrier ∧
    (dropCarrierWork s).verify = s.verify ∧ (dropCarrierWork s).disp = s.disp ∧
    (dropCarrierWork s).bundles = s.bundles ∧ (dropCarrierWork s).fault = s.fault ∧
    (dropCarrierWork s).freeTaken = s.freeTaken := by
  unfold dropCarrierWork; (repeat' split) <;> simp

@[simp] theorem enterHold_keeps (c : HoldCause) (s : State) :
    (enterHold c s).pending = s.pending ∧ (enterHold c s).pins = s.pins ∧ (enterHold c s).reg = s.reg ∧
    (enterHold c s).setup = s.setup ∧ (enterHold c s).store = s.store ∧ (enterHold c s).entry = s.entry ∧
    (enterHold c s).callOutstanding = s.callOutstanding ∧ (enterHold c s).verify = s.verify ∧
    (enterHold c s).disp = s.disp ∧ (enterHold c s).bundles = s.bundles ∧ (enterHold c s).freeTaken = s.freeTaken := by
  unfold enterHold; (repeat' split) <;> simp

@[simp] theorem holdOnReport_keeps (k : FaultKind) (c : HoldCause) (s : State) :
    (holdOnReport k c s).pending = s.pending ∧ (holdOnReport k c s).pins = s.pins ∧
    (holdOnReport k c s).reg = s.reg ∧ (holdOnReport k c s).setup = s.setup ∧ (holdOnReport k c s).store = s.store ∧
    (holdOnReport k c s).entry = s.entry ∧ (holdOnReport k c s).callOutstanding = s.callOutstanding ∧
    (holdOnReport k c s).verify = s.verify ∧ (holdOnReport k c s).disp = s.disp ∧
    (holdOnReport k c s).bundles = s.bundles ∧ (holdOnReport k c s).freeTaken = s.freeTaken := by
  simp [holdOnReport]

@[simp] theorem setPrintedCount_keeps (n : Nat) (s : State) :
    (setPrintedCount n s).pending = s.pending ∧ (setPrintedCount n s).pins = s.pins ∧
    (setPrintedCount n s).reg = s.reg ∧ (setPrintedCount n s).lines = s.lines ∧ (setPrintedCount n s).run = s.run ∧
    (setPrintedCount n s).setup = s.setup ∧ (setPrintedCount n s).store = s.store ∧
    (setPrintedCount n s).entry = s.entry ∧ (setPrintedCount n s).track = s.track ∧
    (setPrintedCount n s).callOutstanding = s.callOutstanding ∧ (setPrintedCount n s).verify = s.verify ∧
    (setPrintedCount n s).disp = s.disp ∧ (setPrintedCount n s).bundles = s.bundles ∧
    (setPrintedCount n s).fault = s.fault ∧ (setPrintedCount n s).link = s.link ∧
    (setPrintedCount n s).freeTaken = s.freeTaken := by
  simp [setPrintedCount]

@[simp] theorem reportPrinted_keeps (n : Nat) (s : State) :
    (reportPrinted n s).pending = s.pending ∧ (reportPrinted n s).pins = s.pins ∧ (reportPrinted n s).reg = s.reg ∧
    (reportPrinted n s).setup = s.setup ∧ (reportPrinted n s).store = s.store ∧ (reportPrinted n s).entry = s.entry ∧
    (reportPrinted n s).callOutstanding = s.callOutstanding ∧ (reportPrinted n s).verify = s.verify ∧
    (reportPrinted n s).disp = s.disp ∧ (reportPrinted n s).bundles = s.bundles ∧
    (reportPrinted n s).freeTaken = s.freeTaken := by
  unfold reportPrinted; (repeat' split) <;> simp

@[simp] theorem reprint_keeps (n p : Nat) (x : Piece) (s : State) :
    (reprint n p x s).pending = s.pending ∧ (reprint n p x s).pins = s.pins ∧ (reprint n p x s).reg = s.reg ∧
    (reprint n p x s).lines = s.lines ∧ (reprint n p x s).run = s.run ∧ (reprint n p x s).setup = s.setup ∧
    (reprint n p x s).store = s.store ∧ (reprint n p x s).entry = s.entry ∧
    (reprint n p x s).callOutstanding = s.callOutstanding ∧ (reprint n p x s).verify = s.verify ∧
    (reprint n p x s).disp = s.disp ∧ (reprint n p x s).bundles = s.bundles ∧ (reprint n p x s).fault = s.fault ∧
    (reprint n p x s).freeTaken = s.freeTaken := by
  simp [reprint]

@[simp] theorem voidCarrier_keeps (n p : Nat) (s : State) :
    (voidCarrier n p s).pending = s.pending ∧ (voidCarrier n p s).pins = s.pins ∧ (voidCarrier n p s).reg = s.reg ∧
    (voidCarrier n p s).lines = s.lines ∧ (voidCarrier n p s).setup = s.setup ∧ (voidCarrier n p s).store = s.store ∧
    (voidCarrier n p s).entry = s.entry ∧ (voidCarrier n p s).callOutstanding = s.callOutstanding ∧
    (voidCarrier n p s).verify = s.verify ∧ (voidCarrier n p s).disp = s.disp ∧
    (voidCarrier n p s).bundles = s.bundles ∧ (voidCarrier n p s).freeTaken = s.freeTaken := by
  simp [voidCarrier]

@[simp] theorem spoilIssued_keeps (n : Nat) (s : State) :
    (spoilIssued n s).pending = s.pending ∧ (spoilIssued n s).pins = s.pins ∧ (spoilIssued n s).reg = s.reg ∧
    (spoilIssued n s).lines = s.lines ∧ (spoilIssued n s).setup = s.setup ∧ (spoilIssued n s).store = s.store ∧
    (spoilIssued n s).entry = s.entry ∧ (spoilIssued n s).callOutstanding = s.callOutstanding ∧
    (spoilIssued n s).verify = s.verify ∧ (spoilIssued n s).disp = s.disp ∧ (spoilIssued n s).bundles = s.bundles ∧
    (spoilIssued n s).freeTaken = s.freeTaken := by
  unfold spoilIssued; (repeat' split) <;> simp

@[simp] theorem reportSpoiled_keeps (n : Nat) (s : State) :
    (reportSpoiled n s).pending = s.pending ∧ (reportSpoiled n s).pins = s.pins ∧ (reportSpoiled n s).reg = s.reg ∧
    (reportSpoiled n s).lines = s.lines ∧ (reportSpoiled n s).setup = s.setup ∧ (reportSpoiled n s).store = s.store ∧
    (reportSpoiled n s).entry = s.entry ∧ (reportSpoiled n s).callOutstanding = s.callOutstanding ∧
    (reportSpoiled n s).verify = s.verify ∧ (reportSpoiled n s).disp = s.disp ∧
    (reportSpoiled n s).bundles = s.bundles ∧ (reportSpoiled n s).freeTaken = s.freeTaken := by
  unfold reportSpoiled; (repeat' split) <;> simp

@[simp] theorem reportWithdrawn_keeps (n : Nat) (s : State) :
    (reportWithdrawn n s).pending = s.pending ∧ (reportWithdrawn n s).pins = s.pins ∧
    (reportWithdrawn n s).reg = s.reg ∧ (reportWithdrawn n s).setup = s.setup ∧
    (reportWithdrawn n s).store = s.store ∧ (reportWithdrawn n s).entry = s.entry ∧
    (reportWithdrawn n s).callOutstanding = s.callOutstanding ∧ (reportWithdrawn n s).verify = s.verify ∧
    (reportWithdrawn n s).disp = s.disp ∧ (reportWithdrawn n s).bundles = s.bundles ∧
    (reportWithdrawn n s).freeTaken = s.freeTaken := by
  unfold reportWithdrawn; (repeat' split) <;> simp

@[simp] theorem reportLate_keeps (n : Nat) (s : State) :
    (reportLate n s).pending = s.pending ∧ (reportLate n s).pins = s.pins ∧ (reportLate n s).reg = s.reg ∧
    (reportLate n s).lines = s.lines ∧ (reportLate n s).setup = s.setup ∧ (reportLate n s).store = s.store ∧
    (reportLate n s).entry = s.entry ∧ (reportLate n s).track = s.track ∧
    (reportLate n s).callOutstanding = s.callOutstanding ∧ (reportLate n s).verify = s.verify ∧
    (reportLate n s).disp = s.disp ∧ (reportLate n s).bundles = s.bundles ∧ (reportLate n s).freeTaken = s.freeTaken := by
  unfold reportLate; (repeat' split) <;> simp

@[simp] theorem reportPurged_keeps (s : State) :
    (reportPurged s).pending = s.pending ∧ (reportPurged s).pins = s.pins ∧ (reportPurged s).reg = s.reg ∧
    (reportPurged s).lines = s.lines ∧ (reportPurged s).setup = s.setup ∧ (reportPurged s).store = s.store ∧
    (reportPurged s).entry = s.entry ∧ (reportPurged s).track = s.track ∧
    (reportPurged s).callOutstanding = s.callOutstanding ∧ (reportPurged s).disp = s.disp ∧
    (reportPurged s).bundles = s.bundles ∧ (reportPurged s).freeTaken = s.freeTaken := by
  unfold reportPurged; (repeat' split) <;> simp

@[simp] theorem takeHead_keeps (s : State) :
    (takeHead s).pending = s.pending ∧ (takeHead s).pins = s.pins ∧ (takeHead s).reg = s.reg ∧
    (takeHead s).lines = s.lines ∧ (takeHead s).run = s.run ∧ (takeHead s).setup = s.setup ∧
    (takeHead s).store = s.store ∧ (takeHead s).entry = s.entry ∧ (takeHead s).track = s.track ∧
    (takeHead s).callOutstanding = s.callOutstanding ∧ (takeHead s).verify = s.verify ∧ (takeHead s).disp = s.disp ∧
    (takeHead s).bundles = s.bundles ∧ (takeHead s).fault = s.fault ∧ (takeHead s).link = s.link ∧
    (takeHead s).freeTaken = s.freeTaken := by
  simp [takeHead]

@[simp] theorem dumpPhase_keeps (s : State) :
    (dumpPhase s).pending = s.pending ∧ (dumpPhase s).pins = s.pins ∧ (dumpPhase s).reg = s.reg ∧
    (dumpPhase s).run = s.run ∧ (dumpPhase s).setup = s.setup ∧ (dumpPhase s).store = s.store ∧
    (dumpPhase s).entry = s.entry ∧ (dumpPhase s).track = s.track ∧
    (dumpPhase s).callOutstanding = s.callOutstanding ∧ (dumpPhase s).verify = s.verify ∧
    (dumpPhase s).disp = s.disp ∧ (dumpPhase s).bundles = s.bundles ∧ (dumpPhase s).fault = s.fault ∧
    (dumpPhase s).link = s.link ∧ (dumpPhase s).freeTaken = s.freeTaken := by
  unfold dumpPhase; (repeat' split) <;> simp

@[simp] theorem giveUpOrder_keeps (p n : Nat) (o : Order) (s : State) :
    (giveUpOrder p n o s).pending = s.pending ∧ (giveUpOrder p n o s).pins = s.pins ∧
    (giveUpOrder p n o s).reg = s.reg ∧ (giveUpOrder p n o s).lines = s.lines ∧ (giveUpOrder p n o s).run = s.run ∧
    (giveUpOrder p n o s).setup = s.setup ∧ (giveUpOrder p n o s).store = s.store ∧
    (giveUpOrder p n o s).entry = s.entry ∧ (giveUpOrder p n o s).callOutstanding = s.callOutstanding ∧
    (giveUpOrder p n o s).verify = s.verify ∧ (giveUpOrder p n o s).disp = s.disp ∧
    (giveUpOrder p n o s).bundles = s.bundles ∧ (giveUpOrder p n o s).fault = s.fault ∧
    (giveUpOrder p n o s).freeTaken = s.freeTaken := by
  unfold giveUpOrder; dsimp only; (repeat' split) <;> simp

@[simp] theorem starvePiece_keeps (p : Nat) (s : State) :
    (starvePiece p s).pending = s.pending ∧ (starvePiece p s).pins = s.pins ∧ (starvePiece p s).reg = s.reg ∧
    (starvePiece p s).lines = s.lines ∧ (starvePiece p s).setup = s.setup ∧ (starvePiece p s).store = s.store ∧
    (starvePiece p s).entry = s.entry ∧ (starvePiece p s).callOutstanding = s.callOutstanding ∧
    (starvePiece p s).carrier = s.carrier ∧ (starvePiece p s).verify = s.verify ∧ (starvePiece p s).disp = s.disp ∧
    (starvePiece p s).bundles = s.bundles ∧ (starvePiece p s).freeTaken = s.freeTaken := by
  simp [starvePiece]

@[simp] theorem starveAtApply_keeps (p : Nat) (s : State) :
    (starveAtApply p s).pending = s.pending ∧ (starveAtApply p s).pins = s.pins ∧ (starveAtApply p s).reg = s.reg ∧
    (starveAtApply p s).lines = s.lines ∧ (starveAtApply p s).setup = s.setup ∧ (starveAtApply p s).store = s.store ∧
    (starveAtApply p s).entry = s.entry ∧ (starveAtApply p s).callOutstanding = s.callOutstanding ∧
    (starveAtApply p s).verify = s.verify ∧ (starveAtApply p s).disp = s.disp ∧
    (starveAtApply p s).bundles = s.bundles ∧ (starveAtApply p s).freeTaken = s.freeTaken := by
  unfold starveAtApply; dsimp only; (repeat' split) <;> simp

@[simp] theorem applyCarrier_keeps (p n : Nat) (s : State) :
    (applyCarrier p n s).pending = s.pending ∧ (applyCarrier p n s).pins = s.pins ∧
    (applyCarrier p n s).reg = s.reg ∧ (applyCarrier p n s).run = s.run ∧ (applyCarrier p n s).setup = s.setup ∧
    (applyCarrier p n s).store = s.store ∧ (applyCarrier p n s).entry = s.entry ∧
    (applyCarrier p n s).callOutstanding = s.callOutstanding ∧ (applyCarrier p n s).verify = s.verify ∧
    (applyCarrier p n s).disp = s.disp ∧ (applyCarrier p n s).bundles = s.bundles ∧
    (applyCarrier p n s).fault = s.fault ∧ (applyCarrier p n s).link = s.link ∧
    (applyCarrier p n s).freeTaken = s.freeTaken := by
  simp [applyCarrier]

@[simp] theorem applyPhase_keeps (s : State) :
    (applyPhase s).pending = s.pending ∧ (applyPhase s).pins = s.pins ∧ (applyPhase s).reg = s.reg ∧
    (applyPhase s).setup = s.setup ∧ (applyPhase s).store = s.store ∧ (applyPhase s).entry = s.entry ∧
    (applyPhase s).callOutstanding = s.callOutstanding ∧ (applyPhase s).verify = s.verify ∧
    (applyPhase s).disp = s.disp ∧ (applyPhase s).bundles = s.bundles ∧ (applyPhase s).freeTaken = s.freeTaken := by
  unfold applyPhase; dsimp only; (repeat' split) <;> simp

@[simp] theorem settleCarrier_keeps (s : State) :
    (settleCarrier s).pending = s.pending ∧ (settleCarrier s).pins = s.pins ∧ (settleCarrier s).reg = s.reg ∧
    (settleCarrier s).lines = s.lines ∧ (settleCarrier s).setup = s.setup ∧ (settleCarrier s).store = s.store ∧
    (settleCarrier s).entry = s.entry ∧ (settleCarrier s).callOutstanding = s.callOutstanding ∧
    (settleCarrier s).verify = s.verify ∧ (settleCarrier s).disp = s.disp ∧ (settleCarrier s).bundles = s.bundles ∧
    (settleCarrier s).freeTaken = s.freeTaken := by
  unfold settleCarrier; dsimp only; (repeat' split) <;> simp

end Sys2Proof.Machine
end

