-- ==== Sys2Proof/Laws/Disposition.lean ====
section
/-! SUPPORT. What each operation of the disposition unit leaves unchanged: one lemma for each, its conjuncts simp rules. -/

namespace Sys2Proof.Machine

@[simp] theorem sendSuspect_keeps (r : Reject) (s : State) :
    (sendSuspect r s).pending = s.pending ∧ (sendSuspect r s).pins = s.pins ∧ (sendSuspect r s).reg = s.reg ∧
    (sendSuspect r s).lines = s.lines ∧ (sendSuspect r s).run = s.run ∧ (sendSuspect r s).setup = s.setup ∧
    (sendSuspect r s).store = s.store ∧ (sendSuspect r s).entry = s.entry ∧ (sendSuspect r s).track = s.track ∧
    (sendSuspect r s).callOutstanding = s.callOutstanding ∧ (sendSuspect r s).carrier = s.carrier ∧
    (sendSuspect r s).verify = s.verify ∧ (sendSuspect r s).disp = s.disp ∧ (sendSuspect r s).fault = s.fault := by
  simp [sendSuspect]

@[simp] theorem giveUpProof_keeps (key : Nat) (s : State) :
    (giveUpProof key s).pending = s.pending ∧ (giveUpProof key s).pins = s.pins ∧ (giveUpProof key s).reg = s.reg ∧
    (giveUpProof key s).lines = s.lines ∧ (giveUpProof key s).setup = s.setup ∧ (giveUpProof key s).track = s.track ∧
    (giveUpProof key s).callOutstanding = s.callOutstanding ∧ (giveUpProof key s).carrier = s.carrier ∧
    (giveUpProof key s).verify = s.verify ∧ (giveUpProof key s).disp = s.disp ∧ (giveUpProof key s).fault = s.fault := by
  unfold giveUpProof; (repeat' split) <;> simp

@[simp] theorem suspectReject_keeps (r : Option Reject) (s : State) :
    (suspectReject r s).pending = s.pending ∧ (suspectReject r s).pins = s.pins ∧ (suspectReject r s).reg = s.reg ∧
    (suspectReject r s).lines = s.lines ∧ (suspectReject r s).setup = s.setup ∧ (suspectReject r s).track = s.track ∧
    (suspectReject r s).callOutstanding = s.callOutstanding ∧ (suspectReject r s).carrier = s.carrier ∧
    (suspectReject r s).verify = s.verify ∧ (suspectReject r s).disp = s.disp ∧ (suspectReject r s).fault = s.fault := by
  unfold suspectReject; (repeat' split) <;> simp

@[simp] theorem expireConfirm_keeps (c : Confirm) (s : State) :
    (expireConfirm c s).pending = s.pending ∧ (expireConfirm c s).pins = s.pins ∧ (expireConfirm c s).reg = s.reg ∧
    (expireConfirm c s).lines = s.lines ∧ (expireConfirm c s).setup = s.setup ∧ (expireConfirm c s).track = s.track ∧
    (expireConfirm c s).callOutstanding = s.callOutstanding ∧ (expireConfirm c s).carrier = s.carrier ∧
    (expireConfirm c s).verify = s.verify ∧ (expireConfirm c s).disp = s.disp := by
  simp [expireConfirm]

@[simp] theorem clearGateDue_keeps (g : Nat) (s : State) :
    (clearGateDue g s).pending = s.pending ∧ (clearGateDue g s).pins = s.pins ∧ (clearGateDue g s).reg = s.reg ∧
    (clearGateDue g s).lines = s.lines ∧ (clearGateDue g s).setup = s.setup ∧ (clearGateDue g s).track = s.track ∧
    (clearGateDue g s).callOutstanding = s.callOutstanding ∧ (clearGateDue g s).carrier = s.carrier ∧
    (clearGateDue g s).verify = s.verify := by
  unfold clearGateDue; (repeat' split) <;> simp

@[simp] theorem goodPiece_keeps (x : Piece) (s : State) :
    (goodPiece x s).pending = s.pending ∧ (goodPiece x s).pins = s.pins ∧ (goodPiece x s).reg = s.reg ∧
    (goodPiece x s).lines = s.lines ∧ (goodPiece x s).setup = s.setup ∧ (goodPiece x s).track = s.track ∧
    (goodPiece x s).callOutstanding = s.callOutstanding ∧ (goodPiece x s).carrier = s.carrier ∧
    (goodPiece x s).verify = s.verify ∧ (goodPiece x s).disp = s.disp ∧ (goodPiece x s).fault = s.fault := by
  simp [goodPiece]

@[simp] theorem placeRejected_keeps (x : Piece) (s : State) :
    (placeRejected x s).pending = s.pending ∧ (placeRejected x s).pins = s.pins ∧ (placeRejected x s).reg = s.reg ∧
    (placeRejected x s).lines = s.lines ∧ (placeRejected x s).setup = s.setup ∧ (placeRejected x s).track = s.track ∧
    (placeRejected x s).callOutstanding = s.callOutstanding ∧ (placeRejected x s).carrier = s.carrier ∧
    (placeRejected x s).verify = s.verify ∧ (placeRejected x s).disp = s.disp ∧ (placeRejected x s).fault = s.fault := by
  unfold placeRejected; dsimp only; (repeat' split) <;> simp

@[simp] theorem rejectPiece_keeps (x : Piece) (s : State) :
    (rejectPiece x s).pending = s.pending ∧ (rejectPiece x s).pins = s.pins ∧ (rejectPiece x s).reg = s.reg ∧
    (rejectPiece x s).lines = s.lines ∧ (rejectPiece x s).setup = s.setup ∧ (rejectPiece x s).track = s.track ∧
    (rejectPiece x s).callOutstanding = s.callOutstanding ∧ (rejectPiece x s).carrier = s.carrier ∧
    (rejectPiece x s).verify = s.verify ∧ (rejectPiece x s).fault = s.fault := by
  simp [rejectPiece]

@[simp] theorem decidePiece_keeps (x : Piece) (s : State) :
    (decidePiece x s).pending = s.pending ∧ (decidePiece x s).pins = s.pins ∧ (decidePiece x s).reg = s.reg ∧
    (decidePiece x s).lines = s.lines ∧ (decidePiece x s).setup = s.setup ∧ (decidePiece x s).track = s.track ∧
    (decidePiece x s).callOutstanding = s.callOutstanding ∧ (decidePiece x s).carrier = s.carrier ∧
    (decidePiece x s).verify = s.verify ∧ (decidePiece x s).fault = s.fault := by
  unfold decidePiece; (repeat' split) <;> simp

@[simp] theorem takeArrival_keeps (s : State) :
    (takeArrival s).pending = s.pending ∧ (takeArrival s).pins = s.pins ∧ (takeArrival s).reg = s.reg ∧
    (takeArrival s).lines = s.lines ∧ (takeArrival s).setup = s.setup ∧
    (takeArrival s).callOutstanding = s.callOutstanding ∧ (takeArrival s).carrier = s.carrier ∧
    (takeArrival s).verify = s.verify ∧ (takeArrival s).fault = s.fault := by
  unfold takeArrival; dsimp only; (repeat' split) <;> simp

@[simp] theorem foldExpire_keeps (cs : List Confirm) (s : State) :
    (cs.foldl (fun s c => expireConfirm c s) s).pending = s.pending ∧
    (cs.foldl (fun s c => expireConfirm c s) s).pins = s.pins ∧
    (cs.foldl (fun s c => expireConfirm c s) s).reg = s.reg ∧
    (cs.foldl (fun s c => expireConfirm c s) s).lines = s.lines ∧
    (cs.foldl (fun s c => expireConfirm c s) s).setup = s.setup ∧
    (cs.foldl (fun s c => expireConfirm c s) s).track = s.track ∧
    (cs.foldl (fun s c => expireConfirm c s) s).callOutstanding = s.callOutstanding ∧
    (cs.foldl (fun s c => expireConfirm c s) s).carrier = s.carrier ∧
    (cs.foldl (fun s c => expireConfirm c s) s).verify = s.verify ∧
    (cs.foldl (fun s c => expireConfirm c s) s).disp = s.disp := by
  induction cs generalizing s <;> simp_all

@[simp] theorem ageConfirms_keeps (s : State) :
    (ageConfirms s).pending = s.pending ∧ (ageConfirms s).pins = s.pins ∧ (ageConfirms s).reg = s.reg ∧
    (ageConfirms s).lines = s.lines ∧ (ageConfirms s).setup = s.setup ∧ (ageConfirms s).track = s.track ∧
    (ageConfirms s).callOutstanding = s.callOutstanding ∧ (ageConfirms s).carrier = s.carrier ∧
    (ageConfirms s).verify = s.verify := by
  simp [ageConfirms]

@[simp] theorem dispositionBoundary_keeps (s : State) :
    (dispositionBoundary s).pending = s.pending ∧ (dispositionBoundary s).pins = s.pins ∧
    (dispositionBoundary s).reg = s.reg ∧ (dispositionBoundary s).lines = s.lines ∧
    (dispositionBoundary s).setup = s.setup ∧ (dispositionBoundary s).callOutstanding = s.callOutstanding ∧
    (dispositionBoundary s).carrier = s.carrier ∧ (dispositionBoundary s).verify = s.verify := by
  simp [dispositionBoundary]

@[simp] theorem gatePhase_keeps (s : State) :
    (gatePhase s).pending = s.pending ∧ (gatePhase s).pins = s.pins ∧ (gatePhase s).reg = s.reg ∧
    (gatePhase s).run = s.run ∧ (gatePhase s).setup = s.setup ∧ (gatePhase s).store = s.store ∧
    (gatePhase s).entry = s.entry ∧ (gatePhase s).track = s.track ∧
    (gatePhase s).callOutstanding = s.callOutstanding ∧ (gatePhase s).carrier = s.carrier ∧
    (gatePhase s).verify = s.verify ∧ (gatePhase s).bundles = s.bundles ∧ (gatePhase s).fault = s.fault ∧
    (gatePhase s).link = s.link ∧ (gatePhase s).freeTaken = s.freeTaken := by
  unfold gatePhase; (repeat' split) <;> simp

@[simp] theorem confirmProof_keeps (r : Option Reject) (s : State) :
    (confirmProof r s).pending = s.pending ∧ (confirmProof r s).pins = s.pins ∧ (confirmProof r s).reg = s.reg ∧
    (confirmProof r s).lines = s.lines ∧ (confirmProof r s).run = s.run ∧ (confirmProof r s).setup = s.setup ∧
    (confirmProof r s).store = s.store ∧ (confirmProof r s).entry = s.entry ∧ (confirmProof r s).track = s.track ∧
    (confirmProof r s).callOutstanding = s.callOutstanding ∧ (confirmProof r s).carrier = s.carrier ∧
    (confirmProof r s).verify = s.verify ∧ (confirmProof r s).disp = s.disp ∧
    (confirmProof r s).bundles = s.bundles ∧ (confirmProof r s).fault = s.fault ∧
    (confirmProof r s).freeTaken = s.freeTaken := by
  unfold confirmProof; (repeat' split) <;> simp

@[simp] theorem takeConfirm_keeps (s : State) :
    (takeConfirm s).pending = s.pending ∧ (takeConfirm s).pins = s.pins ∧ (takeConfirm s).reg = s.reg ∧
    (takeConfirm s).lines = s.lines ∧ (takeConfirm s).setup = s.setup ∧ (takeConfirm s).store = s.store ∧
    (takeConfirm s).entry = s.entry ∧ (takeConfirm s).track = s.track ∧
    (takeConfirm s).callOutstanding = s.callOutstanding ∧ (takeConfirm s).carrier = s.carrier ∧
    (takeConfirm s).verify = s.verify ∧ (takeConfirm s).bundles = s.bundles ∧ (takeConfirm s).freeTaken = s.freeTaken := by
  unfold takeConfirm; (repeat' split) <;> simp

@[simp] theorem expireOldest_keeps (s : State) :
    (expireOldest s).pending = s.pending ∧ (expireOldest s).pins = s.pins ∧ (expireOldest s).reg = s.reg ∧
    (expireOldest s).lines = s.lines ∧ (expireOldest s).setup = s.setup ∧ (expireOldest s).track = s.track ∧
    (expireOldest s).callOutstanding = s.callOutstanding ∧ (expireOldest s).carrier = s.carrier ∧
    (expireOldest s).verify = s.verify := by
  unfold expireOldest; (repeat' split) <;> simp

end Sys2Proof.Machine
end

