-- ==== Sys2Proof/Laws/Entry.lean ====
section
/-! SUPPORT. What each operation of the entry unit leaves unchanged: one lemma for each, its conjuncts simp rules. -/

namespace Sys2Proof.Machine

@[simp] theorem createBundle_keeps (n : Nat) (h : Fin 16) (s : State) :
    (createBundle n h s).pending = s.pending ∧ (createBundle n h s).pins = s.pins ∧
    (createBundle n h s).reg = s.reg ∧ (createBundle n h s).lines = s.lines ∧ (createBundle n h s).run = s.run ∧
    (createBundle n h s).setup = s.setup ∧ (createBundle n h s).store = s.store ∧
    (createBundle n h s).entry = s.entry ∧ (createBundle n h s).track = s.track ∧
    (createBundle n h s).callOutstanding = s.callOutstanding ∧ (createBundle n h s).carrier = s.carrier ∧
    (createBundle n h s).verify = s.verify ∧ (createBundle n h s).disp = s.disp ∧
    (createBundle n h s).fault = s.fault ∧ (createBundle n h s).link = s.link ∧
    (createBundle n h s).freeTaken = s.freeTaken := by
  simp [createBundle]

@[simp] theorem setResultOfEntry_keeps (r : EntryResult) (b : Option Nat) (s : State) :
    (setResultOfEntry r b s).pending = s.pending ∧ (setResultOfEntry r b s).pins = s.pins ∧
    (setResultOfEntry r b s).reg = s.reg ∧ (setResultOfEntry r b s).lines = s.lines ∧
    (setResultOfEntry r b s).run = s.run ∧ (setResultOfEntry r b s).setup = s.setup ∧
    (setResultOfEntry r b s).store = s.store ∧ (setResultOfEntry r b s).track = s.track ∧
    (setResultOfEntry r b s).callOutstanding = s.callOutstanding ∧ (setResultOfEntry r b s).carrier = s.carrier ∧
    (setResultOfEntry r b s).verify = s.verify ∧ (setResultOfEntry r b s).disp = s.disp ∧
    (setResultOfEntry r b s).bundles = s.bundles ∧ (setResultOfEntry r b s).fault = s.fault ∧
    (setResultOfEntry r b s).link = s.link ∧ (setResultOfEntry r b s).freeTaken = s.freeTaken := by
  simp [setResultOfEntry]

@[simp] theorem leaveEmpty_keeps (k : Option Nat) (r : EntryResult) (b : Option Nat) (s : State) :
    (leaveEmpty k r b s).pending = s.pending ∧ (leaveEmpty k r b s).pins = s.pins ∧
    (leaveEmpty k r b s).reg = s.reg ∧ (leaveEmpty k r b s).lines = s.lines ∧ (leaveEmpty k r b s).run = s.run ∧
    (leaveEmpty k r b s).setup = s.setup ∧ (leaveEmpty k r b s).store = s.store ∧
    (leaveEmpty k r b s).callOutstanding = s.callOutstanding ∧ (leaveEmpty k r b s).carrier = s.carrier ∧
    (leaveEmpty k r b s).verify = s.verify ∧ (leaveEmpty k r b s).disp = s.disp ∧
    (leaveEmpty k r b s).bundles = s.bundles ∧ (leaveEmpty k r b s).fault = s.fault ∧
    (leaveEmpty k r b s).link = s.link ∧ (leaveEmpty k r b s).freeTaken = s.freeTaken := by
  simp [leaveEmpty]

@[simp] theorem testStarvation_keeps (s : State) :
    (testStarvation s).pending = s.pending ∧ (testStarvation s).pins = s.pins ∧ (testStarvation s).reg = s.reg ∧
    (testStarvation s).lines = s.lines ∧ (testStarvation s).setup = s.setup ∧ (testStarvation s).store = s.store ∧
    (testStarvation s).track = s.track ∧ (testStarvation s).callOutstanding = s.callOutstanding ∧
    (testStarvation s).carrier = s.carrier ∧ (testStarvation s).verify = s.verify ∧
    (testStarvation s).disp = s.disp ∧ (testStarvation s).bundles = s.bundles ∧
    (testStarvation s).freeTaken = s.freeTaken := by
  unfold testStarvation; (repeat' split) <;> simp

@[simp] theorem testItems_keeps (r : Record) (s : State) :
    (testItems r s).pending = s.pending ∧ (testItems r s).pins = s.pins ∧ (testItems r s).reg = s.reg ∧
    (testItems r s).lines = s.lines ∧ (testItems r s).setup = s.setup ∧ (testItems r s).store = s.store ∧
    (testItems r s).track = s.track ∧ (testItems r s).callOutstanding = s.callOutstanding ∧
    (testItems r s).carrier = s.carrier ∧ (testItems r s).verify = s.verify ∧ (testItems r s).disp = s.disp ∧
    (testItems r s).bundles = s.bundles ∧ (testItems r s).freeTaken = s.freeTaken := by
  unfold testItems; (repeat' split) <;> simp

@[simp] theorem handOver_keeps (x : SourceList) (r : Record) (s : State) :
    (handOver x r s).pending = s.pending ∧ (handOver x r s).pins = s.pins ∧ (handOver x r s).reg = s.reg ∧
    (handOver x r s).lines = s.lines ∧ (handOver x r s).run = s.run ∧ (handOver x r s).setup = s.setup ∧
    (handOver x r s).entry = s.entry ∧ (handOver x r s).track = s.track ∧
    (handOver x r s).callOutstanding = s.callOutstanding ∧ (handOver x r s).carrier = s.carrier ∧
    (handOver x r s).verify = s.verify ∧ (handOver x r s).disp = s.disp ∧ (handOver x r s).fault = s.fault ∧
    (handOver x r s).link = s.link ∧ (handOver x r s).freeTaken = s.freeTaken := by
  unfold handOver; dsimp only; (repeat' split) <;> simp

@[simp] theorem enterBundle_keeps (r : Record) (b : Option (Fin 16)) (s : State) :
    (enterBundle r b s).pending = s.pending ∧ (enterBundle r b s).pins = s.pins ∧ (enterBundle r b s).reg = s.reg ∧
    (enterBundle r b s).lines = s.lines ∧ (enterBundle r b s).run = s.run ∧ (enterBundle r b s).setup = s.setup ∧
    (enterBundle r b s).store = s.store ∧ (enterBundle r b s).entry = s.entry ∧ (enterBundle r b s).track = s.track ∧
    (enterBundle r b s).callOutstanding = s.callOutstanding ∧ (enterBundle r b s).carrier = s.carrier ∧
    (enterBundle r b s).verify = s.verify ∧ (enterBundle r b s).disp = s.disp ∧ (enterBundle r b s).fault = s.fault ∧
    (enterBundle r b s).link = s.link ∧ (enterBundle r b s).freeTaken = s.freeTaken := by
  unfold enterBundle; dsimp only; (repeat' split) <;> simp

@[simp] theorem makePiece_keeps (x : Piece) (s : State) :
    (makePiece x s).pending = s.pending ∧ (makePiece x s).pins = s.pins ∧ (makePiece x s).reg = s.reg ∧
    (makePiece x s).lines = s.lines ∧ (makePiece x s).run = s.run ∧ (makePiece x s).setup = s.setup ∧
    (makePiece x s).store = s.store ∧ (makePiece x s).callOutstanding = s.callOutstanding ∧
    (makePiece x s).carrier = s.carrier ∧ (makePiece x s).verify = s.verify ∧ (makePiece x s).disp = s.disp ∧
    (makePiece x s).bundles = s.bundles ∧ (makePiece x s).fault = s.fault ∧ (makePiece x s).link = s.link ∧
    (makePiece x s).freeTaken = s.freeTaken := by
  simp [makePiece]

@[simp] theorem enterRecord_keeps (x : SourceList) (r : Record) (l : List PlanPair) (b : Option (Fin 16)) (s : State) :
    (enterRecord x r l b s).pending = s.pending ∧ (enterRecord x r l b s).pins = s.pins ∧
    (enterRecord x r l b s).reg = s.reg ∧ (enterRecord x r l b s).lines = s.lines ∧
    (enterRecord x r l b s).run = s.run ∧ (enterRecord x r l b s).setup = s.setup ∧
    (enterRecord x r l b s).callOutstanding = s.callOutstanding ∧ (enterRecord x r l b s).verify = s.verify ∧
    (enterRecord x r l b s).disp = s.disp ∧ (enterRecord x r l b s).fault = s.fault ∧
    (enterRecord x r l b s).freeTaken = s.freeTaken := by
  simp [enterRecord]

@[simp] theorem checkBay_keeps (x : SourceList) (r : Record) (l : List PlanPair) (s : State) :
    (checkBay x r l s).pending = s.pending ∧ (checkBay x r l s).pins = s.pins ∧ (checkBay x r l s).reg = s.reg ∧
    (checkBay x r l s).lines = s.lines ∧ (checkBay x r l s).run = s.run ∧ (checkBay x r l s).setup = s.setup ∧
    (checkBay x r l s).callOutstanding = s.callOutstanding ∧ (checkBay x r l s).verify = s.verify ∧
    (checkBay x r l s).disp = s.disp ∧ (checkBay x r l s).fault = s.fault ∧
    (checkBay x r l s).freeTaken = s.freeTaken := by
  unfold checkBay; (repeat' split) <;> simp

@[simp] theorem checkItems_keeps (x : SourceList) (r : Record) (s : State) :
    (checkItems x r s).pending = s.pending ∧ (checkItems x r s).pins = s.pins ∧ (checkItems x r s).reg = s.reg ∧
    (checkItems x r s).lines = s.lines ∧ (checkItems x r s).setup = s.setup ∧
    (checkItems x r s).callOutstanding = s.callOutstanding ∧ (checkItems x r s).verify = s.verify ∧
    (checkItems x r s).disp = s.disp ∧ (checkItems x r s).freeTaken = s.freeTaken := by
  unfold checkItems; (repeat' split) <;> simp

@[simp] theorem chooseRecord_keeps (s : State) :
    (chooseRecord s).pending = s.pending ∧ (chooseRecord s).pins = s.pins ∧ (chooseRecord s).reg = s.reg ∧
    (chooseRecord s).lines = s.lines ∧ (chooseRecord s).setup = s.setup ∧
    (chooseRecord s).callOutstanding = s.callOutstanding ∧ (chooseRecord s).verify = s.verify ∧
    (chooseRecord s).disp = s.disp ∧ (chooseRecord s).freeTaken = s.freeTaken := by
  unfold chooseRecord; dsimp only; (repeat' split) <;> simp

@[simp] theorem entryEvent_keeps (s : State) :
    (entryEvent s).pending = s.pending ∧ (entryEvent s).pins = s.pins ∧ (entryEvent s).reg = s.reg ∧
    (entryEvent s).lines = s.lines ∧ (entryEvent s).setup = s.setup ∧
    (entryEvent s).callOutstanding = s.callOutstanding ∧ (entryEvent s).verify = s.verify ∧
    (entryEvent s).disp = s.disp ∧ (entryEvent s).freeTaken = s.freeTaken := by
  unfold entryEvent; (repeat' split) <;> simp

end Sys2Proof.Machine
end

