-- ==== Sys2Proof/Laws/Feed.lean ====
section
/-! SUPPORT. What each operation of the feed station unit leaves unchanged: one lemma for each, its conjuncts simp rules. -/

namespace Sys2Proof.Machine

@[simp] theorem callStation_keeps (i : Fin 12) (e : Station) (s : State) :
    (callStation i e s).pending = s.pending ∧ (callStation i e s).pins = s.pins ∧ (callStation i e s).reg = s.reg ∧
    (callStation i e s).run = s.run ∧ (callStation i e s).setup = s.setup ∧ (callStation i e s).store = s.store ∧
    (callStation i e s).entry = s.entry ∧ (callStation i e s).track = s.track ∧
    (callStation i e s).carrier = s.carrier ∧ (callStation i e s).verify = s.verify ∧
    (callStation i e s).disp = s.disp ∧ (callStation i e s).bundles = s.bundles ∧
    (callStation i e s).fault = s.fault ∧ (callStation i e s).link = s.link ∧
    (callStation i e s).freeTaken = s.freeTaken := by
  simp [callStation]

@[simp] theorem callPhase_keeps (i : Fin 12) (e : Station) (s : State) :
    (callPhase i e s).pending = s.pending ∧ (callPhase i e s).pins = s.pins ∧ (callPhase i e s).reg = s.reg ∧
    (callPhase i e s).run = s.run ∧ (callPhase i e s).setup = s.setup ∧ (callPhase i e s).store = s.store ∧
    (callPhase i e s).entry = s.entry ∧ (callPhase i e s).track = s.track ∧ (callPhase i e s).carrier = s.carrier ∧
    (callPhase i e s).verify = s.verify ∧ (callPhase i e s).disp = s.disp ∧ (callPhase i e s).bundles = s.bundles ∧
    (callPhase i e s).fault = s.fault ∧ (callPhase i e s).link = s.link ∧ (callPhase i e s).freeTaken = s.freeTaken := by
  unfold callPhase; (repeat' split) <;> simp

@[simp] theorem readCalled_keeps (i : Fin 12) (p : Nat) (s : State) :
    (readCalled i p s).pending = s.pending ∧ (readCalled i p s).pins = s.pins ∧ (readCalled i p s).reg = s.reg ∧
    (readCalled i p s).lines = s.lines ∧ (readCalled i p s).setup = s.setup ∧ (readCalled i p s).store = s.store ∧
    (readCalled i p s).entry = s.entry ∧ (readCalled i p s).callOutstanding = s.callOutstanding ∧
    (readCalled i p s).carrier = s.carrier ∧ (readCalled i p s).verify = s.verify ∧
    (readCalled i p s).disp = s.disp ∧ (readCalled i p s).bundles = s.bundles ∧
    (readCalled i p s).freeTaken = s.freeTaken := by
  unfold readCalled; (repeat' split) <;> simp

@[simp] theorem missUncalled_keeps (i : Fin 12) (p : Nat) (s : State) :
    (missUncalled i p s).pending = s.pending ∧ (missUncalled i p s).pins = s.pins ∧
    (missUncalled i p s).reg = s.reg ∧ (missUncalled i p s).lines = s.lines ∧ (missUncalled i p s).setup = s.setup ∧
    (missUncalled i p s).store = s.store ∧ (missUncalled i p s).entry = s.entry ∧
    (missUncalled i p s).callOutstanding = s.callOutstanding ∧ (missUncalled i p s).carrier = s.carrier ∧
    (missUncalled i p s).verify = s.verify ∧ (missUncalled i p s).disp = s.disp ∧
    (missUncalled i p s).bundles = s.bundles ∧ (missUncalled i p s).freeTaken = s.freeTaken := by
  simp [missUncalled]

@[simp] theorem readUnplanned_keeps (i : Fin 12) (p : Nat) (s : State) :
    (readUnplanned i p s).pending = s.pending ∧ (readUnplanned i p s).pins = s.pins ∧
    (readUnplanned i p s).reg = s.reg ∧ (readUnplanned i p s).lines = s.lines ∧
    (readUnplanned i p s).setup = s.setup ∧ (readUnplanned i p s).store = s.store ∧
    (readUnplanned i p s).entry = s.entry ∧ (readUnplanned i p s).callOutstanding = s.callOutstanding ∧
    (readUnplanned i p s).carrier = s.carrier ∧ (readUnplanned i p s).verify = s.verify ∧
    (readUnplanned i p s).disp = s.disp ∧ (readUnplanned i p s).bundles = s.bundles ∧
    (readUnplanned i p s).freeTaken = s.freeTaken := by
  unfold readUnplanned; (repeat' split) <;> simp

@[simp] theorem makeStray_keeps (i : Fin 12) (p : Nat) (k : Option Nat) (x : BitVec 12) (s : State) :
    (makeStray i p k x s).pending = s.pending ∧ (makeStray i p k x s).pins = s.pins ∧
    (makeStray i p k x s).reg = s.reg ∧ (makeStray i p k x s).lines = s.lines ∧
    (makeStray i p k x s).setup = s.setup ∧ (makeStray i p k x s).store = s.store ∧
    (makeStray i p k x s).entry = s.entry ∧ (makeStray i p k x s).callOutstanding = s.callOutstanding ∧
    (makeStray i p k x s).carrier = s.carrier ∧ (makeStray i p k x s).verify = s.verify ∧
    (makeStray i p k x s).disp = s.disp ∧ (makeStray i p k x s).bundles = s.bundles ∧
    (makeStray i p k x s).freeTaken = s.freeTaken := by
  simp [makeStray]

@[simp] theorem readEmpty_keeps (i : Fin 12) (p : Nat) (k : Option Nat) (x : BitVec 12) (s : State) :
    (readEmpty i p k x s).pending = s.pending ∧ (readEmpty i p k x s).pins = s.pins ∧
    (readEmpty i p k x s).reg = s.reg ∧ (readEmpty i p k x s).lines = s.lines ∧
    (readEmpty i p k x s).setup = s.setup ∧ (readEmpty i p k x s).store = s.store ∧
    (readEmpty i p k x s).entry = s.entry ∧ (readEmpty i p k x s).callOutstanding = s.callOutstanding ∧
    (readEmpty i p k x s).carrier = s.carrier ∧ (readEmpty i p k x s).verify = s.verify ∧
    (readEmpty i p k x s).disp = s.disp ∧ (readEmpty i p k x s).bundles = s.bundles ∧
    (readEmpty i p k x s).freeTaken = s.freeTaken := by
  unfold readEmpty; (repeat' split) <;> simp

@[simp] theorem readStray_keeps (i : Fin 12) (p : Nat) (k : Option Nat) (x : BitVec 12) (c : StrayCause) (s : State) :
    (readStray i p k x c s).pending = s.pending ∧ (readStray i p k x c s).pins = s.pins ∧
    (readStray i p k x c s).reg = s.reg ∧ (readStray i p k x c s).lines = s.lines ∧
    (readStray i p k x c s).setup = s.setup ∧ (readStray i p k x c s).store = s.store ∧
    (readStray i p k x c s).entry = s.entry ∧ (readStray i p k x c s).callOutstanding = s.callOutstanding ∧
    (readStray i p k x c s).carrier = s.carrier ∧ (readStray i p k x c s).verify = s.verify ∧
    (readStray i p k x c s).disp = s.disp ∧ (readStray i p k x c s).bundles = s.bundles ∧
    (readStray i p k x c s).freeTaken = s.freeTaken := by
  unfold readStray; (repeat' split) <;> simp

@[simp] theorem detectPiece_keeps (i : Fin 12) (p : Nat) (r c : Bool) (x : Piece) (s : State) :
    (detectPiece i p r c x s).pending = s.pending ∧ (detectPiece i p r c x s).pins = s.pins ∧
    (detectPiece i p r c x s).reg = s.reg ∧ (detectPiece i p r c x s).lines = s.lines ∧
    (detectPiece i p r c x s).setup = s.setup ∧ (detectPiece i p r c x s).store = s.store ∧
    (detectPiece i p r c x s).entry = s.entry ∧ (detectPiece i p r c x s).callOutstanding = s.callOutstanding ∧
    (detectPiece i p r c x s).carrier = s.carrier ∧ (detectPiece i p r c x s).verify = s.verify ∧
    (detectPiece i p r c x s).disp = s.disp ∧ (detectPiece i p r c x s).bundles = s.bundles ∧
    (detectPiece i p r c x s).freeTaken = s.freeTaken := by
  unfold detectPiece; (repeat' split) <;> simp

@[simp] theorem detectEntry_keeps (i : Fin 12) (p : Nat) (r c : Bool) (s : State) :
    (detectEntry i p r c s).pending = s.pending ∧ (detectEntry i p r c s).pins = s.pins ∧
    (detectEntry i p r c s).reg = s.reg ∧ (detectEntry i p r c s).lines = s.lines ∧
    (detectEntry i p r c s).setup = s.setup ∧ (detectEntry i p r c s).store = s.store ∧
    (detectEntry i p r c s).entry = s.entry ∧ (detectEntry i p r c s).callOutstanding = s.callOutstanding ∧
    (detectEntry i p r c s).carrier = s.carrier ∧ (detectEntry i p r c s).verify = s.verify ∧
    (detectEntry i p r c s).disp = s.disp ∧ (detectEntry i p r c s).bundles = s.bundles ∧
    (detectEntry i p r c s).freeTaken = s.freeTaken := by
  unfold detectEntry; (repeat' split) <;> simp

@[simp] theorem detectPhase_keeps (i : Fin 12) (e : Station) (s : State) :
    (detectPhase i e s).pending = s.pending ∧ (detectPhase i e s).pins = s.pins ∧ (detectPhase i e s).reg = s.reg ∧
    (detectPhase i e s).lines = s.lines ∧ (detectPhase i e s).setup = s.setup ∧ (detectPhase i e s).store = s.store ∧
    (detectPhase i e s).entry = s.entry ∧ (detectPhase i e s).carrier = s.carrier ∧
    (detectPhase i e s).verify = s.verify ∧ (detectPhase i e s).disp = s.disp ∧
    (detectPhase i e s).bundles = s.bundles ∧ (detectPhase i e s).freeTaken = s.freeTaken := by
  simp [detectPhase]

@[simp] theorem stationPhase_keeps (i : Fin 12) (s : State) :
    (stationPhase i s).pending = s.pending ∧ (stationPhase i s).pins = s.pins ∧ (stationPhase i s).reg = s.reg ∧
    (stationPhase i s).setup = s.setup ∧ (stationPhase i s).store = s.store ∧ (stationPhase i s).entry = s.entry ∧
    (stationPhase i s).carrier = s.carrier ∧ (stationPhase i s).verify = s.verify ∧
    (stationPhase i s).disp = s.disp ∧ (stationPhase i s).bundles = s.bundles ∧
    (stationPhase i s).freeTaken = s.freeTaken := by
  unfold stationPhase; (repeat' split) <;> simp

@[simp] theorem replan_keeps (i : Fin 12) (e : Station) (s : State) :
    (replan i e s).pending = s.pending ∧ (replan i e s).pins = s.pins ∧ (replan i e s).reg = s.reg ∧
    (replan i e s).lines = s.lines ∧ (replan i e s).run = s.run ∧ (replan i e s).setup = s.setup ∧
    (replan i e s).store = s.store ∧ (replan i e s).entry = s.entry ∧
    (replan i e s).callOutstanding = s.callOutstanding ∧ (replan i e s).carrier = s.carrier ∧
    (replan i e s).verify = s.verify ∧ (replan i e s).disp = s.disp ∧ (replan i e s).bundles = s.bundles ∧
    (replan i e s).fault = s.fault ∧ (replan i e s).link = s.link ∧ (replan i e s).freeTaken = s.freeTaken := by
  simp [replan]

end Sys2Proof.Machine
end

