-- ==== Sys2Proof/Laws/Verify.lean ====
section
/-! SUPPORT. What each operation of the verify unit leaves unchanged: one lemma for each, its conjuncts simp rules. -/

namespace Sys2Proof.Machine

@[simp] theorem recordMatch_keeps (p : Nat) (s : State) :
    (recordMatch p s).pending = s.pending ∧ (recordMatch p s).pins = s.pins ∧ (recordMatch p s).reg = s.reg ∧
    (recordMatch p s).lines = s.lines ∧ (recordMatch p s).run = s.run ∧ (recordMatch p s).setup = s.setup ∧
    (recordMatch p s).store = s.store ∧ (recordMatch p s).entry = s.entry ∧
    (recordMatch p s).callOutstanding = s.callOutstanding ∧ (recordMatch p s).carrier = s.carrier ∧
    (recordMatch p s).disp = s.disp ∧ (recordMatch p s).bundles = s.bundles ∧ (recordMatch p s).fault = s.fault ∧
    (recordMatch p s).link = s.link ∧ (recordMatch p s).freeTaken = s.freeTaken := by
  simp [recordMatch]

@[simp] theorem raiseRun_keeps (s : State) :
    (raiseRun s).pending = s.pending ∧ (raiseRun s).pins = s.pins ∧ (raiseRun s).reg = s.reg ∧
    (raiseRun s).setup = s.setup ∧ (raiseRun s).store = s.store ∧ (raiseRun s).entry = s.entry ∧
    (raiseRun s).callOutstanding = s.callOutstanding ∧ (raiseRun s).disp = s.disp ∧
    (raiseRun s).bundles = s.bundles ∧ (raiseRun s).freeTaken = s.freeTaken := by
  unfold raiseRun; (repeat' split) <;> simp

@[simp] theorem recordMismatch_keeps (p : Nat) (s : State) :
    (recordMismatch p s).pending = s.pending ∧ (recordMismatch p s).pins = s.pins ∧
    (recordMismatch p s).reg = s.reg ∧ (recordMismatch p s).setup = s.setup ∧ (recordMismatch p s).store = s.store ∧
    (recordMismatch p s).entry = s.entry ∧ (recordMismatch p s).callOutstanding = s.callOutstanding ∧
    (recordMismatch p s).disp = s.disp ∧ (recordMismatch p s).bundles = s.bundles ∧
    (recordMismatch p s).freeTaken = s.freeTaken := by
  simp [recordMismatch]

@[simp] theorem judgeCode_keeps (v c : Nat) (s : State) :
    (judgeCode v c s).pending = s.pending ∧ (judgeCode v c s).pins = s.pins ∧ (judgeCode v c s).reg = s.reg ∧
    (judgeCode v c s).setup = s.setup ∧ (judgeCode v c s).store = s.store ∧ (judgeCode v c s).entry = s.entry ∧
    (judgeCode v c s).callOutstanding = s.callOutstanding ∧ (judgeCode v c s).disp = s.disp ∧
    (judgeCode v c s).bundles = s.bundles ∧ (judgeCode v c s).freeTaken = s.freeTaken := by
  unfold judgeCode; (repeat' split) <;> simp

@[simp] theorem reportCode_keeps (c : Nat) (s : State) :
    (reportCode c s).pending = s.pending ∧ (reportCode c s).pins = s.pins ∧ (reportCode c s).reg = s.reg ∧
    (reportCode c s).setup = s.setup ∧ (reportCode c s).store = s.store ∧ (reportCode c s).entry = s.entry ∧
    (reportCode c s).callOutstanding = s.callOutstanding ∧ (reportCode c s).disp = s.disp ∧
    (reportCode c s).bundles = s.bundles ∧ (reportCode c s).freeTaken = s.freeTaken := by
  unfold reportCode; (repeat' split) <;> simp

@[simp] theorem recordUnread_keeps (src : Source) (p : Nat) (s : State) :
    (recordUnread src p s).pending = s.pending ∧ (recordUnread src p s).pins = s.pins ∧
    (recordUnread src p s).reg = s.reg ∧ (recordUnread src p s).lines = s.lines ∧
    (recordUnread src p s).setup = s.setup ∧ (recordUnread src p s).store = s.store ∧
    (recordUnread src p s).entry = s.entry ∧ (recordUnread src p s).callOutstanding = s.callOutstanding ∧
    (recordUnread src p s).carrier = s.carrier ∧ (recordUnread src p s).verify = s.verify ∧
    (recordUnread src p s).disp = s.disp ∧ (recordUnread src p s).bundles = s.bundles ∧
    (recordUnread src p s).freeTaken = s.freeTaken := by
  simp [recordUnread]

@[simp] theorem reportNoRead_keeps (s : State) :
    (reportNoRead s).pending = s.pending ∧ (reportNoRead s).pins = s.pins ∧ (reportNoRead s).reg = s.reg ∧
    (reportNoRead s).lines = s.lines ∧ (reportNoRead s).setup = s.setup ∧ (reportNoRead s).store = s.store ∧
    (reportNoRead s).entry = s.entry ∧ (reportNoRead s).callOutstanding = s.callOutstanding ∧
    (reportNoRead s).carrier = s.carrier ∧ (reportNoRead s).verify = s.verify ∧ (reportNoRead s).disp = s.disp ∧
    (reportNoRead s).bundles = s.bundles ∧ (reportNoRead s).freeTaken = s.freeTaken := by
  unfold reportNoRead; (repeat' split) <;> simp

@[simp] theorem settleVerify_keeps (s : State) :
    (settleVerify s).pending = s.pending ∧ (settleVerify s).pins = s.pins ∧ (settleVerify s).reg = s.reg ∧
    (settleVerify s).lines = s.lines ∧ (settleVerify s).setup = s.setup ∧ (settleVerify s).store = s.store ∧
    (settleVerify s).entry = s.entry ∧ (settleVerify s).callOutstanding = s.callOutstanding ∧
    (settleVerify s).carrier = s.carrier ∧ (settleVerify s).verify = s.verify ∧ (settleVerify s).disp = s.disp ∧
    (settleVerify s).bundles = s.bundles ∧ (settleVerify s).freeTaken = s.freeTaken := by
  unfold settleVerify; dsimp only; (repeat' split) <;> simp

@[simp] theorem wrapPosition_keeps (c : WrapCause) (p : Nat) (s : State) :
    (wrapPosition c p s).pending = s.pending ∧ (wrapPosition c p s).pins = s.pins ∧
    (wrapPosition c p s).reg = s.reg ∧ (wrapPosition c p s).lines = s.lines ∧ (wrapPosition c p s).setup = s.setup ∧
    (wrapPosition c p s).store = s.store ∧ (wrapPosition c p s).entry = s.entry ∧
    (wrapPosition c p s).callOutstanding = s.callOutstanding ∧ (wrapPosition c p s).carrier = s.carrier ∧
    (wrapPosition c p s).verify = s.verify ∧ (wrapPosition c p s).disp = s.disp ∧
    (wrapPosition c p s).bundles = s.bundles ∧ (wrapPosition c p s).freeTaken = s.freeTaken := by
  unfold wrapPosition; (repeat' split) <;> simp

end Sys2Proof.Machine
end

