-- ==== Sys2Proof/Laws/Registration.lean ====
section
/-! SUPPORT. What each operation of the registration unit, and of the purge leaves unchanged: one lemma for each, its conjuncts simp rules. -/

namespace Sys2Proof.Machine

@[simp] theorem returnToQueue_keeps (r : Record) (s : State) :
    (returnToQueue r s).pending = s.pending ∧ (returnToQueue r s).pins = s.pins ∧ (returnToQueue r s).reg = s.reg ∧
    (returnToQueue r s).lines = s.lines ∧ (returnToQueue r s).run = s.run ∧ (returnToQueue r s).setup = s.setup ∧
    (returnToQueue r s).entry = s.entry ∧ (returnToQueue r s).track = s.track ∧
    (returnToQueue r s).callOutstanding = s.callOutstanding ∧ (returnToQueue r s).carrier = s.carrier ∧
    (returnToQueue r s).verify = s.verify ∧ (returnToQueue r s).disp = s.disp ∧ (returnToQueue r s).fault = s.fault ∧
    (returnToQueue r s).link = s.link ∧ (returnToQueue r s).freeTaken = s.freeTaken := by
  simp [returnToQueue]

@[simp] theorem foldReturn_keeps (rs : List Record) (s : State) :
    (rs.foldl (fun s r => returnToQueue r s) s).pending = s.pending ∧
    (rs.foldl (fun s r => returnToQueue r s) s).pins = s.pins ∧
    (rs.foldl (fun s r => returnToQueue r s) s).reg = s.reg ∧
    (rs.foldl (fun s r => returnToQueue r s) s).lines = s.lines ∧
    (rs.foldl (fun s r => returnToQueue r s) s).run = s.run ∧
    (rs.foldl (fun s r => returnToQueue r s) s).setup = s.setup ∧
    (rs.foldl (fun s r => returnToQueue r s) s).entry = s.entry ∧
    (rs.foldl (fun s r => returnToQueue r s) s).track = s.track ∧
    (rs.foldl (fun s r => returnToQueue r s) s).callOutstanding = s.callOutstanding ∧
    (rs.foldl (fun s r => returnToQueue r s) s).carrier = s.carrier ∧
    (rs.foldl (fun s r => returnToQueue r s) s).verify = s.verify ∧
    (rs.foldl (fun s r => returnToQueue r s) s).disp = s.disp ∧
    (rs.foldl (fun s r => returnToQueue r s) s).fault = s.fault ∧
    (rs.foldl (fun s r => returnToQueue r s) s).link = s.link ∧
    (rs.foldl (fun s r => returnToQueue r s) s).freeTaken = s.freeTaken := by
  induction rs generalizing s <;> simp_all

@[simp] theorem foldLane_keeps (rs : List Record) (s : State) :
    (rs.foldl (fun s r => sendToLane .purge r s) s).pending = s.pending ∧
    (rs.foldl (fun s r => sendToLane .purge r s) s).pins = s.pins ∧
    (rs.foldl (fun s r => sendToLane .purge r s) s).reg = s.reg ∧
    (rs.foldl (fun s r => sendToLane .purge r s) s).lines = s.lines ∧
    (rs.foldl (fun s r => sendToLane .purge r s) s).setup = s.setup ∧
    (rs.foldl (fun s r => sendToLane .purge r s) s).track = s.track ∧
    (rs.foldl (fun s r => sendToLane .purge r s) s).callOutstanding = s.callOutstanding ∧
    (rs.foldl (fun s r => sendToLane .purge r s) s).carrier = s.carrier ∧
    (rs.foldl (fun s r => sendToLane .purge r s) s).verify = s.verify ∧
    (rs.foldl (fun s r => sendToLane .purge r s) s).disp = s.disp ∧
    (rs.foldl (fun s r => sendToLane .purge r s) s).fault = s.fault := by
  induction rs generalizing s <;> simp_all

@[simp] theorem placePurged_keeps (xs : List Piece) (s : State) :
    (placePurged xs s).pending = s.pending ∧ (placePurged xs s).pins = s.pins ∧ (placePurged xs s).reg = s.reg ∧
    (placePurged xs s).lines = s.lines ∧ (placePurged xs s).setup = s.setup ∧ (placePurged xs s).track = s.track ∧
    (placePurged xs s).callOutstanding = s.callOutstanding ∧ (placePurged xs s).carrier = s.carrier ∧
    (placePurged xs s).verify = s.verify ∧ (placePurged xs s).disp = s.disp ∧ (placePurged xs s).fault = s.fault := by
  simp [placePurged]

@[simp] theorem returnPurged_keeps (xs : List Piece) (s : State) :
    (returnPurged xs s).pending = s.pending ∧ (returnPurged xs s).pins = s.pins ∧ (returnPurged xs s).reg = s.reg ∧
    (returnPurged xs s).lines = s.lines ∧ (returnPurged xs s).setup = s.setup ∧ (returnPurged xs s).track = s.track ∧
    (returnPurged xs s).callOutstanding = s.callOutstanding ∧ (returnPurged xs s).carrier = s.carrier ∧
    (returnPurged xs s).verify = s.verify ∧ (returnPurged xs s).disp = s.disp ∧ (returnPurged xs s).fault = s.fault := by
  unfold returnPurged; dsimp only; (repeat' split) <;> simp

@[simp] theorem purgeTrack_keeps (s : State) :
    (purgeTrack s).pending = s.pending ∧ (purgeTrack s).pins = s.pins ∧ (purgeTrack s).reg = s.reg ∧
    (purgeTrack s).lines = s.lines ∧ (purgeTrack s).setup = s.setup ∧
    (purgeTrack s).callOutstanding = s.callOutstanding ∧ (purgeTrack s).carrier = s.carrier ∧
    (purgeTrack s).verify = s.verify ∧ (purgeTrack s).disp = s.disp ∧ (purgeTrack s).fault = s.fault := by
  simp [purgeTrack]

@[simp] theorem releasePulses_keeps (n : Nat) (s : State) :
    (releasePulses n s).pending = s.pending ∧ (releasePulses n s).pins = s.pins ∧ (releasePulses n s).reg = s.reg ∧
    (releasePulses n s).run = s.run ∧ (releasePulses n s).setup = s.setup ∧ (releasePulses n s).store = s.store ∧
    (releasePulses n s).entry = s.entry ∧ (releasePulses n s).track = s.track ∧
    (releasePulses n s).callOutstanding = s.callOutstanding ∧ (releasePulses n s).carrier = s.carrier ∧
    (releasePulses n s).verify = s.verify ∧ (releasePulses n s).disp = s.disp ∧
    (releasePulses n s).bundles = s.bundles ∧ (releasePulses n s).fault = s.fault ∧
    (releasePulses n s).link = s.link ∧ (releasePulses n s).freeTaken = s.freeTaken := by
  simp [releasePulses]

@[simp] theorem releaseAllPulses_keeps (s : State) :
    (releaseAllPulses s).pending = s.pending ∧ (releaseAllPulses s).pins = s.pins ∧
    (releaseAllPulses s).reg = s.reg ∧ (releaseAllPulses s).run = s.run ∧ (releaseAllPulses s).setup = s.setup ∧
    (releaseAllPulses s).store = s.store ∧ (releaseAllPulses s).entry = s.entry ∧
    (releaseAllPulses s).track = s.track ∧ (releaseAllPulses s).carrier = s.carrier ∧
    (releaseAllPulses s).verify = s.verify ∧ (releaseAllPulses s).disp = s.disp ∧
    (releaseAllPulses s).bundles = s.bundles ∧ (releaseAllPulses s).fault = s.fault ∧
    (releaseAllPulses s).link = s.link ∧ (releaseAllPulses s).freeTaken = s.freeTaken := by
  simp [releaseAllPulses]

@[simp] theorem loseRegistration_keeps (s : State) :
    (loseRegistration s).pending = s.pending ∧ (loseRegistration s).pins = s.pins ∧
    (loseRegistration s).setup = s.setup ∧ (loseRegistration s).callOutstanding = s.callOutstanding ∧
    (loseRegistration s).verify = s.verify ∧ (loseRegistration s).disp = s.disp := by
  simp [loseRegistration]

@[simp] theorem badEvent_keeps (s : State) :
    (badEvent s).pending = s.pending ∧ (badEvent s).pins = s.pins ∧ (badEvent s).setup = s.setup ∧
    (badEvent s).callOutstanding = s.callOutstanding ∧ (badEvent s).verify = s.verify ∧ (badEvent s).disp = s.disp := by
  unfold badEvent; dsimp only; (repeat' split) <;> simp

@[simp] theorem ageFaultWindow_keeps (s : State) :
    (ageFaultWindow s).pending = s.pending ∧ (ageFaultWindow s).pins = s.pins ∧ (ageFaultWindow s).lines = s.lines ∧
    (ageFaultWindow s).run = s.run ∧ (ageFaultWindow s).setup = s.setup ∧ (ageFaultWindow s).store = s.store ∧
    (ageFaultWindow s).entry = s.entry ∧ (ageFaultWindow s).track = s.track ∧
    (ageFaultWindow s).callOutstanding = s.callOutstanding ∧ (ageFaultWindow s).carrier = s.carrier ∧
    (ageFaultWindow s).verify = s.verify ∧ (ageFaultWindow s).disp = s.disp ∧
    (ageFaultWindow s).bundles = s.bundles ∧ (ageFaultWindow s).fault = s.fault ∧ (ageFaultWindow s).link = s.link ∧
    (ageFaultWindow s).freeTaken = s.freeTaken := by
  unfold ageFaultWindow; (repeat' split) <;> simp

@[simp] theorem openWindow_keeps (b : Bool) (s : State) :
    (openWindow b s).pending = s.pending ∧ (openWindow b s).pins = s.pins ∧ (openWindow b s).lines = s.lines ∧
    (openWindow b s).run = s.run ∧ (openWindow b s).setup = s.setup ∧ (openWindow b s).store = s.store ∧
    (openWindow b s).entry = s.entry ∧ (openWindow b s).track = s.track ∧
    (openWindow b s).callOutstanding = s.callOutstanding ∧ (openWindow b s).carrier = s.carrier ∧
    (openWindow b s).verify = s.verify ∧ (openWindow b s).disp = s.disp ∧ (openWindow b s).bundles = s.bundles ∧
    (openWindow b s).fault = s.fault ∧ (openWindow b s).link = s.link ∧ (openWindow b s).freeTaken = s.freeTaken := by
  simp [openWindow]

@[simp] theorem seeMark_keeps (s : State) :
    (seeMark s).pending = s.pending ∧ (seeMark s).pins = s.pins ∧ (seeMark s).lines = s.lines ∧
    (seeMark s).run = s.run ∧ (seeMark s).setup = s.setup ∧ (seeMark s).store = s.store ∧
    (seeMark s).entry = s.entry ∧ (seeMark s).track = s.track ∧ (seeMark s).callOutstanding = s.callOutstanding ∧
    (seeMark s).carrier = s.carrier ∧ (seeMark s).verify = s.verify ∧ (seeMark s).disp = s.disp ∧
    (seeMark s).bundles = s.bundles ∧ (seeMark s).fault = s.fault ∧ (seeMark s).link = s.link ∧
    (seeMark s).freeTaken = s.freeTaken := by
  simp [seeMark]

@[simp] theorem setGoodMarks_keeps (n : Nat) (s : State) :
    (setGoodMarks n s).pending = s.pending ∧ (setGoodMarks n s).pins = s.pins ∧ (setGoodMarks n s).lines = s.lines ∧
    (setGoodMarks n s).run = s.run ∧ (setGoodMarks n s).setup = s.setup ∧ (setGoodMarks n s).store = s.store ∧
    (setGoodMarks n s).entry = s.entry ∧ (setGoodMarks n s).track = s.track ∧
    (setGoodMarks n s).callOutstanding = s.callOutstanding ∧ (setGoodMarks n s).carrier = s.carrier ∧
    (setGoodMarks n s).verify = s.verify ∧ (setGoodMarks n s).disp = s.disp ∧
    (setGoodMarks n s).bundles = s.bundles ∧ (setGoodMarks n s).fault = s.fault ∧ (setGoodMarks n s).link = s.link ∧
    (setGoodMarks n s).freeTaken = s.freeTaken := by
  simp [setGoodMarks]

@[simp] theorem closeWindow_keeps (s : State) :
    (closeWindow s).pending = s.pending ∧ (closeWindow s).pins = s.pins ∧ (closeWindow s).setup = s.setup ∧
    (closeWindow s).callOutstanding = s.callOutstanding ∧ (closeWindow s).verify = s.verify ∧
    (closeWindow s).disp = s.disp := by
  unfold closeWindow; dsimp only; (repeat' split) <;> simp

@[simp] theorem windowPhase_keeps (s : State) :
    (windowPhase s).pending = s.pending ∧ (windowPhase s).pins = s.pins ∧ (windowPhase s).setup = s.setup ∧
    (windowPhase s).callOutstanding = s.callOutstanding ∧ (windowPhase s).verify = s.verify ∧
    (windowPhase s).disp = s.disp := by
  unfold windowPhase; (repeat' split) <;> simp

@[simp] theorem windowBoundary_keeps (s : State) :
    (windowBoundary s).pending = s.pending ∧ (windowBoundary s).pins = s.pins ∧ (windowBoundary s).lines = s.lines ∧
    (windowBoundary s).run = s.run ∧ (windowBoundary s).setup = s.setup ∧ (windowBoundary s).store = s.store ∧
    (windowBoundary s).entry = s.entry ∧ (windowBoundary s).track = s.track ∧
    (windowBoundary s).callOutstanding = s.callOutstanding ∧ (windowBoundary s).carrier = s.carrier ∧
    (windowBoundary s).verify = s.verify ∧ (windowBoundary s).disp = s.disp ∧
    (windowBoundary s).bundles = s.bundles ∧ (windowBoundary s).fault = s.fault ∧ (windowBoundary s).link = s.link ∧
    (windowBoundary s).freeTaken = s.freeTaken := by
  unfold windowBoundary; (repeat' split) <;> simp

@[simp] theorem phaseTask_keeps (t : PulseTask) (s : State) :
    (phaseTask t s).pending = s.pending ∧ (phaseTask t s).pins = s.pins ∧ (phaseTask t s).setup = s.setup ∧
    (phaseTask t s).verify = s.verify := by
  unfold phaseTask; (repeat' split) <;> simp

@[simp] theorem boundaryTask_keeps (t : PulseTask) (s : State) :
    (boundaryTask t s).pending = s.pending ∧ (boundaryTask t s).pins = s.pins ∧ (boundaryTask t s).reg = s.reg ∧
    (boundaryTask t s).lines = s.lines ∧ (boundaryTask t s).setup = s.setup ∧
    (boundaryTask t s).callOutstanding = s.callOutstanding ∧ (boundaryTask t s).verify = s.verify := by
  unfold boundaryTask; (repeat' split) <;> simp

@[simp] theorem runPhaseTasks_keeps (ts : List PulseTask) (s : State) :
    (runTasks phaseTask ts s).pending = s.pending ∧ (runTasks phaseTask ts s).pins = s.pins ∧
    (runTasks phaseTask ts s).setup = s.setup ∧ (runTasks phaseTask ts s).verify = s.verify := by
  unfold runTasks; induction ts generalizing s <;> simp_all

@[simp] theorem runBoundaryTasks_keeps (ts : List PulseTask) (s : State) :
    (runTasks boundaryTask ts s).pending = s.pending ∧ (runTasks boundaryTask ts s).pins = s.pins ∧
    (runTasks boundaryTask ts s).reg = s.reg ∧ (runTasks boundaryTask ts s).lines = s.lines ∧
    (runTasks boundaryTask ts s).setup = s.setup ∧ (runTasks boundaryTask ts s).callOutstanding = s.callOutstanding ∧
    (runTasks boundaryTask ts s).verify = s.verify := by
  unfold runTasks; induction ts generalizing s <;> simp_all

@[simp] theorem advanceTrack_keeps (s : State) :
    (advanceTrack s).pending = s.pending ∧ (advanceTrack s).pins = s.pins ∧ (advanceTrack s).reg = s.reg ∧
    (advanceTrack s).lines = s.lines ∧ (advanceTrack s).run = s.run ∧ (advanceTrack s).setup = s.setup ∧
    (advanceTrack s).store = s.store ∧ (advanceTrack s).entry = s.entry ∧
    (advanceTrack s).callOutstanding = s.callOutstanding ∧ (advanceTrack s).carrier = s.carrier ∧
    (advanceTrack s).verify = s.verify ∧ (advanceTrack s).disp = s.disp ∧ (advanceTrack s).bundles = s.bundles ∧
    (advanceTrack s).fault = s.fault ∧ (advanceTrack s).link = s.link ∧ (advanceTrack s).freeTaken = s.freeTaken := by
  simp [advanceTrack]

@[simp] theorem advance_keeps (s : State) :
    (advance s).pending = s.pending ∧ (advance s).pins = s.pins ∧ (advance s).reg = s.reg ∧
    (advance s).lines = s.lines ∧ (advance s).setup = s.setup ∧ (advance s).callOutstanding = s.callOutstanding ∧
    (advance s).verify = s.verify ∧ (advance s).disp = s.disp := by
  simp [advance]

@[simp] theorem issueBoundary_keeps (n : Nat) (o : List PulseTask) (s : State) :
    (issueBoundary n o s).pending = s.pending ∧ (issueBoundary n o s).pins = s.pins ∧
    (issueBoundary n o s).lines = s.lines ∧ (issueBoundary n o s).setup = s.setup ∧
    (issueBoundary n o s).callOutstanding = s.callOutstanding ∧ (issueBoundary n o s).verify = s.verify := by
  simp [issueBoundary]

@[simp] theorem countPhase_keeps (o : List PulseTask) (s : State) :
    (countPhase o s).pending = s.pending ∧ (countPhase o s).pins = s.pins ∧ (countPhase o s).setup = s.setup ∧
    (countPhase o s).verify = s.verify := by
  simp [countPhase]

@[simp] theorem countBoundary_keeps (g : Geometry) (o : List PulseTask) (s : State) :
    (countBoundary g o s).pending = s.pending ∧ (countBoundary g o s).pins = s.pins ∧
    (countBoundary g o s).setup = s.setup ∧ (countBoundary g o s).callOutstanding = s.callOutstanding ∧
    (countBoundary g o s).verify = s.verify := by
  simp [countBoundary]

@[simp] theorem align_keeps (g : Geometry) (o : List PulseTask) (s : State) :
    (align g o s).pending = s.pending ∧ (align g o s).pins = s.pins ∧ (align g o s).setup = s.setup ∧
    (align g o s).verify = s.verify := by
  unfold align; dsimp only; (repeat' split) <;> simp

@[simp] theorem beginSeeking_keeps (g : Geometry) (o : List PulseTask) (s : State) :
    (beginSeeking g o s).pending = s.pending ∧ (beginSeeking g o s).pins = s.pins ∧
    (beginSeeking g o s).setup = s.setup ∧ (beginSeeking g o s).verify = s.verify := by
  simp [beginSeeking]

@[simp] theorem goodMarkSeeking_keeps (s : State) :
    (goodMarkSeeking s).pending = s.pending ∧ (goodMarkSeeking s).pins = s.pins ∧
    (goodMarkSeeking s).lines = s.lines ∧ (goodMarkSeeking s).run = s.run ∧ (goodMarkSeeking s).setup = s.setup ∧
    (goodMarkSeeking s).store = s.store ∧ (goodMarkSeeking s).entry = s.entry ∧ (goodMarkSeeking s).track = s.track ∧
    (goodMarkSeeking s).callOutstanding = s.callOutstanding ∧ (goodMarkSeeking s).carrier = s.carrier ∧
    (goodMarkSeeking s).verify = s.verify ∧ (goodMarkSeeking s).disp = s.disp ∧
    (goodMarkSeeking s).bundles = s.bundles ∧ (goodMarkSeeking s).fault = s.fault ∧
    (goodMarkSeeking s).freeTaken = s.freeTaken := by
  unfold goodMarkSeeking; dsimp only; (repeat' split) <;> simp

@[simp] theorem restartCount_keeps (s : State) :
    (restartCount s).pending = s.pending ∧ (restartCount s).pins = s.pins ∧ (restartCount s).run = s.run ∧
    (restartCount s).setup = s.setup ∧ (restartCount s).store = s.store ∧ (restartCount s).entry = s.entry ∧
    (restartCount s).track = s.track ∧ (restartCount s).carrier = s.carrier ∧ (restartCount s).verify = s.verify ∧
    (restartCount s).disp = s.disp ∧ (restartCount s).bundles = s.bundles ∧ (restartCount s).fault = s.fault ∧
    (restartCount s).freeTaken = s.freeTaken := by
  unfold restartCount; dsimp only; (repeat' split) <;> simp

end Sys2Proof.Machine
end

