-- ==== Sys2Proof/Laws/Counts.lean ====
section
/-! SUPPORT. The ranges of a bundle's counts and of the phases issued before an alignment, and what the order of a pulse's
block events is: an order of the same events. -/

namespace Sys2Proof.Machine

/-- A raised count stays in its range, whatever the free value at hand (R136). -/
theorem raiseCount_le (free : BitVec 24) (n : Nat) : raiseCount free n ≤ Config.bundleCountLimit := by
  have := free.isLt
  by_cases h : n < Config.bundleCountLimit
  · rw [raiseCount, if_pos h]
    exact h
  · rw [raiseCount, if_neg h]
    exact Nat.le_of_lt_succ this

/-- The upper end of a tie range fits its three bytes (R143). -/
theorem highestTied_le (b : Bundle) : highestTied b ≤ Config.bundleCountLimit := Nat.min_le_right ..

/-- An alignment leaves at most half a pitch issued (R9). -/
theorem phasesIssued_lt {g : Geometry} {r : Registration} (h : 2 * r.issuedTo < g.pitch) :
    2 * phasesIssued g r < g.pitch := by
  unfold phasesIssued
  split <;> omega

theorem nodup_eraseDups (l : List PulseTask) : l.eraseDups.Nodup := by
  match l with
  | [] => simp
  | a :: l =>
    rw [List.eraseDups_cons, List.nodup_cons]
    exact ⟨by simp, nodup_eraseDups _⟩
termination_by l.length
decreasing_by exact Nat.lt_succ_of_le (List.length_filter_le ..)

/-- The order a command gives takes every due block event once (log 6). -/
theorem schedule_perm (order tasks : List PulseTask) (h : tasks.Nodup) : (schedule order tasks).Perm tasks := by
  refine (List.perm_ext_iff_of_nodup ?_ h).mpr fun t => ?_
  · refine List.nodup_append.mpr ⟨(nodup_eraseDups order).filter _, h.filter _, ?_⟩
    rintro a ha b hb rfl
    simp_all
  · by_cases ht : t ∈ order <;> simp [schedule, ht]

end Sys2Proof.Machine
end

