-- ==== Sys2Proof/Laws/Posting.lean ====
section
/-! SUPPORT. What queuing a message does (R171), and that every event ends with no dropped message left (R162). -/

namespace Sys2Proof.Machine

/-! ## Ports -/

@[simp] theorem portGet_portSet_same {α : Type} (x : PerPort α) (p : Port) (a : α) :
    portGet (portSet x p a) p = a := by
  cases p <;> rfl

theorem portGet_portSet_other {α : Type} (x : PerPort α) {p q : Port} (a : α) (h : q ≠ p) :
    portGet (portSet x p a) q = portGet x q := by
  cases p <;> cases q <;> first | rfl | exact absurd rfl h

@[simp] theorem portState_setPortState_same (p : Port) (x : PortState) (s : State) :
    portState p (setPortState p x s) = x := by
  simp [portState, setPortState]

theorem portState_setPortState_other {p q : Port} (x : PortState) (s : State) (h : q ≠ p) :
    portState q (setPortState p x s) = portState q s := by
  simp [portState, setPortState, portGet_portSet_other _ _ h]

@[simp] theorem dropped_setPortState (p : Port) (x : PortState) (s : State) :
    (setPortState p x s).link.dropped = s.link.dropped := rfl

@[simp] theorem fault_setPortState (p : Port) (x : PortState) (s : State) :
    (setPortState p x s).fault = s.fault := rfl

/-! ## Queuing one message -/

/-- A message that finds room stands at the tail. -/
theorem post_of_room {p : Port} {f : Frame} {s : State} (h : txHasRoom p s = true) :
    post p f s = setPortState p { portState p s with tx := txQueue p s ++ [f] } s := by
  simp [post, h]

/-- A message that finds no room is dropped, and its LINK_OVERFLOW stands to be taken. -/
theorem post_of_full {p : Port} {f : Frame} {s : State} (h : txHasRoom p s = false) :
    post p f s = s.setLink { s.link with dropped := s.link.dropped ++ [p] } := by
  simp [post, h]

theorem txQueue_post_same {p : Port} {f : Frame} {s : State} (h : txHasRoom p s = true) :
    txQueue p (post p f s) = txQueue p s ++ [f] := by
  rw [post_of_room h]; simp [txQueue]

theorem portState_post_other {p q : Port} (f : Frame) (s : State) (h : q ≠ p) :
    portState q (post p f s) = portState q s := by
  unfold post
  split
  · exact portState_setPortState_other _ _ h
  · rfl

theorem txQueue_post_other {p q : Port} (f : Frame) (s : State) (h : q ≠ p) :
    txQueue q (post p f s) = txQueue q s := by
  simp [txQueue, portState_post_other f s h]

theorem dropped_post_of_room {p : Port} {f : Frame} {s : State} (h : txHasRoom p s = true) :
    (post p f s).link.dropped = s.link.dropped := by
  rw [post_of_room h]; simp

/-- No transmit queue grows beyond its 32 places. -/
theorem length_txQueue_post_le (p q : Port) (f : Frame) (s : State)
    (h : (txQueue q s).length ≤ Config.txCapacity) : (txQueue q (post p f s)).length ≤ Config.txCapacity := by
  by_cases hq : q = p
  · subst hq
    cases hr : txHasRoom q s
    · rw [post_of_full hr]; exact h
    · rw [txQueue_post_same hr]
      simp only [txHasRoom, decide_eq_true_eq] at hr
      simp only [List.length_append, List.length_cons, List.length_nil]
      omega
  · rw [txQueue_post_other f s hq]; exact h

/-! ## The end of an event -/

/-- Without a dropped message the end of an event changes nothing. -/
theorem takeOverflows_of_none {s : State} (h : s.link.dropped = []) : takeOverflows s = s := by
  simp only [takeOverflows, h, List.foldl_nil]
  cases s with
  | mk _ _ _ _ _ _ _ _ _ _ _ _ _ _ _ link _ =>
    cases link
    simp_all [State.setLink]

theorem settle_of_none {s : State} (h : s.link.dropped = []) : settle s = s := by
  simp [settle, takeOverflows_of_none h]

/-- A further fault of a kind queues no message: its action logs nothing, or the log is held, and for STOP the latch is
set. -/
def Quieted (k : FaultKind) (s : State) : Prop :=
  match actionOf k s with
  | .off => True
  | .note => True
  | .reject => s.fault.rejectLog.isSome = true
  | .stop => s.fault.stopLog.isSome = true ∧ s.fault.stopLatch = true

theorem actions_countFault (k : FaultKind) (s : State) : (countFault k s).fault.actions = s.fault.actions := by
  unfold countFault; dsimp only; split <;> simp

theorem actions_steerFault (k : FaultKind) (s : State) : (steerFault k s).fault.actions = s.fault.actions := by
  unfold steerFault; (repeat' split) <;> simp

theorem actions_setLog (c : LogClass) (x : Option FaultLog) (s : State) :
    (setLog c x s).fault.actions = s.fault.actions := by
  unfold setLog; split <;> simp

theorem fault_post (p : Port) (f : Frame) (s : State) : (post p f s).fault = s.fault := by simp

theorem actions_enterLog (c : LogClass) (f : FaultRecord) (s : State) :
    (enterLog c f s).fault.actions = s.fault.actions := by
  unfold enterLog; split <;> simp [actions_setLog]

theorem actions_setStopLatch (s : State) : (setStopLatch s).fault.actions = s.fault.actions := by
  unfold setStopLatch; split <;> simp

/-- Taking a fault leaves the action table as it is. -/
theorem actions_raise (f : FaultRecord) (s : State) : (raise f s).fault.actions = s.fault.actions := by
  unfold raise
  split
  · rfl
  · unfold logAndStop
    split <;> simp [actions_setStopLatch, actions_enterLog, actions_steerFault, actions_countFault]

theorem actionOf_raise (k : FaultKind) (f : FaultRecord) (s : State) : actionOf k (raise f s) = actionOf k s := by
  simp [actionOf, actions_raise]

theorem logs_countFault (k : FaultKind) (s : State) :
    (countFault k s).fault.stopLog = s.fault.stopLog ∧ (countFault k s).fault.rejectLog = s.fault.rejectLog ∧
      (countFault k s).fault.stopLatch = s.fault.stopLatch ∧ (countFault k s).link = s.link := by
  unfold countFault; dsimp only; split <;> simp

theorem logs_steerFault (k : FaultKind) (s : State) :
    (steerFault k s).fault.stopLog = s.fault.stopLog ∧ (steerFault k s).fault.rejectLog = s.fault.rejectLog ∧
      (steerFault k s).fault.stopLatch = s.fault.stopLatch ∧ (steerFault k s).link = s.link := by
  unfold steerFault; (repeat' split) <;> simp

theorem stopLatch_setStopLatch (s : State) : (setStopLatch s).fault.stopLatch = true := by
  unfold setStopLatch; split <;> simp_all

theorem stopLog_setStopLatch (s : State) : (setStopLatch s).fault.stopLog = s.fault.stopLog := by
  unfold setStopLatch; split <;> simp

theorem log_enterLog (c : LogClass) (f : FaultRecord) (s : State) : (logOf c (enterLog c f s)).isSome = true := by
  unfold enterLog
  cases c <;> (split <;> simp [logOf, setLog])

theorem log_enterLog_held (c : LogClass) (f : FaultRecord) (s : State) (h : (logOf c s).isSome = true) :
    (enterLog c f s).link = s.link ∧ (enterLog c f s).fault.stopLatch = s.fault.stopLatch := by
  unfold enterLog
  split
  · simp_all
  · cases c <;> simp [setLog]

/-- After a fault of a kind, a further one queues nothing. -/
theorem quieted_raise (f : FaultRecord) (s : State) : Quieted f.kind (raise f s) := by
  unfold Quieted
  rw [actionOf_raise]
  cases h : actionOf f.kind s with
  | off => trivial
  | note => trivial
  | reject =>
    simp only [raise, h, logAndStop]
    exact log_enterLog .reject f _
  | stop =>
    simp only [raise, h, logAndStop, stopLatch_setStopLatch, stopLog_setStopLatch]
    exact ⟨log_enterLog .stop f _, trivial⟩

/-- A fault of a quieted kind queues nothing. -/
theorem link_raise_of_quieted {f : FaultRecord} {s : State} (h : Quieted f.kind s) : (raise f s).link = s.link := by
  have hc := logs_countFault f.kind s
  have hs := logs_steerFault f.kind (countFault f.kind s)
  unfold Quieted at h
  unfold raise
  cases ha : actionOf f.kind s with
  | off => rfl
  | note => simp [logAndStop]
  | reject =>
    simp only [ha] at h
    simp only [logAndStop]
    rw [(log_enterLog_held .reject f _ (by simp [logOf, hs.2.1, hc.2.1, h])).1, hs.2.2.2, hc.2.2.2]
  | stop =>
    simp only [ha] at h
    simp only [logAndStop]
    have hl := log_enterLog_held .stop f (steerFault f.kind (countFault f.kind s))
      (by simp [logOf, hs.1, hc.1, h.1])
    have hlatch : (enterLog .stop f (steerFault f.kind (countFault f.kind s))).fault.stopLatch = true := by
      rw [hl.2, hs.2.2.1, hc.2.2.1, h.2]
    simp only [setStopLatch, hlatch, if_true]
    rw [hl.1, hs.2.2.2, hc.2.2.2]

theorem quieted_foldOverflow (ps : List Port) (s : State) (h : Quieted .linkOverflow s) :
    Quieted .linkOverflow (ps.foldl (fun s p => raiseOverflow p s) s) ∧
      (ps.foldl (fun s p => raiseOverflow p s) s).link = s.link := by
  induction ps generalizing s with
  | nil => exact ⟨h, rfl⟩
  | cons p ps ih =>
    have hq : Quieted .linkOverflow (raiseOverflow p s) := quieted_raise (plainFault .linkOverflow (.port p) s) s
    have hl : (raiseOverflow p s).link = s.link :=
      link_raise_of_quieted (f := plainFault .linkOverflow (.port p) s) h
    have := ih (raiseOverflow p s) hq
    exact ⟨this.1, this.2.trans hl⟩

theorem takeOverflows_quiets (s : State) :
    (takeOverflows s).link.dropped = [] ∨ Quieted .linkOverflow (takeOverflows s) := by
  unfold takeOverflows
  generalize hp : s.link.dropped = ps
  cases ps with
  | nil => exact Or.inl rfl
  | cons p ps =>
    right
    exact (quieted_foldOverflow ps _ (quieted_raise (plainFault .linkOverflow (.port p) _) _)).1

/-- After an event no LINK_OVERFLOW is left to be taken. -/
theorem settle_dropped (s : State) : (settle s).link.dropped = [] := by
  unfold settle
  rcases takeOverflows_quiets s with h | h
  · rw [takeOverflows_of_none h, h]
  · generalize takeOverflows s = t at h
    unfold takeOverflows
    rw [(quieted_foldOverflow t.link.dropped (t.setLink { t.link with dropped := [] }) h).2]
    rfl

end Sys2Proof.Machine
end

