-- ==== Sys2Proof/Laws/Forms.lean ====
section
/-! SUPPORT. How exec's answers come to the forms of Safety.lean where the transmit queues have room: a taken message, a
reply, a notice, and the end of the event. -/

namespace Sys2Proof.Machine

/-! ## Room -/

theorem Roomy.mono {m n : Nat} {s : State} (h : Roomy n s) (hmn : m ≤ n) : Roomy m s :=
  ⟨h.1, fun p => by have := h.2 p; omega⟩

theorem Roomy.hasRoom {n : Nat} {s : State} (h : Roomy (n + 1) s) (p : Port) : txHasRoom p s = true := by
  have := h.2 p
  simp only [txHasRoom, Config.txCapacity]
  exact decide_eq_true (by omega)

/-- Room is a matter of the link unit alone. -/
theorem Roomy.of_link {n : Nat} {s t : State} (h : Roomy n s) (hl : t.link = s.link) : Roomy n t := by
  simpa [Roomy, txQueue, portState, hl] using h

@[simp] theorem txQueue_appended_same (p : Port) (f : Frame) (s : State) :
    txQueue p (appended p f s) = txQueue p s ++ [f] := by
  simp [appended, txQueue]

theorem txQueue_appended_other {p q : Port} (f : Frame) (s : State) (h : q ≠ p) :
    txQueue q (appended p f s) = txQueue q s := by
  simp [appended, txQueue, portState_setPortState_other _ _ h]

theorem Roomy.appended {n : Nat} {s : State} (h : Roomy (n + 1) s) (p : Port) (f : Frame) :
    Roomy n (appended p f s) := by
  refine ⟨by simpa [Machine.appended] using h.1, fun q => ?_⟩
  have := h.2 q
  by_cases hq : q = p
  · subst hq; simp; omega
  · rw [txQueue_appended_other f s hq]; omega

/-- A message that finds room is appended. -/
theorem post_of_roomy {n : Nat} {s : State} (h : Roomy (n + 1) s) (p : Port) (f : Frame) :
    post p f s = appended p f s :=
  post_of_room (h.hasRoom p)

/-! ## Notices to several ports -/

theorem postTo_of_room (ps : List Port) (f : Frame) (s : State) (hnd : ps.Nodup)
    (h : ∀ p ∈ ps, txHasRoom p s = true) : postTo ps f s = ps.foldl (fun s p => appended p f s) s := by
  induction ps generalizing s with
  | nil => rfl
  | cons p ps ih =>
    simp only [List.nodup_cons] at hnd
    have hp : post p f s = appended p f s := post_of_room (h p (by simp))
    have : postTo (p :: ps) f s = postTo ps f (appended p f s) := by simp [postTo, hp]
    rw [this, ih _ hnd.2]
    · rfl
    · intro q hq
      have hqp : q ≠ p := fun e => hnd.1 (e ▸ hq)
      have := h q (by simp [hq])
      simpa [txHasRoom, txQueue_appended_other f s hqp] using this

theorem nodup_stateSubscribers (s : State) : (stateSubscribers s).Nodup :=
  List.Nodup.filter _ (by decide)

theorem nodup_logSubscribers (c : LogClass) (s : State) : (logSubscribers c s).Nodup :=
  List.Nodup.filter _ (by decide)

/-- A STATE notice that finds room everywhere is announced. -/
theorem postState_of_roomy {n : Nat} {s : State} (h : Roomy (n + 1) s) (c : StateChange) :
    postState c s = announced c s :=
  postTo_of_room _ _ _ (nodup_stateSubscribers s) fun p _ => h.hasRoom p

theorem Roomy.foldAppended {n : Nat} (f : Frame) (ps : List Port) (hnd : ps.Nodup) {s : State} (h : Roomy (n + 1) s) :
    Roomy n (ps.foldl (fun s p => Machine.appended p f s) s) := by
  suffices H : ∀ (ps : List Port) (s : State), ps.Nodup → s.link.dropped = [] →
      (∀ q, q ∈ ps → (txQueue q s).length + (n + 1) ≤ 32) → (∀ q, (txQueue q s).length + n ≤ 32) →
      Roomy n (ps.foldl (fun s p => Machine.appended p f s) s) from
    H ps s hnd h.1 (fun q _ => h.2 q) fun q => by have := h.2 q; omega
  intro ps
  induction ps with
  | nil => intro s _ hd _ hb; exact ⟨hd, hb⟩
  | cons p ps ih =>
    intro s hnd hd ha hb
    simp only [List.nodup_cons] at hnd
    refine ih _ hnd.2 (by simpa [Machine.appended] using hd) (fun q hq => ?_) fun q => ?_
    · have hqp : q ≠ p := fun e => hnd.1 (e ▸ hq)
      rw [txQueue_appended_other f s hqp]; exact ha q (by simp [hq])
    · by_cases e : q = p
      · subst e; have := ha q (by simp); simp; omega
      · rw [txQueue_appended_other f s e]; exact hb q

theorem Roomy.announced {n : Nat} {s : State} (h : Roomy (n + 1) s) (c : StateChange) :
    Roomy n (announced c s) :=
  Roomy.foldAppended _ _ (nodup_stateSubscribers s) h

/-! ## Taking a message and ending the event -/

theorem beginMessage_eq_silent (p : Port) (s : State) : beginMessage p s = silent p s := rfl

/-- The restart of the claim's timer touches run control alone. -/
theorem restartClaimTimer_link (p : Port) (s : State) : (restartClaimTimer p s).link = s.link := by
  unfold restartClaimTimer; split
  · split <;> simp
  · rfl

theorem Roomy.silent {n : Nat} {s : State} (h : Roomy n s) (p : Port) : Roomy n (silent p s) := by
  have hl : (Machine.silent p s).link = (setPortState p { portState p s with receiver := .idle } s).link :=
    restartClaimTimer_link _ _
  refine Roomy.of_link ?_ hl
  refine ⟨h.1, fun q => ?_⟩
  have := h.2 q
  by_cases e : q = p
  · subst e; simpa [txQueue] using this
  · simpa [txQueue, portState_setPortState_other _ _ e] using this

/-- A reply to a taken message, in one form. -/
theorem appended_silent (p : Port) (f : Frame) (s : State) : appended p f (silent p s) = replied p f s := by
  unfold replied silent appended restartClaimTimer
  cases s with
  | mk pending pins reg lines run setup store entry track calls carrier verify disp bundles fault link free =>
  cases run with
  | mk gate claim =>
  cases link with
  | mk ports dropped =>
  cases ports
  cases claim with
  | none => cases p <;> rfl
  | some c =>
    by_cases hc : c.holder = p <;>
      cases p <;> simp_all [setPortState, portState, txQueue, portGet, portSet, State.setLink, State.setRun]

/-- An event that leaves room ends with no further change. -/
theorem settle_of_roomy {n : Nat} {s : State} (h : Roomy n s) : settle s = s := settle_of_none h.1

/-- A message whose effect is one reply. -/
theorem answerMessage_reply {n : Nat} {s : State} (h : Roomy (n + 1) s) (p : Port) (f : Frame)
    (effect : State → State) (he : effect (silent p s) = post p f (silent p s)) :
    answerMessage p effect s = .next (replied p f s) := by
  have hr := h.silent p
  rw [answerMessage, beginMessage_eq_silent, he, post_of_roomy hr, settle_of_roomy (hr.appended p f),
    appended_silent]

/-! ## Setters under a taken message

Taking a message touches the link unit and run control alone, so it commutes with every other setter. -/

theorem silent_setPins (p : Port) (s : State) (x) : silent p (s.setPins x) = (silent p s).setPins x := by
  unfold silent restartClaimTimer
  cases h : s.run.claim with
  | none => simp [h]; rfl
  | some c => by_cases hc : c.holder = p <;> simp [h, hc] <;> rfl

theorem silent_setReg (p : Port) (s : State) (x) : silent p (s.setReg x) = (silent p s).setReg x := by
  unfold silent restartClaimTimer
  cases h : s.run.claim with
  | none => simp [h]; rfl
  | some c => by_cases hc : c.holder = p <;> simp [h, hc] <;> rfl

theorem silent_setLines (p : Port) (s : State) (x) : silent p (s.setLines x) = (silent p s).setLines x := by
  unfold silent restartClaimTimer
  cases h : s.run.claim with
  | none => simp [h]; rfl
  | some c => by_cases hc : c.holder = p <;> simp [h, hc] <;> rfl

theorem silent_setSetup (p : Port) (s : State) (x) : silent p (s.setSetup x) = (silent p s).setSetup x := by
  unfold silent restartClaimTimer
  cases h : s.run.claim with
  | none => simp [h]; rfl
  | some c => by_cases hc : c.holder = p <;> simp [h, hc] <;> rfl

theorem silent_setStore (p : Port) (s : State) (x) : silent p (s.setStore x) = (silent p s).setStore x := by
  unfold silent restartClaimTimer
  cases h : s.run.claim with
  | none => simp [h]; rfl
  | some c => by_cases hc : c.holder = p <;> simp [h, hc] <;> rfl

theorem silent_setEntry (p : Port) (s : State) (x) : silent p (s.setEntry x) = (silent p s).setEntry x := by
  unfold silent restartClaimTimer
  cases h : s.run.claim with
  | none => simp [h]; rfl
  | some c => by_cases hc : c.holder = p <;> simp [h, hc] <;> rfl

theorem silent_setTrack (p : Port) (s : State) (x) : silent p (s.setTrack x) = (silent p s).setTrack x := by
  unfold silent restartClaimTimer
  cases h : s.run.claim with
  | none => simp [h]; rfl
  | some c => by_cases hc : c.holder = p <;> simp [h, hc] <;> rfl

theorem silent_setCallOutstanding (p : Port) (s : State) (x) : silent p (s.setCallOutstanding x) = (silent p s).setCallOutstanding x := by
  unfold silent restartClaimTimer
  cases h : s.run.claim with
  | none => simp [h]; rfl
  | some c => by_cases hc : c.holder = p <;> simp [h, hc] <;> rfl

theorem silent_setCarrier (p : Port) (s : State) (x) : silent p (s.setCarrier x) = (silent p s).setCarrier x := by
  unfold silent restartClaimTimer
  cases h : s.run.claim with
  | none => simp [h]; rfl
  | some c => by_cases hc : c.holder = p <;> simp [h, hc] <;> rfl

theorem silent_setVerify (p : Port) (s : State) (x) : silent p (s.setVerify x) = (silent p s).setVerify x := by
  unfold silent restartClaimTimer
  cases h : s.run.claim with
  | none => simp [h]; rfl
  | some c => by_cases hc : c.holder = p <;> simp [h, hc] <;> rfl

theorem silent_setDisp (p : Port) (s : State) (x) : silent p (s.setDisp x) = (silent p s).setDisp x := by
  unfold silent restartClaimTimer
  cases h : s.run.claim with
  | none => simp [h]; rfl
  | some c => by_cases hc : c.holder = p <;> simp [h, hc] <;> rfl

theorem silent_setBundles (p : Port) (s : State) (x) : silent p (s.setBundles x) = (silent p s).setBundles x := by
  unfold silent restartClaimTimer
  cases h : s.run.claim with
  | none => simp [h]; rfl
  | some c => by_cases hc : c.holder = p <;> simp [h, hc] <;> rfl

theorem silent_setFault (p : Port) (s : State) (x) : silent p (s.setFault x) = (silent p s).setFault x := by
  unfold silent restartClaimTimer
  cases h : s.run.claim with
  | none => simp [h]; rfl
  | some c => by_cases hc : c.holder = p <;> simp [h, hc] <;> rfl

theorem silent_setPending (p : Port) (s : State) (x) : silent p (s.setPending x) = (silent p s).setPending x := by
  unfold silent restartClaimTimer
  cases h : s.run.claim with
  | none => simp [h]; rfl
  | some c => by_cases hc : c.holder = p <;> simp [h, hc] <;> rfl

theorem silent_setFreeTaken (p : Port) (s : State) (x) : silent p (s.setFreeTaken x) = (silent p s).setFreeTaken x := by
  unfold silent restartClaimTimer
  cases h : s.run.claim with
  | none => simp [h]; rfl
  | some c => by_cases hc : c.holder = p <;> simp [h, hc] <;> rfl

/-! ## What a taken message leaves -/

@[simp] theorem silent_keeps (p : Port) (s : State) :
    (silent p s).pending = s.pending ∧ (silent p s).pins = s.pins ∧ (silent p s).reg = s.reg ∧
    (silent p s).lines = s.lines ∧ (silent p s).setup = s.setup ∧ (silent p s).store = s.store ∧
    (silent p s).entry = s.entry ∧ (silent p s).track = s.track ∧
    (silent p s).callOutstanding = s.callOutstanding ∧ (silent p s).carrier = s.carrier ∧
    (silent p s).verify = s.verify ∧ (silent p s).disp = s.disp ∧ (silent p s).bundles = s.bundles ∧
    (silent p s).fault = s.fault ∧ (silent p s).freeTaken = s.freeTaken ∧ (silent p s).run.gate = s.run.gate := by
  unfold silent restartClaimTimer
  cases h : s.run.claim with
  | none => simp [h]
  | some c => by_cases hc : c.holder = p <;> simp [h, hc]

/-- Taking a message leaves the holder of the claim. -/
theorem isHolder_silent (p q : Port) (s : State) : isHolder q (silent p s) = isHolder q s := by
  unfold isHolder silent restartClaimTimer
  cases h : s.run.claim with
  | none => simp [h]
  | some c => by_cases hc : c.holder = p <;> simp [h, hc]

/-- Taking a message leaves a free claim free. -/
theorem claim_silent_none {p : Port} {s : State} (h : s.run.claim = none) : (silent p s).run = s.run := by
  simp [silent, restartClaimTimer, h]

/-- Taking a message of the holder starts the claim's timer again. -/
theorem claim_silent_holder {p : Port} {n : Nat} {s : State} (h : s.run.claim = some { holder := p, elapsed := n }) :
    (silent p s).run = { s.run with claim := some { holder := p, elapsed := 0 } } := by
  simp [silent, restartClaimTimer, h]

/-- Taking a message of another port leaves the claim. -/
theorem claim_silent_other {p q : Port} {n : Nat} {s : State} (h : s.run.claim = some { holder := q, elapsed := n })
    (hpq : p ≠ q) : (silent p s).run = s.run := by
  simp [silent, restartClaimTimer, h, Ne.symm hpq]

/-- Taking a message commutes with a change of the gate. -/
theorem silent_setGate (p : Port) (g : GateState) (s : State) :
    silent p (s.setRun { s.run with gate := g }) = (silent p s).setRun { (silent p s).run with gate := g } := by
  unfold silent restartClaimTimer
  cases h : s.run.claim with
  | none => simp [h]; rfl
  | some c => by_cases hc : c.holder = p <;> simp [h, hc] <;> rfl

/-- A message whose effect is a change that commutes with its being taken, and one reply. -/
theorem answerMessage_effect {n : Nat} {s t : State} (h : Roomy (n + 1) s) (hl : t.link = s.link) (p : Port)
    (f : Frame) (effect : State → State) (he : effect (silent p s) = post p f (silent p t)) :
    answerMessage p effect s = .next (replied p f t) := by
  have hr := (h.of_link hl).silent p
  rw [answerMessage, beginMessage_eq_silent, he, post_of_roomy hr, settle_of_roomy (hr.appended p f),
    appended_silent]

/-- A message whose effect is a change, one reply and a STATE notice. -/
theorem answerMessage_announce {n : Nat} {s t : State} (h : Roomy (n + 2) s) (hl : t.link = s.link) (p : Port)
    (f : Frame) (c : StateChange) (effect : State → State)
    (he : effect (silent p s) = postState c (post p f (silent p t))) :
    answerMessage p effect s = .next (announced c (replied p f t)) := by
  have hr := (h.of_link hl).silent p
  have ha := hr.appended p f
  rw [answerMessage, beginMessage_eq_silent, he, post_of_roomy hr, postState_of_roomy ha,
    settle_of_roomy (ha.announced c), appended_silent]

/-- A message that changes nothing but its receiver and the claim's timer, up to a change that commutes with its being
taken. -/
theorem answerMessage_silent {n : Nat} {s t : State} (h : Roomy n s) (hl : t.link = s.link) (p : Port)
    (effect : State → State) (he : effect (silent p s) = silent p t) :
    answerMessage p effect s = .next (silent p t) := by
  rw [answerMessage, beginMessage_eq_silent, he, settle_of_roomy ((h.of_link hl).silent p)]

end Sys2Proof.Machine
end

