-- ==== Sys2Proof/Laws/Marks.lean ====
section
/-! SUPPORT. What a handed-on piece kind does to the track: the piece at its position is marked, every other entry stays. -/

namespace Sys2Proof.Machine

/-- The answer REJECT or STOP sets reject due, and nothing else is marked (log 28). -/
theorem markRejectDue_eq (a : Action) (x : Piece) :
    markRejectDue a x = { x with rejectDue := x.rejectDue || decide (a = .reject ∨ a = .stop) } := by
  cases a <;> simp [markRejectDue]

/-- The answer REJECT or STOP sets reject due (R79). -/
theorem markPiece_rejectDue (k : FaultKind) (a : Action) (x : Piece) :
    (markPiece k a x).rejectDue = (x.rejectDue || decide (a = .reject ∨ a = .stop)) := by
  cases a <;> simp [markPiece]

/-- The piece at a position changed, and no other entry. -/
theorem pieceAt_updatePiece (p q : Nat) (f : Piece → Piece) (s : State) :
    pieceAt q (updatePiece p f s) = if q = p then (pieceAt p s).map f else pieceAt q s := by
  unfold updatePiece
  split
  · rename_i x hx
    by_cases h : q = p
    · subst h
      have hq : q < s.track.length := by
        by_contra hge
        simp [pieceAt, List.getElem?_eq_none (Nat.le_of_not_lt hge)] at hx
      rw [if_pos rfl, hx]
      simp [setEntryAt, pieceAt, hq]
    · simp [h, setEntryAt, pieceAt, List.getElem?_set_ne (Ne.symm h)]
  · rename_i hx
    by_cases h : q = p <;> simp [h, hx]

/-- The piece handed on is marked by the answer, and no other (R79, R151). -/
theorem pieceAt_raiseMarking (m : Action → Piece → Piece) (k : FaultKind) (src : Source) (p q : Nat) (s : State) :
    pieceAt q (raiseMarking m k src p s) =
      if q = p then (pieceAt p s).map (m (actionOf k s)) else pieceAt q s := by
  unfold raiseMarking
  split
  · rename_i hx
    by_cases h : q = p <;> simp [h, hx]
  · rw [pieceAt_updatePiece]
    simp [pieceAt]

end Sys2Proof.Machine
end

