-- ==== Sys2Proof/Tests/Slice0.lean ====
section
/-! SUPPORT. The model's own tests: the refusals of the well-formedness check, small runs of each family of commands, and
for each statement of Certificates/Slice0/Obligations.lean with hypotheses a state that meets them. -/

namespace Sys2Proof.Tests

open Sys2Proof Sys2Proof.Machine

/-! ## Small states -/

/-- The state that exec answers. -/
def after (c : Instr) (s : State) : State :=
  match exec c s with
  | .next t => t
  | .fault _ => s
  | .refused _ => s

/-- The state after commands in turn. -/
def run : List Instr → State → State
  | [], s => s
  | c :: cs, s => run cs (after c s)

/-- A geometry at the least values of most of its ranges. -/
def geo : Geometry where
  divider := 1
  pitch := 16
  chainLength := 8
  tolerance := 1
  applicator := 2
  verify := some 3
  wrap := 4
  gate := 5
  depth := 2
  dumpPhase := 1
  dumpWidth := 1
  applyPhase := 2
  applyWidth := 1
  gatePhase := 3
  gateWidth := 2
  bays := 2
  remakeLimit := 1

/-- Station 0 with alternate 1, both carrying item 0. -/
def station0 : Station :=
  { position := 1, item := 0, alternate := some 1, callPhase := 1, callWidth := 2, detectPhase := 5, on := true }

def station1 : Station :=
  { position := 1, item := 0, alternate := none, callPhase := 1, callWidth := 2, detectPhase := 5, on := true }

def record7 : Record := { key := 7, bundle := 1, items := 1, attempt := 0, lines := [[0x41, 0x42]] }

/-- The LOAD of `record7`. -/
def load7 : List Byte := [0, 0, 0, 7, 0, 0, 1, 0, 1, 1, 2, 0x41, 0x42]

def bundle1 : Bundle :=
  { number := 1, bay := 0, state := .filling, short := false, inFlight := 1, inLane := 0, delivered := 0,
    offSequence := 0, suspects := 0, tieTimer := none }

def piece7 : Piece :=
  { tag := 1, pocket := 3, record := record7, source := .queue, plan := [{ item := 0, station := 0, result := .pending }],
    extra := 0, carrier := some 1, fate := .awaiting, reprints := 0, applied := none, verify := .pending, wrap := none,
    faults := 0, firstKind := none, rejectDue := false, proof := false }

/-- A machine set up, registered, loading job 5, with its gate open and nothing held. -/
def ready : State :=
  { State.reset with
    reg := { Registration.powerOn with state := .registered, pocketIndex := 3 }
    run := { gate := .opened, claim := none }
    setup :=
      { geometry := some geo
        stations := ((Vector.replicate 12 none).set 0 (some station0)).set 1 (some station1) }
    store := { Store.powerOn with jobNumber := some 5, jobState := .loading }
    track := List.replicate 6 (.empty none 0) }

/-- `ready` with the gate in a state and the claim held by the line port. -/
def held (g : GateState) : State := ready.setRun { gate := g, claim := some { holder := .line, elapsed := 9 } }

/-- `ready` with `record7` waiting in the queue. -/
def waiting : State :=
  ready.setStore { ready.store with queue := [record7], map := [(7, .queue)], textUsed := 2, loadMark := 1 }

/-- `ready` with a piece of `record7` at a position and its order in the carrier queue. -/
def travelling (x : Piece) (p : Nat) (o : List Order) : State :=
  { ready with
    store := { ready.store with map := [(7, .track)], textUsed := 2, loadMark := 1 }
    track := (List.replicate 6 (TrackEntry.empty none 0)).set p (.piece x)
    carrier := { mode := .run, queue := o, printedCount := 0, nextOrder := 2 }
    bundles := { table := [bundle1], bays := (Vector.replicate 16 none).set 0 (some 1) } }

def order1 (x : OrderState) : Order := { number := 1, tag := 1, state := x }

/-- The transmit queues of a state after power-on have 32 places each. -/
theorem roomy_of_powerOn {s : State} (h : s.link = LinkUnit.powerOn) (n : Nat) (hn : n ≤ 32) : Roomy n s := by
  refine Roomy.of_link (s := State.reset) ⟨rfl, fun p => ?_⟩ h
  cases p <;> (show 0 + n ≤ 32) <;> omega

/-! ## The well-formedness check refuses -/

/-- A message with 241 payload bytes is refused, whichever it is. -/
theorem test_wf_payload :
    ([Instr.status, .claim, .release, .subscribe, .setSpeed, .readLog, .clearLog, .readCounts, .clearCounts, .readTrack,
      .readQueue, .readBundle, .readOrders, .setGeometry, .setStation, .clearStation, .setAction, .setLockout, .restart,
      .setLineMask, .run, .hold, .drain, .stopClear, .chainClear, .stationOn, .stationOff, .proof, .alertClear,
      .wrapFault, .jobOpen, .load, .withdraw, .jobEnd, .jobAbort, .closeShort, .printed, .spoiled, .orderWithdrawn,
      .orderLate, .codeRead, .noRead, .purged, .tied, .jam].all fun f =>
        !(f .line 1 (List.replicate 241 0)).wellFormed && (f .line 1 (List.replicate 240 0)).wellFormed) = true := by
  decide +kernel

theorem test_wf_order :
    (Instr.encoderPulse 0 0 [.window, .window]).wellFormed = false ∧
      (Instr.homeMark [.entry, .entry]).wellFormed = false ∧
      (Instr.encoderPulse 0 0 [.window, .station 3]).wellFormed = true := by decide

theorem test_wf_bundle :
    (Instr.tieTimerExpiry 0).wellFormed = false ∧ (Instr.tieTimerExpiry 16777216).wellFormed = false ∧
      (Instr.tieTimerExpiry 16777215).wellFormed = true := by decide

theorem test_wf_kind :
    (Instr.unknownKind .line 0x31 1).wellFormed = false ∧ (Instr.unknownKind .line 0x36 1).wellFormed = true := by
  decide

/-- No row of the table gives bits, so no word spells a command. -/
theorem test_no_word : decodeTableWord 8 0x21 = none ∧ State.reset.withFetchWord 8 0x21 = State.reset := ⟨rfl, rfl⟩

/-! ## The link -/

/-- R165's example: the check byte of a SET SPEED with no payload. -/
theorem test_check_byte : crc8 [0x01, 0x05, 0x00] = 0x2A := by decide +kernel

/-- A CLAIM, character by character: 02h 09h 00h with its check byte is answered ACCEPT. -/
theorem test_characters :
    txQueue .line (run ([(0x02, true), (0x09, false), (0x00, false), (crc8 [0x02, 0x09, 0x00], false)].map fun c =>
      .receiveCharacter .line { data := c.1, marker := c.2, stopGood := true }) State.reset) =
      [acceptFrame 9 []] := by decide +kernel

theorem test_length_above_240 :
    (run ([(0x02, true), (0x09, false), (0xF1, false)].map fun c =>
      .receiveCharacter .line { data := c.1, marker := c.2, stopGood := true }) State.reset).fault.counts[18] = 1 := by
  decide

theorem test_check_fail :
    txQueue .line (after (.checkFail .line 0x02 4) State.reset) = [checkFailFrame 4] ∧
      txQueue .line (after (.checkFail .line 0x40 4) State.reset) = [] := by decide

theorem test_gap_expiry :
    (portState .line (after (.gapLimitExpiry .line)
      (after (.receiveCharacter .line { data := 2, marker := true, stopGood := true }) State.reset))).receiver = .idle := by
  decide

theorem test_unknown_kind :
    txQueue .carrier (after (.unknownKind .carrier 0x7F 3) State.reset) = [refuseFrame 3 .unknownKind] := by decide

theorem test_set_speed :
    (portState .line (run [.setSpeed .line 1 [6], .messageSent .line] State.reset)).speed = 6 ∧
      (portState .line (run [.setSpeed .line 1 [6], .speedChange .line] State.reset)).speed = 6 ∧
      txQueue .line (after (.setSpeed .line 1 [7]) State.reset) = [refuseFrame 1 .outOfRange] := by decide

theorem test_status_length :
    ((txQueue .line (after (.status .line 1 []) State.reset)).map fun f => f.payload.length) = [187] := by decide +kernel

/-! ## Run control, the claim and the fault unit -/

theorem test_claim :
    (run [.claim .line 1 [], .claim .address 2 []] State.reset).run.claim = some { holder := .line, elapsed := 0 } ∧
      (run [.claim .line 1 [], .release .line 2 []] State.reset).run.claim = none ∧
      (run [.claim .line 1 [], .claimExpiry] State.reset).run.claim = none := by decide

theorem test_gate :
    (after (.hold .line 1 []) ready).run.gate = .closed ∧ (after (.drain .line 1 []) ready).run.gate = .drain ∧
      (run [.hold .line 1 [], .run .line 2 []] ready).run.gate = .opened ∧
      (after (.run .line 1 []) State.reset).run.gate = .closed := by decide

theorem test_stop_clear :
    (run [.tieTimerExpiry 1, .jam .delivery 1 [255]] ready).run.gate = .halt ∧
      (run [.jam .delivery 1 [255], .stopClear .line 2 []] ready).run.gate = .closed := by decide

theorem test_actions :
    actionOf .linkError (after (.setAction .line 1 [19, 3, 1]) (held .closed)) = .stop ∧
      txQueue .line (after (.setAction .line 1 [20, 0, 0]) (held .closed)) = [refuseFrame 1 .outOfRange] := by decide

theorem test_lines :
    (run [.jam .delivery 1 [0], .alertClear .line 2 []] ready).fault.alarm = false ∧
      (after (.jam .delivery 1 [0]) ready).fault.alarm = true ∧
      (run [.setLineMask .line 1 [1], .jam .delivery 1 [0]] (held .closed)).fault.alarm = false := by decide

theorem test_logs :
    (after (.jam .delivery 1 [0]) ready).fault.stopLog.isSome = true ∧
      (run [.jam .delivery 1 [0], .clearLog .line 2 [0]] ready).fault.stopLog = none ∧
      ((txQueue .line (after (.readLog .line 1 [1]) State.reset)).map Frame.payload) = [[1, 0]] := by decide

theorem test_counts :
    (run [.jam .delivery 1 [0], .clearCounts .line 2 []] ready).fault.counts[16] = 0 ∧
      (after (.jam .delivery 1 [0]) ready).fault.counts[16] = 1 ∧
      ((txQueue .line (after (.readCounts .line 1 []) State.reset)).map fun f => f.payload.length) = [88] := by decide

theorem test_subscribe :
    subscription .line (after (.subscribe .line 1 [2]) State.reset) = { stop := false, reject := true, state := false } := by
  decide

/-! ## Setup -/

theorem test_set_geometry :
    (run [.claim .line 1 [], .setGeometry .line 2 (geometryBytes geo)] State.reset).setup.geometry = some geo ∧
      (run [.claim .line 1 [], .setGeometry .line 2 (geometryBytes geo)] State.reset).track.length = 6 ∧
      (run [.claim .line 1 [], .setGeometry .line 2 (geometryBytes { geo with gate := 4 })]
        State.reset).setup.geometry = none := by decide

theorem test_stations :
    stationAt 0 (after (.setStation .line 1 [0, 1, 0, 1, 0, 1, 0, 2, 0, 5]) (held .closed)) = some station0 ∧
      stationAt 0 (after (.clearStation .line 1 [0]) (held .closed)) = none ∧
      (stationAt 0 (after (.stationOff .line 1 [0]) ready)).map Station.on = some false ∧
      (stationAt 0 (run [.stationOff .line 1 [0], .stationOn .line 2 [0]] ready)).map Station.on = some true := by decide

theorem test_lockout :
    (after (.setLockout .line 1 [0, 7, 0, 2, 0, 7]) (held .closed)).entry.lockout = [2, 7] ∧
      (after (.setLockout .line 1 [0, 8]) (held .closed)).entry.lockout = [] := by decide

theorem test_restart :
    (after (.restart .line 1 []) (held .halt)).setup.geometry = some geo ∧
      (after (.restart .line 1 []) (held .halt)).run.gate = .closed ∧
      txQueue .line (after (.restart .line 1 []) (held .halt)) = [acceptFrame 1 [], stateFrame .restart] := by decide

theorem test_power_on : after .powerOn ready = State.reset := rfl

/-! ## The dispatch store -/

theorem test_job_open :
    (after (.jobOpen .address 1 [0, 5]) State.reset).store.jobState = .loading ∧
      (after (.jobOpen .address 1 [0, 0]) State.reset).store.jobState = .noJob := by decide

theorem test_load :
    (after (.load .address 1 load7) ready).store.queue = [record7] ∧
      (after (.load .address 1 load7) ready).store.textUsed = 2 ∧
      (run [.load .address 1 load7, .load .address 2 load7] ready).store.queue = [record7] := by decide

theorem test_withdraw :
    (after (.withdraw .address 1 [0, 0, 0, 7]) waiting).store = { ready.store with loadMark := 1 } := by decide

theorem test_job_end :
    (after (.jobEnd .address 1 []) waiting).store.jobState = .ended ∧
      (after (.jobEnd .address 1 []) ready).store.jobState = .noJob := by decide

theorem test_job_abort :
    (after (.jobAbort .address 1 []) waiting).store.jobState = .noJob ∧
      outcomeFrame record7 .aborted ∈ txQueue .address (after (.jobAbort .address 1 []) waiting) ∧
      (after (.jobAbort .address 1 []) waiting).run.gate = .closed := by decide

theorem test_close_short :
    txQueue .address (after (.closeShort .address 1 [0, 0, 1]) waiting) = [refuseFrame 1 .unknownKey] ∧
      ((after (.closeShort .address 1 [0, 0, 1]) ((travelling piece7 1 []).setBundles
        { table := [{ bundle1 with state := .sealed }], bays := (Vector.replicate 16 none).set 0 (some 1) })).bundles.table.map
          Bundle.short) = [true] := by decide

theorem test_backlog_release :
    (after .outcomeBacklogRelease (waiting.setStore { waiting.store with backlog := [(7, .short)] })).store.map = [] := by
  decide

/-! ## The chain -/

/-- At the boundary after 16 counts a record enters with tag 1 and order 1. -/
theorem test_entry :
    (pieceAt 0 (after (.encoderPulse 0 0 [])
      (waiting.setReg { waiting.reg with phase := 15 }))).map (fun x => (x.tag, x.carrier, x.pocket)) =
        some (1, some 1, 4) ∧
      txQueue .carrier (after (.encoderPulse 0 0 []) (waiting.setReg { waiting.reg with phase := 15 })) =
        [printFrame 1 record7] := by decide

/-- Station 0 calls at phase 1, and its detect lines at phase 5 read FED. -/
theorem test_feed :
    (after (.encoderPulse 0 0 []) (travelling piece7 1 [])).callOutstanding[0] = true ∧
      ((pieceAt 1 (after (.encoderPulse 1 0 []) (((travelling piece7 1 []).setReg
        { ready.reg with phase := 4 }).setCallOutstanding ((Vector.replicate 12 false).set 0 true)))).map Piece.plan) =
          some [{ item := 0, station := 0, result := .fed }] := by decide +kernel

theorem test_home_mark :
    (after (.homeMark []) (ready.setReg .powerOn)).reg.state = .seeking ∧
      (run [.homeMark [], .homeMark []] ready).reg.state = .lost ∧
      (run [.homeMark [], .homeMark [], .chainClear .line 1 []] ready).reg.chainClearPending = false := by decide

/-! ## Carrier, verify and wrap -/

theorem test_printed :
    (after (.printed .carrier 1 [0, 0, 1]) (travelling piece7 1 [order1 .issued])).carrier.queue = [order1 .printed] ∧
      (after (.printed .carrier 1 [0, 0, 2]) (travelling piece7 1 [order1 .issued])).carrier.mode = .hold .overrun := by
  decide

theorem test_spoiled :
    (after (.spoiled .carrier 1 [0, 0, 1]) (travelling piece7 1 [order1 .issued])).carrier.queue =
        [{ number := 2, tag := 1, state := .issued }] ∧
      ((pieceAt 1 (after (.spoiled .carrier 1 [0, 0, 1])
        (travelling { piece7 with reprints := 2 } 1 [order1 .issued]))).map Piece.fate) = some .void := by decide

theorem test_withdrawal_answers :
    (after (.orderWithdrawn .carrier 1 [0, 0, 1]) (travelling piece7 1 [order1 .withdrawing])).carrier.queue = [] ∧
      (after (.orderLate .carrier 1 [0, 0, 1]) (travelling piece7 1 [order1 .withdrawing])).carrier.queue =
        [order1 .wastePending] := by decide

theorem test_purged :
    (run [.printed .carrier 1 [0, 0, 9], .purged .carrier 2 []] ready).carrier.mode = .run := by decide

theorem test_apply :
    ((pieceAt 2 (after (.encoderPulse 0 0 []) ((travelling piece7 2 [order1 .printed]).setReg
      { ready.reg with phase := 1 }))).map Piece.applied) = some (some 1) := by decide +kernel

theorem test_code_read :
    ((pieceAt 3 (after (.codeRead .carrier 1 [0, BitVec.ofNat 8 (matchCode 1)])
      (travelling { piece7 with fate := .applied, applied := some 1, carrier := none } 3 []))).map Piece.verify) =
        some .match_ ∧
      ((pieceAt 3 (after (.noRead .carrier 1 [])
        (travelling { piece7 with fate := .applied, applied := some 1, carrier := none } 3 []))).map Piece.verify) =
          some .unread := by decide

theorem test_wrap_fault :
    ((pieceAt 4 (after (.wrapFault .line 1 [0, 8]) (travelling piece7 4 []))).map Piece.rejectDue) = some true ∧
      (after (.wrapFault .line 1 [0, 9]) (travelling piece7 4 [])).fault.counts[17] = 1 := by decide

/-! ## Disposition and bundles -/

/-- A piece without a reject due is delivered as it arrives at g. -/
theorem test_delivered :
    pieceFrame 1 7 1 0 ∈ txQueue .delivery (after (.encoderPulse 0 0 [])
      ((travelling { piece7 with carrier := none, fate := .applied, verify := .match_ } 4 []).setReg
        { ready.reg with phase := 15 })) := by decide

/-- A piece with a reject due goes to the lane with its attempt raised, and the gate line is asserted at its phase. -/
theorem test_rejected :
    ((after (.encoderPulse 0 0 []) ((travelling { piece7 with carrier := none, rejectDue := true } 4 []).setReg
      { ready.reg with phase := 15 })).store.lane.map Record.attempt) = [1] ∧
      (after (.encoderPulse 0 0 []) ((ready.setReg { ready.reg with phase := 2 }).setDisp
        { gateDue := some { reject := none, pocket := none }, confirms := [], proofPending := false })).lines.gate =
          some 5 := by decide +kernel

theorem test_confirm :
    (after .gateConfirm (ready.setDisp
      { gateDue := none, confirms := [{ reject := none, seen := 0 }], proofPending := false })).disp.confirms = [] ∧
      (after .gateConfirm ready).fault.counts[15] = 1 ∧
      (after .pendingConfirmExpiry (ready.setDisp
        { gateDue := none, confirms := [{ reject := none, seen := 1 }], proofPending := false })).fault.counts[14] = 1 ∧
      (after (.proof .line 1 []) ready).disp.proofPending = true := by decide

/-- A bundle in CLOSING with one piece delivered. -/
def closing : State :=
  ready.setBundles
    { table := [{ bundle1 with state := .closing, inFlight := 0, delivered := 1, suspects := 1, tieTimer := some 29999 }]
      bays := (Vector.replicate 16 none).set 0 (some 1) }

theorem test_tied :
    (after (.tied .delivery 1 [0, 0, 1, 0, 0, 2]) closing).bundles.table = [] ∧
      (after (.tied .delivery 1 [0, 0, 1, 0, 0, 3]) closing).fault.counts[16] = 1 := by decide

theorem test_tie_timer :
    (after (.tieTimerExpiry 1) closing).fault.counts[16] = 1 ∧
      (match step closing with
        | .next t => t.bundles.table.map Bundle.tieTimer
        | _ => []) = [none] := by decide

theorem test_reads :
    ((txQueue .line (after (.readTrack .line 1 [6]) ready)).map Frame.kind) = [0x61] ∧
      ((txQueue .line (after (.readTrack .line 1 [5]) ready)).map fun f => f.payload.take 2) = [[5, 0]] ∧
      ((txQueue .line (after (.readQueue .line 1 [0, 0]) waiting)).map Frame.kind) = [0x60] ∧
      ((txQueue .line (after (.readBundle .line 1 [0]) closing)).map Frame.kind) = [0x60] ∧
      ((txQueue .line (after (.readOrders .line 1 [0]) (travelling piece7 1 [order1 .issued]))).map Frame.kind) =
        [0x60] := by decide

/-! ## The mark window, alignments and counts at their limits -/

/-- A lower T does not reach the window that is open: it stays open past its new P−T with its mark seen, and closes at t+1
(R8, R18). -/
theorem test_open_window_keeps_its_bounds :
    (after (.encoderPulse 0 0 []) (ready.setReg { ready.reg with
      phase := 14, pocketIndex := 7,
      window := { isOpen := true, markSeen := true, tolerance := 2 } })).reg.window =
        { isOpen := true, markSeen := true, tolerance := 2 } := by decide +kernel

/-- After an alignment at q = 3 the phases 1 to 3 are not issued again in the pitch: no second dump at phase 1 (R9, R103). -/
theorem test_no_second_dump :
    let s := (travelling piece7 0 [order1 .waste]).setReg { ready.reg with state := .lost, phase := 3 }
    (run [.homeMark [], .encoderPulse 0 0 []] s).carrier.queue = [order1 .waste] ∧
      (run [.homeMark [], .encoderPulse 0 0 []] s).reg.issuedTo = 3 ∧
      (after (.encoderPulse 0 0 []) (s.setReg { s.reg with phase := 0 })).carrier.queue = [] := by decide +kernel

/-- A second wrap report under the same action leaves a piece whose wrap is FAULT as it is and is counted (R121). -/
theorem test_second_wrap_report :
    let s := run [.wrapFault .line 1 [0, 1], .wrapFault .line 2 [1, 1]] (travelling piece7 4 [])
    pieceAt 4 s = pieceAt 4 (after (.wrapFault .line 1 [0, 1]) (travelling piece7 4 [])) ∧
      s.fault.counts[8] = 2 := by decide

/-- A piece first reported under NOTE, and reported again once the action is REJECT: reject due is set, the fault set stays
(R79, R121, R151, log 28). -/
theorem test_wrap_report_under_a_new_action :
    let held4 := (travelling piece7 4 []).setRun (held .closed).run
    let s := run [.setAction .line 1 [9, 1, 0], .wrapFault .line 2 [0, 1]] held4
    let t := run [.setAction .line 3 [9, 2, 0], .wrapFault .line 4 [1, 1]] s
    actionOf .wrapFault s = .note ∧ actionOf .wrapFault t = .reject ∧
      (pieceAt 4 s).map (fun x => (x.wrap, x.faults, x.rejectDue)) = some (some .seal, 256, false) ∧
      (pieceAt 4 t).map (fun x => (x.wrap, x.faults, x.rejectDue)) = some (some .seal, 256, true) := by decide

/-- An accepted SET SPEED whose ACCEPT is dropped changes no speed (R164, R171, log 31). -/
theorem test_set_speed_with_a_dropped_accept :
    let s := setPortState .line { portState .line ready with tx := List.replicate 32 (acceptFrame 1 []) } ready
    let t := run (.setSpeed .line 1 [6] :: List.replicate 32 (.messageSent .line)) s
    (portState .line t).speed = (portState .line s).speed ∧ t.fault.stopLatch = true := by decide +kernel

/-- A delivered count at 16,777,215 goes on to the free value at hand (R136, log 24). -/
theorem test_count_at_its_limit (free : BitVec 24) :
    raiseCount free 16777214 = 16777215 ∧ raiseCount free 16777215 = free.toNat := ⟨rfl, rfl⟩

/-! ## Witnesses

For each statement of Certificates/Slice0/Obligations.lean with hypotheses, a state and operands that meet them together,
for each of its clauses, at the bounds of the ranges the clauses name. -/

/-- Room in the transmit queues of a state whose link unit is as after power-on. -/
theorem witness_room : Roomy 5 State.reset ∧ Roomy 5 ready ∧ Roomy 5 waiting ∧ Roomy 5 (held .halt) ∧ Roomy 5 closing ∧
    Roomy 5 (travelling piece7 1 [order1 .issued]) :=
  ⟨roomy_of_powerOn rfl 5 (by omega), roomy_of_powerOn rfl 5 (by omega), roomy_of_powerOn rfl 5 (by omega),
    roomy_of_powerOn rfl 5 (by omega), roomy_of_powerOn rfl 5 (by omega), roomy_of_powerOn rfl 5 (by omega)⟩

/-- What a gate due keeps of a rejected piece of `record7`. -/
def reject7 (proof : Bool) : Reject := { tag := 1, key := 7, bundle := 1, bay := 0, proof := proof }

/-- `ready` with the carrier unit in HOLD. -/
def inHold : State := ready.setCarrier { ready.carrier with mode := .hold .lost }

/-- The line port's receiver in a message, every other receiver IDLE. -/
def receiving (chars : List Byte) (gap : Nat) (s : State) : State :=
  setReceiver .line (.inMessage chars gap) s

/-- The line port's transmit queue replaced. -/
def sending (tx : List Frame) (s : State) : State := setPortState .line { portState .line s with tx := tx } s

/-- A claim, a tie timer and the gap of a message at given times, each where one is given. -/
def timing (claim tie gap : Option Nat) : State :=
  let s : State := { ready with
    run := { gate := .opened, claim := claim.map fun n => { holder := .line, elapsed := n } }
    bundles := { table := [{ bundle1 with state := .closing, tieTimer := tie }], bays := Vector.replicate 16 none } }
  match gap with
  | none => s
  | some n => receiving [1] n s

/-- A millisecond at the limits ends all three timers: no claim, a DELIVERY_FAULT and a LINK_ERROR (R29, R145, R167). -/
theorem test_timers_expire :
    let t := match step (timing (some 9999) (some 29999) (some 4)) with
      | .next t => t
      | _ => ready
    t.run.claim = none ∧ t.bundles.table.map Bundle.tieTimer = [none] ∧ (portState .line t).receiver = .idle ∧
      t.fault.counts[16] = 1 ∧ t.fault.counts[18] = 1 ∧ claimExpiredFrame ∈ txQueue .line t := by decide

/-- All three timers one millisecond short of their limits, and at them. -/
theorem witness_IdleStepCountsOneMillisecond :
    let s := timing (some 9998) (some 29998) (some 3)
    let t := timing (some 9999) (some 29999) (some 4)
    let tieDue := fun b : Bundle => b.tieTimer.any fun n => 30000 ≤ n + 1
    let gapDue := fun u p => match (portState p u).receiver with
      | .idle => false
      | .inMessage _ gap => decide (Config.gapLimit (portState p u).speed < gap + 1)
    s.pending = [] ∧ (bundleNumbers s).Nodup ∧ (∀ c, s.run.claim = some c → c.elapsed + 1 < 10000) ∧
      s.bundles.table.any tieDue = false ∧ allPorts.any (gapDue s) = false ∧
      t.pending = [] ∧ (bundleNumbers t).Nodup ∧ t.run.claim = some { holder := .line, elapsed := 9999 } ∧
      txHasRoom .line t = true ∧ t.bundles.table.any tieDue = true ∧ allPorts.any (gapDue t) = true ∧
      actionOf .deliveryFault t = .stop ∧ actionOf .linkError t ≠ .off ∧
      t.fault.counts[kindIndex .deliveryFault] ≤ 65535 ∧ t.fault.counts[kindIndex .linkError] ≤ 65535 := by
  refine ⟨rfl, by decide, ?_, by decide, by decide, rfl, by decide, rfl, by decide, by decide, by decide, by decide,
    by decide, by decide, by decide⟩
  rintro c ⟨⟩
  decide

/-- One timer alone, at its limit: the claim's, a bundle's, a receiver's. -/
theorem witness_OneTimerIsDue :
    (timing (some 9999) none none).run.claim = some { holder := .line, elapsed := 9999 } ∧ 10000 ≤ 9999 + 1 ∧
      (∀ b ∈ (timing (some 9999) none none).bundles.table, b.tieTimer = none) ∧
      (∀ p, (portState p (timing (some 9999) none none)).receiver = .idle) ∧
      (timing none (some 29999) none).run.claim = none ∧
      (timing none (some 29999) none).bundles.table = [{ bundle1 with state := .closing, tieTimer := some 29999 }] ∧
      (∀ p, (portState p (timing none (some 29999) none)).receiver = .idle) ∧
      (timing none none (some 4)).run.claim = none ∧
      (∀ b ∈ (timing none none (some 4)).bundles.table, b.tieTimer = none) ∧
      (portState .line (timing none none (some 4))).receiver = .inMessage [1] 4 ∧
      Config.gapLimit (portState .line (timing none none (some 4))).speed < 4 + 1 ∧
      (∀ q, q ≠ .line → (portState q (timing none none (some 4))).receiver = .idle) := by
  refine ⟨rfl, by decide, by decide, fun p => by cases p <;> rfl, rfl, rfl, fun p => by cases p <;> rfl, rfl, by decide,
    rfl, by decide, fun q h => ?_⟩
  cases q <;> first | rfl | exact absurd rfl h

theorem witness_ReceiverTakesEachCharacter :
    (portState .line State.reset).receiver = .idle ∧
      (portState .line (receiving [1, 2] 0 State.reset)).receiver = .inMessage [1, 2] 0 ∧
      ([1, 2] : List Byte).length = 2 ∧ 240 < (0xF1 : Byte).toNat ∧ (0xF0 : Byte).toNat ≤ 240 ∧
      ([1] : List Byte).length < 3 ∧ (portState .line (receiving [1, 2, 1] 0 State.reset)).receiver =
        .inMessage [1, 2, 1] 0 ∧ ([] : List Byte).length < (1 : Byte).toNat := by decide

theorem witness_CompletedMessageIsItsCommand :
    ([] : List Byte).length = (0 : Byte).toNat ∧
      (portState .line (receiving [0x21, 1, 0] 0 State.reset)).receiver = .inMessage [0x21, 1, 0] 0 ∧
      (List.replicate 240 (0 : Byte)).length = (240 : Byte).toNat := by decide +kernel

theorem witness_DamagedUnknownAndLateMessages :
    isRequestKind 0x21 = true ∧ isRequestKind 0x29 = false ∧ (portState .line State.reset).receiver = .idle ∧
      (portState .line (receiving [1] 4 State.reset)).receiver = .inMessage [1] 4 := by decide

theorem witness_SentMessageLeavesTheHeadOfItsQueue :
    ready.link.dropped = [] ∧ ready.store.backlog = [] ∧
      txQueue .line (sending [acceptFrame 1 []] ready) = acceptFrame 1 [] :: [] ∧ (acceptFrame 1 []).speed = none ∧
      txQueue .line (sending [acceptSpeedFrame 1 6] ready) = acceptSpeedFrame 1 6 :: [] ∧ txQueue .line ready = [] ∧
      ([] : List Byte).length ≠ 1 ∧ 7 ≤ (7 : Byte).toNat := by decide

/-- `waiting` with its record in the backlog and so many messages, one more than given, in the address port's queue. -/
def relaying (n : Nat) : State :=
  let s := waiting.setStore { waiting.store with backlog := [(7, .short)] }
  setPortState .address { portState .address s with tx := List.replicate (n + 1) (acceptFrame 1 []) } s

/-- The sending of the 16th message releases the entry, that of the 17th does not. -/
theorem witness_SentMessageReleasesTheBacklog :
    txQueue .address (relaying 15) = acceptFrame 1 [] :: List.replicate 15 (acceptFrame 1 []) ∧
      (List.replicate 15 (acceptFrame 1 [])).length < 16 ∧ (relaying 15).store.backlog = (7, .short) :: [] ∧
      waitingRecord 7 (relaying 15) = some record7 ∧ (relaying 15).link.dropped = [] ∧
      txQueue .address (relaying 16) = acceptFrame 1 [] :: List.replicate 16 (acceptFrame 1 []) ∧
      16 ≤ (List.replicate 16 (acceptFrame 1 [])).length := by decide

/-- `s` with 32 messages in a port's transmit queue. -/
def stuffed (p : Port) (s : State) : State :=
  setPortState p { portState p s with tx := List.replicate 32 (acceptFrame 1 []) } s

theorem witness_DroppedReplyHaltsTheLine :
    (stuffed .line ready).link.dropped = [] ∧ (txQueue .line (stuffed .line ready)).length = 32 ∧
      actionOf .linkOverflow (stuffed .line ready) = .stop ∧ (stuffed .line ready).fault.stopLatch = false ∧
      (stuffed .line ready).run.claim = none ∧ FaultKind.gateFail ≠ .linkOverflow ∧
      (stuffed .address State.reset).link.dropped = [] ∧
      (txQueue .address (stuffed .address State.reset)).length = 32 ∧
      actionOf .linkOverflow (stuffed .address State.reset) = .stop ∧
      (stuffed .address State.reset).store.jobState = .noJob ∧ ([0, 1] : List Byte).length = 2 ∧ ofBytes [0, 1] ≠ 0 := by
  decide +kernel

theorem witness_RequestsNeedTheirPortOrTheClaim :
    Port.carrier ≠ Port.line ∧ Port.line ≠ Port.address ∧ ready.run.claim = none ∧
      (held .closed).run.claim = some { holder := .line, elapsed := 9 } ∧ Port.line ≠ Port.address := by decide

theorem witness_MisplacedReportIsStray :
    Port.address ≠ Port.line ∧ Port.line ≠ Port.delivery ∧ ([0, 0, 0, 1] : List Byte).length ≠ 3 ∧
      ([1] : List Byte).length ≠ 2 ∧ ([0] : List Byte).length ≠ 0 := by decide

theorem witness_ClaimIsTakenReleasedAndExpires :
    ready.run.claim = none ∧ (held .closed).run.claim = some { holder := .line, elapsed := 9 } ∧
      Port.address ≠ Port.line ∧ ([0] : List Byte) ≠ [] := by decide

theorem witness_HoldClosesTheGateAndNothingElse :
    ready.run.gate = .opened ∧ (held .drain).run.gate = .drain ∧ (held .closed).run.gate = .closed ∧
      (held .halt).run.gate = .halt := by decide

theorem witness_RunDrainAndTheClearsAreTakenByTheGateState :
    ([0] : List Byte) ≠ [] ∧ (held .halt).run.gate = .halt ∧ ready.run.gate = .opened ∧
      (held .drain).run.gate = .drain ∧ (held .closed).run.gate = .closed ∧ setupValid (held .closed) = true ∧
      (held .closed).reg.state = .registered ∧ (held .closed).carrier.mode = .run ∧
      (held .closed).store.jobState = .loading ∧ State.reset.run.gate = .closed ∧ setupValid State.reset = false ∧
      ready.fault.stopLatch = false ∧ ready.reg.chainClearPending = false := by decide

/-- The gate in HALT with the stop latch set. -/
def stopped : State := (held .halt).setFault { FaultUnit.powerOn with stopLatch := true }

/-- `stopped` with chain-clear-pending set. -/
def lostChain : State := stopped.setReg { stopped.reg with chainClearPending := true }

theorem witness_StopClear :
    stopped.fault.stopLatch = true ∧ stopped.run.gate = .halt ∧ stopped.reg.chainClearPending = false ∧
      stopped.carrier.mode = .run ∧ lostChain.fault.stopLatch = true ∧ lostChain.reg.chainClearPending = true := by decide

/-- A fault of each kind of action, with the port subscribed and not. -/
theorem witness_FaultIsTakenByItsActionAndSteering :
    actionOf .gateStray ready = .note ∧ actionOf .feedMiss ready = .reject ∧ actionOf .gateFail ready = .stop ∧
      actionOf .linkError (after (.setAction .line 1 [19, 0, 0]) (held .closed)) = .off ∧
      (subscription .line ready).stop = true ∧ (subscription .line ready).reject = false ∧
      ready.fault.stopLog = none ∧ ready.fault.stopLatch = false ∧ ready.run.gate ≠ .halt := by decide

theorem witness_ActionsLinesAndSubscriptionsAreSet :
    (held .closed).run.claim = some { holder := .line, elapsed := 9 } ∧ kindOfNumber (22 : Byte).toNat = some .itemUnavailable ∧
      actionOfCode (1 : Byte).toNat = some .note ∧ steeringOfCode (2 : Byte).toNat = some .slow ∧
      actionAllowed .itemUnavailable .note = true ∧ actionAllowed .linkOverflow .note = false ∧
      kindOfNumber (0 : Byte).toNat = none ∧ kindOfNumber (23 : Byte).toNat = none ∧
      actionOfCode (4 : Byte).toNat = none ∧ steeringOfCode (3 : Byte).toNat = none ∧ (7 : Byte).toNat < 8 ∧
      8 ≤ (8 : Byte).toNat ∧ ([0] : List Byte).length ≠ 3 ∧ ([] : List Byte).length ≠ 1 := by decide

theorem witness_ReadLogAnswersTheLogAndChangesNothing :
    ([] : List Byte).length ≠ 1 ∧ (2 : Byte) ≠ 0 ∧ (2 : Byte) ≠ 1 := by decide

theorem witness_LogsAndCountsAreReadAndCleared :
    (held .closed).run.claim = some { holder := .line, elapsed := 9 } ∧ Port.address ≠ Port.line ∧
      ready.run.claim = none ∧ ([] : List Byte).length ≠ 1 ∧ (2 : Byte) ≠ 0 ∧ (2 : Byte) ≠ 1 ∧ ([0] : List Byte) ≠ [] := by
  decide

theorem witness_StatusAndReadsAnswerAndChangeNothing :
    ([] : List Byte).length ≠ 1 ∧ ([0] : List Byte).length ≠ 2 ∧ ([0, 0] : List Byte).length = 2 ∧
      ready.track.length ≤ (6 : Byte).toNat ∧ ready.track[(5 : Byte).toNat]? = some (.empty none 0) ∧
      waiting.store.queue.length + waiting.store.lane.length ≤ ofBytes [0, 1] ∧
      (waiting.store.queue ++ waiting.store.lane)[ofBytes [0, 0]]? = some record7 ∧
      closing.bundles.table.length ≤ (1 : Byte).toNat ∧ (closing.bundles.table[(0 : Byte).toNat]?).isSome = true ∧
      (travelling piece7 1 [order1 .issued]).carrier.queue.length ≤ (1 : Byte).toNat ∧
      (travelling piece7 1 [order1 .issued]).carrier.queue[(0 : Byte).toNat]? = some (order1 .issued) := by decide

/-- What R32 tests: a geometry at its bounds and past them, beside a station entry, a held bay and a printed count. -/
theorem witness_GeometryFits :
    GeometryFits geo (held .closed) ∧ GeometryFits { geo with gate := 250, pitch := 4096, tolerance := 1024 } (held .closed) ∧
      ¬GeometryFits { geo with gate := 251 } (held .closed) ∧ ¬GeometryFits { geo with tolerance := 5 } (held .closed) ∧
      ¬GeometryFits { geo with verify := some 4 } (held .closed) ∧ ¬GeometryFits { geo with divider := 3 } (held .closed) ∧
      ¬GeometryFits geo ((held .closed).setCarrier { ready.carrier with printedCount := 3 }) ∧
      ¬GeometryFits geo ((held .closed).setBundles { closing.bundles with table := [{ bundle1 with bay := 2 }] }) ∧
      ¬GeometryFits geo ((held .closed).setSetup { ready.setup with
        stations := ready.setup.stations.set 0 (some { station0 with position := 2 }) }) := by
  refine ⟨?_, ?_, ?_, ?_, ?_, ?_, ?_, ?_, ?_⟩ <;> decide +kernel

/-- `held` with a gate due for `x`. -/
def dueAt (x : Option Reject) (g : GateState) : State :=
  (held g).setDisp { (held g).disp with gateDue := some { reject := x, pocket := some 3 } }

theorem witness_GeometryIsReplacedWhole :
    (held .closed).run.claim = some { holder := .line, elapsed := 9 } ∧ parseGeometry (geometryBytes geo) = some geo ∧
      parseGeometry (geometryBytes { geo with gate := 6 }) = some { geo with gate := 6 } ∧
      TrackFitsGeometry (held .closed) ∧ (held .closed).disp.gateDue = none ∧ (held .closed).run.gate = .closed ∧
      (held .halt).run.gate = .halt ∧ pieces (held .closed) = [] ∧ GeometryFits geo (held .closed) ∧
      GeometryFits { geo with gate := 250 } (held .closed) ∧
      ¬GeometryFits { geo with gate := 251 } (held .closed) ∧ (held .opened).run.gate = .opened ∧
      pieces (travelling piece7 1 []) ≠ [] ∧ Restarts { geo with pitch := 17 } (held .closed) ∧
      ¬Restarts { geo with gate := 6 } (held .closed) ∧ (held .closed).reg.state ≠ .unregistered ∧
      (subscription .line (held .closed)).state = true ∧
      (dueAt none .halt).disp.gateDue = some { reject := none, pocket := some 3 } ∧
      (geometryItems (dueAt none .halt)).gate ≠ 6 ∧ actionOf .gateFail (dueAt none .halt) = .stop ∧
      GeometryFits { geo with gate := 6 } (dueAt none .halt) := by
  refine ⟨by decide, by decide, by decide, ?_, by decide, by decide, by decide, by decide, by decide, by decide,
    by decide, by decide, by decide, fun h e => ?_, fun r => ?_, by decide, by decide, by decide, by decide, by decide,
    by decide⟩
  · show geometryInRange geo = true ∧ _
    decide
  · cases e
    decide
  · exact absurd (r geo rfl) (by decide)

/-- The first SET GEOMETRY after power-on, with the claim held, and one that changes g under a gate due of a reject. -/
theorem witness_FirstGeometry :
    let s := State.reset.setRun { gate := .closed, claim := some { holder := .line, elapsed := 9 } }
    s.setup.geometry = none ∧ TrackFitsGeometry s ∧ Restarts geo s ∧ GeometryFits geo s ∧ pieces s = [] ∧
      (dueAt (some (reject7 true)) .closed).disp.gateDue = some { reject := some (reject7 true), pocket := some 3 } ∧
      Roomy 8 (dueAt (some (reject7 true)) .closed) := by
  refine ⟨rfl, rfl, fun h e => (nomatch e), by decide, rfl, rfl, roomy_of_powerOn rfl 8 (by omega)⟩

/-- The fields of a SET STATION of station 0 whose last phase event comes at a phase of its own. -/
def stationBytes (index detect : Nat) : List Byte := [BitVec.ofNat 8 index, 1, 0, 255, 0, 1, 0, 2, 0, BitVec.ofNat 8 detect]

def fieldsOf (index detect : Nat) : StationFields :=
  { index := index, position := 1, item := 0, alternate := 255, callPhase := 1, callWidth := 2, detectPhase := detect }

/-- Each check failing, a field at both ends of its range and past it, and both lists at their limits. -/
theorem witness_StationsAndLockoutAreWritten :
    (held .closed).run.claim = some { holder := .line, elapsed := 9 } ∧ (held .closed).setup.geometry = some geo ∧
      (held .closed).run.gate = .closed ∧ pieces (held .closed) = [] ∧ (held .opened).run.gate = .opened ∧
      (State.reset.setRun (held .closed).run).setup.geometry = none ∧ ([0] : List Byte).length ≠ 10 ∧
      parseStation (stationBytes 11 15) = some (fieldsOf 11 15) ∧ (11 : Fin 12).val = (fieldsOf 11 15).index ∧
      (fieldsOf 11 15).index < 12 ∧ (fieldsOf 11 15).position < geo.applicator ∧
      (fieldsOf 11 3).callPhase + (fieldsOf 11 3).callWidth ≤ (fieldsOf 11 3).detectPhase ∧
      (fieldsOf 11 15).detectPhase < geo.pitch ∧ parseStation (stationBytes 12 15) = some (fieldsOf 12 15) ∧
      ¬(fieldsOf 12 15).index < 12 ∧ parseStation (stationBytes 11 16) = some (fieldsOf 11 16) ∧
      ¬(fieldsOf 11 16).detectPhase < geo.pitch ∧ ([] : List Byte).length ≠ 1 ∧ ([12] : List Byte).length = 1 ∧
      12 ≤ (12 : Byte).toNat ∧ ([0] : List Byte).length % 2 = 1 ∧ parseIndices [0, 7, 0, 0] = some [7, 0] ∧
      ([7, 0].length ≤ 32 ∧ ∀ m ∈ [7, 0], m < 1024 ∧ m < geo.chainLength) ∧ parseIndices [0, 8] = some [8] ∧
      ¬8 < geo.chainLength ∧ (parseIndices (List.replicate 66 0)).map List.length = some 33 := by decide +kernel

/-- A machine with a piece at the entry, and the alternate of station 0 at an entry of its own. -/
def alternateIs (e : Option Station) : State :=
  (travelling piece7 0 []).setSetup
    { geometry := some geo, stations := ((Vector.replicate 12 none).set 0 (some station0)).set 1 e }

theorem witness_StationsAreSwitchedAndPiecesReplanned :
    stationAt 0 (travelling piece7 0 []) = some station0 ∧
      (travelling piece7 0 []).track[0]? = some (.piece piece7) ∧ 0 ≤ station0.position ∧
      planPending 0 piece7 = true ∧ station0.alternate = some 1 ∧ (1 : Fin 12) ≠ 0 ∧
      stationAt 1 (travelling piece7 0 []) = some station1 ∧ station1.on = true ∧ station1.item = station0.item ∧
      0 < station1.position ∧ stationAt 1 (alternateIs none) = none ∧
      stationAt 1 (alternateIs (some { station1 with on := false })) = some { station1 with on := false } ∧
      stationAt 1 (alternateIs (some { station1 with item := 2 })) = some { station1 with item := 2 } ∧
      { station1 with item := 2 }.item ≠ station0.item ∧
      (travelling piece7 1 []).track[1]? = some (.piece piece7) ∧ 1 ≤ station0.position ∧ station1.position ≤ 1 ∧
      (travelling piece7 2 []).track[2]? = some (.piece piece7) ∧ station0.position < 2 ∧
      ((travelling piece7 1 []).setCallOutstanding ((Vector.replicate 12 false).set 0 true)).callOutstanding[0] =
        true ∧ ([] : List Byte).length ≠ 1 ∧ 12 ≤ (12 : Byte).toNat ∧ stationAt 2 ready = none := by decide

theorem witness_RestartKeepsTheSetup :
    (held .halt).run.claim = some { holder := .line, elapsed := 9 } ∧ (held .halt).setup.geometry = some geo ∧
      ([0] : List Byte) ≠ [] ∧ (State.reset.setRun (held .closed).run).setup.geometry = none := by decide

/-- `s` in a job state. -/
def jobIs (j : JobState) (s : State) : State := s.setStore { s.store with jobState := j }

theorem witness_JobOpensAndEnds :
    ready.store.jobState ≠ .noJob ∧ State.reset.store.jobState = .noJob ∧ ([1] : List Byte).length ≠ 2 ∧
      ofBytes [0, 0] = 0 ∧ ofBytes [0, 1] ≠ 0 ∧ State.reset.store.jobState ≠ .loading ∧
      ready.store.jobState = .loading ∧ ([0] : List Byte) ≠ [] ∧ (bundleNumbers ready).Nodup ∧
      waiting.store.queue ≠ [] ∧ NothingHeld ready ∧ NothingHeld (jobIs .ended ready) ∧
      (jobIs .ended ready).store.jobState = .ended ∧ NothingHeld (jobIs .aborting ready) ∧
      (jobIs .aborting ready).store.jobState = .aborting ∧ ¬NothingHeld waiting := by
  refine ⟨by decide, by decide, by decide, by decide, by decide, by decide, by decide, by decide, by decide, by decide,
    ⟨rfl, rfl, rfl, rfl⟩, ⟨rfl, rfl, rfl, rfl⟩, by decide, ⟨rfl, rfl, rfl, rfl⟩, by decide, fun h => nomatch h.1⟩

/-- `ready` with 512 records waiting. -/
def fullQueue : State := ready.setStore { ready.store with queue := List.replicate 512 record7 }

/-- `ready` with one free character in the text pool. -/
def fullPool : State := ready.setStore { ready.store with textUsed := 131071 }

theorem witness_LoadIsCheckedAndAppendsItsRecord :
    State.reset.store.jobState ≠ .loading ∧ ready.store.jobState = .loading ∧ parseLoad [] = none ∧
      parseLoad load7 = some record7 ∧ recordInRange record7 = true ∧ recordInRange { record7 with key := 0 } = false ∧
      (placeOf 7 waiting).isSome = true ∧ placeOf 7 ready = none ∧
      record7.bundle < (ready.setStore { ready.store with loadMark := 2 }).store.loadMark ∧
      ready.store.loadMark ≤ record7.bundle ∧ 512 ≤ fullQueue.store.queue.length ∧ placeOf 7 fullQueue = none ∧
      fullPool.store.queue.length < 512 ∧ 131072 - fullPool.store.textUsed < textSize record7 := by decide +kernel

theorem witness_LoadAppendsTheRecord :
    ready.store.jobState = .loading ∧ parseLoad load7 = some record7 ∧ recordInRange record7 = true ∧
      placeOf 7 ready = none ∧ ready.store.loadMark ≤ record7.bundle ∧ ready.store.queue.length < 512 ∧
      textSize record7 ≤ 131072 - ready.store.textUsed ∧ (bundleNumbers closing).Nodup ∧
      record7.bundle = (ready.setStore { ready.store with loadMark := 1 }).store.loadMark := by decide

/-- Two lower bundles still FILLING, the first with no piece delivered and the second with one, and bays of their own. -/
def sealing : State :=
  ready.setBundles
    { table := [{ bundle1 with inFlight := 0 }, { bundle1 with number := 2, bay := 1, inFlight := 0, delivered := 1 },
        { bundle1 with number := 3, bay := 2 }]
      bays := (((Vector.replicate 16 none).set 0 (some 1)).set 1 (some 2)).set 2 (some 3) }

/-- A LOAD of bundle 4 empties the first, breaks the second and seals the third, which has a piece in flight. -/
theorem witness_LoadRaisesTheLoadMark :
    parseLoad (load7.set 6 4) = some { record7 with bundle := 4 } ∧ Roomy (sealing.bundles.table.length + 1) sealing ∧
      (bundleNumbers sealing).Nodup ∧ sealing.store.loadMark < 4 ∧ sealing.store.jobState = .loading ∧
      (after (.load .address 1 (load7.set 6 4)) sealing).bundles.table.map (fun x => (x.number, x.state)) =
        [(2, .closing), (3, .sealed)] ∧
      (after (.load .address 1 (load7.set 6 4)) sealing).bundles.bays[0] = none :=
  ⟨by decide, roomy_of_powerOn rfl 4 (by omega), by decide, by decide, by decide, by decide, by decide⟩

/-- `record7` waits in the lane, the last of a SEALED bundle or with a piece in flight. -/
def laneOnly (inFlight delivered : Nat) : State :=
  (ready.setStore { ready.store with lane := [record7], map := [(7, .lane)], textUsed := 2 }).setBundles
    { table := [{ bundle1 with state := .sealed, inFlight := inFlight, inLane := 1, delivered := delivered }]
      bays := (Vector.replicate 16 none).set 0 (some 1) }

/-- The withdrawal of a lane record: its bundle stays, is broken, or is emptied; and a record whose bundle has no entry. -/
theorem witness_WithdrawnLaneRecord :
    placeOf 7 (laneOnly 1 0) = some .lane ∧ backlogOutcome 7 (laneOnly 1 0) = none ∧
      waitingRecord 7 (laneOnly 1 0) = some record7 ∧ (∃ z ∈ (laneOnly 1 0).store.lane, z.key = record7.key) ∧
      (findBundle 1 (after (.withdraw .address 1 [0, 0, 0, 7]) (laneOnly 1 0))).map (fun x => (x.state, x.inLane)) =
        some (.sealed, 0) ∧
      (findBundle 1 (after (.withdraw .address 1 [0, 0, 0, 7]) (laneOnly 0 1))).map (fun x => (x.state, x.inLane)) =
        some (.closing, 0) ∧
      findBundle 1 (after (.withdraw .address 1 [0, 0, 0, 7]) (laneOnly 0 0)) = none ∧
      findBundle 1 waiting = none := by decide

theorem witness_WithdrawTakesOutAWaitingRecord :
    ([0, 0, 7] : List Byte).length ≠ 4 ∧ ([0, 0, 0, 7] : List Byte).length = 4 ∧ placeOf (ofBytes [0, 0, 0, 7]) ready = none ∧
      placeOf (ofBytes [0, 0, 0, 7]) (travelling piece7 1 []) = some .track ∧
      (backlogOutcome 7 (waiting.setStore { waiting.store with backlog := [(7, .short)] })).isSome = true ∧
      placeOf (ofBytes [0, 0, 0, 7]) waiting = some .queue ∧ backlogOutcome (ofBytes [0, 0, 0, 7]) waiting = none ∧
      waitingRecord (ofBytes [0, 0, 0, 7]) waiting = some record7 := by decide

/-- `record7` of a SEALED bundle waits: CLOSE SHORT and JOB ABORT give it up. -/
def closable : State :=
  waiting.setBundles
    { table := [{ bundle1 with state := .sealed }], bays := (Vector.replicate 16 none).set 0 (some 1) }

theorem witness_JobAbortGivesUpTheWaitingRecords :
    State.reset.store.jobState = .noJob ∧ (jobIs .aborting ready).store.jobState = .aborting ∧
      waiting.store.jobState = .loading ∧ ([0] : List Byte) ≠ [] ∧ KeysDistinct waiting ∧
      record7 ∈ waiting.store.queue ++ waiting.store.lane ∧
      record7 ∉ (after (.jobAbort .address 1 []) waiting).store.queue ++
        (after (.jobAbort .address 1 []) waiting).store.lane ∧
      NothingHeld ready ∧ (bundleNumbers (travelling piece7 1 [])).Nodup := by
  refine ⟨by decide, by decide, by decide, by decide, ?_, by decide, by decide, ⟨rfl, rfl, rfl, rfl⟩, by decide⟩
  unfold KeysDistinct
  decide

/-- A record that stays: the address port's queue holds 16 messages, so its backlog entry waits. -/
theorem witness_WaitingRecordStays :
    let s := setPortState .address { PortState.powerOn with tx := List.replicate 16 (acceptFrame 1 []) } closable
    record7 ∈ (after (.jobAbort .address 1 []) s).store.queue ∧
      record7 ∈ (after (.closeShort .address 1 [0, 0, 1]) s).store.queue := by decide +kernel

theorem witness_CloseShortGivesUpTheRestOfABundle :
    ([0, 1] : List Byte).length ≠ 3 ∧ ([0, 0, 1] : List Byte).length = 3 ∧ ofBytes [0, 0, 0] = 0 ∧
      ofBytes [0, 0, 1] ≠ 0 ∧ findBundle (ofBytes [0, 0, 1]) ready = none ∧
      findBundle (ofBytes [0, 0, 1]) (travelling piece7 1 []) = some bundle1 ∧ bundle1.state = .filling ∧
      ((findBundle (ofBytes [0, 0, 1]) closable).map Bundle.state) = some .sealed ∧ KeysDistinct closable ∧
      record7 ∈ closable.store.queue ++ closable.store.lane ∧
      record7 ∉ (after (.closeShort .address 1 [0, 0, 1]) closable).store.queue ++
        (after (.closeShort .address 1 [0, 0, 1]) closable).store.lane := by
  refine ⟨by decide, by decide, by decide, by decide, by decide, by decide, by decide, by decide, ?_, by decide, by decide⟩
  unfold KeysDistinct
  decide

theorem witness_BacklogReleaseEndsTheOldestRecord :
    (waiting.setStore { waiting.store with backlog := [(7, .aborted)] }).store.backlog = (7, .aborted) :: [] ∧
      waitingRecord 7 waiting = some record7 ∧ (txQueue .address waiting).length < 16 ∧
      16 ≤ (txQueue .address (setPortState .address
        { PortState.powerOn with tx := List.replicate 16 (acceptFrame 1 []) } waiting)).length := by decide

/-- `waiting` with its bundle in the table. -/
def offered : State :=
  waiting.setBundles { table := [bundle1], bays := (Vector.replicate 16 none).set 0 (some 1) }

/-- `waiting` with a list, a backlog and a job state of its own. -/
def storing (lane : List Record) (backlog : List (Nat × BacklogOutcome)) (job : JobState) : State :=
  waiting.setStore { waiting.store with lane := lane, backlog := backlog, jobState := job }

/-- `waiting` with both stations of item 0 off. -/
def noStation : State :=
  waiting.setSetup { waiting.setup with stations := ((Vector.replicate 12 none).set 0
    (some { station0 with on := false })).set 1 (some { station1 with on := false }) }

/-- `waiting` with both bays in use held by other bundles. -/
def noBay : State :=
  waiting.setBundles
    { table := [{ bundle1 with number := 2 }, { bundle1 with number := 3, bay := 1 }]
      bays := ((Vector.replicate 16 none).set 0 (some 2)).set 1 (some 3) }

theorem witness_EntryChecksLeaveThePocketEmpty :
    0 < ready.track.length ∧ (ready.setReg .powerOn).reg.state ≠ .registered ∧ ready.reg.state = .registered ∧
      ready.reg.pocketIndex ∈ (ready.setEntry { ready.entry with lockout := [3] }).entry.lockout ∧
      ready.reg.pocketIndex ∉ ready.entry.lockout ∧ (held .halt).run.gate = .halt ∧ ready.run.gate = .opened ∧
      96 ≤ (ready.setCarrier { ready.carrier with queue := List.replicate 96 (order1 .issued) }).carrier.queue.length ∧
      32 ≤ (txQueue .carrier (stuffed .carrier ready)).length ∧ inHold.carrier.mode ≠ .run ∧
      ready.carrier.mode = .run ∧ ready.carrier.queue.length < 96 ∧ (txQueue .carrier ready).length < 32 ∧
      ready.store.lane = [] ∧ ready.store.queue = [] ∧ ready.store.jobState = .loading ∧
      ready.entry.starving = false ∧ (storing [record7] [] .aborting).store.lane ≠ [] ∧
      (storing [record7] [] .aborting).store.jobState = .aborting ∧
      (storing [] [(7, .short)] .ended).store.lane = [] ∧ (storing [] [(7, .short)] .ended).store.queue ≠ [] ∧
      (storing [] [(7, .short)] .ended).store.backlog ≠ [] ∧ (storing [] [(7, .short)] .ended).run.gate = .opened := by
  decide +kernel

theorem witness_ItemWaitAndBayWait :
    IsOffered .queue record7 noStation ∧ planItems noStation (itemsOf record7.items) = none ∧
      noStation.entry.itemUnavailable = false ∧ IsOffered .queue record7 noBay ∧
      (planItems noBay (itemsOf record7.items)).isSome = true ∧ findBundle record7.bundle noBay = none ∧
      ∀ h : Fin 16, h.val < (geometryItems noBay).bays → noBay.bundles.bays[h] ≠ none := by
  refine ⟨⟨rfl, by decide, rfl, rfl, rfl, Or.inl rfl⟩, by decide, rfl, ⟨rfl, by decide, rfl, rfl, rfl, Or.inl rfl⟩,
    by decide, by decide, by decide⟩

/-- No station of `s` is on, so no item has a usable station. -/
theorem not_usable_of_off {s : State} (h : ∀ k, ((stationAt k s).all fun e => !e.on) = true) (item : Nat) (i : Fin 12) :
    ¬IsUsable item i s := by
  have off : ∀ k e, stationAt k s = some e → e.on = false := fun k e he => by simpa [he] using h k
  rintro ⟨k, e, -, he, ⟨hon, -⟩ | ⟨-, -, a, ha, hon, -⟩⟩
  · exact absurd hon (by simp [off k e he])
  · exact absurd hon (by simp [off i a ha])

/-- The lacking item of `noStation` has a primary station, and that of a machine without stations has none. -/
theorem witness_LackingItem :
    0 ∈ itemsOf record7.items ∧ (∀ i, ¬IsUsable 0 i noStation) ∧
      (∀ m ∈ itemsOf record7.items, m < 0 → ∃ i, IsUsable m i noStation) ∧ IsPrimary 0 0 noStation ∧
      (let s := waiting.setSetup { waiting.setup with stations := Vector.replicate 12 none }
      IsOffered .queue record7 s ∧ planItems s (itemsOf record7.items) = none ∧ (∀ i, ¬IsUsable 0 i s) ∧
        ∀ i, ¬IsPrimary 0 i s) := by
  refine ⟨by decide, not_usable_of_off (by decide) 0, fun m _ h => absurd h (Nat.not_lt_zero m),
    ⟨⟨_, rfl, rfl⟩, fun k h => absurd h (by simp)⟩, ⟨rfl, by decide, rfl, rfl, rfl, Or.inl rfl⟩, by decide,
    not_usable_of_off (by decide) 0, ?_⟩
  rintro i ⟨⟨e, he, -⟩, -⟩
  have : ∀ i, stationAt i (waiting.setSetup { waiting.setup with stations := Vector.replicate 12 none }) = none := by
    decide
  exact nomatch (this i).symm.trans he

/-- `record7` in the lane as a remake, offered to a machine whose gate is in DRAIN. -/
def remaking : State :=
  (held .drain).setStore
    { ready.store with lane := [record7], map := [(7, .lane)], textUsed := 2, loadMark := 1, jobState := .ended }

/-- A record of the queue whose bundle is in the table, and one of the lane whose bundle gets a bay. -/
theorem witness_OfferedRecordEnters :
    0 < offered.track.length ∧ offered.reg.state = .registered ∧ offered.reg.pocketIndex ∉ offered.entry.lockout ∧
      IsOffered .queue record7 offered ∧ offered.carrier.mode = .run ∧ offered.carrier.queue.length < 96 ∧
      (txQueue .carrier offered).length < 32 ∧
      planItems offered (itemsOf record7.items) = some [{ item := 0, station := 0, result := .pending }] ∧
      findBundle record7.bundle offered = some bundle1 ∧ IsOffered .lane record7 remaking ∧
      remaking.reg.state = .registered ∧ findBundle record7.bundle remaking = none ∧ LowestFreeBay 0 remaking ∧
      planItems remaking (itemsOf record7.items) = some [{ item := 0, station := 0, result := .pending }] := by
  refine ⟨by decide, by decide, by decide, ⟨rfl, by decide, rfl, rfl, rfl, Or.inl rfl⟩, by decide, by decide, by decide,
    by decide, by decide, ⟨rfl, by decide, rfl, Or.inr rfl⟩, by decide, by decide, ⟨by decide, by decide, fun k h => ?_⟩,
    by decide⟩
  exact absurd h (by simp)

/-- `travelling` with a printed count. -/
def printed (n : Nat) (o : List Order) : State :=
  (travelling piece7 1 o).setCarrier { mode := .run, queue := o, printedCount := n, nextOrder := 2 }

theorem witness_PrintedReportMovesTheOldestUnprinted :
    ([0, 0, 1] : List Byte).length = 3 ∧ inHold.carrier.mode ≠ .run ∧ (printed 1 [order1 .issued]).carrier.mode = .run ∧
      findOrder (ofBytes [0, 0, 1]) (printed 1 [order1 .issued]) = some (order1 .issued) ∧
      oldestUnprinted (printed 1 [order1 .issued]) = some (ofBytes [0, 0, 1]) ∧
      (printed 1 [order1 .issued]).carrier.printedCount < (geometryItems (printed 1 [order1 .issued])).depth ∧
      (geometryItems (printed 2 [order1 .issued])).depth ≤ (printed 2 [order1 .issued]).carrier.printedCount ∧
      findOrder (ofBytes [0, 0, 2]) (printed 1 [order1 .issued]) = none ∧
      oldestUnprinted (printed 1 [order1 .printed]) ≠ some (ofBytes [0, 0, 1]) := by decide

theorem witness_HoldDiscardsEveryOrderUntilPurged :
    inHold.carrier.mode ≠ .run ∧ (travelling piece7 1 [order1 .issued]).carrier.mode = .run ∧
      pieceAt 1 (travelling piece7 1 [order1 .issued]) = some piece7 ∧
      pieceAt 2 (travelling piece7 1 [order1 .issued]) = none ∧
      orderOwner 1 (travelling piece7 1 [order1 .issued]) = some (1, piece7) ∧ piece7.fate = .awaiting ∧
      actionOf .carrierVoid (travelling piece7 1 [order1 .issued]) = .reject ∧
      (subscription .carrier (travelling piece7 1 [order1 .issued])).state = true := by decide

theorem witness_SpoiledTailOrderIsReprinted :
    ([0, 0, 1] : List Byte).length = 3 ∧ (travelling piece7 1 [order1 .issued]).carrier.mode = .run ∧
      findOrder (ofBytes [0, 0, 1]) (travelling piece7 1 [order1 .issued]) = some (order1 .issued) ∧
      orderOwner (ofBytes [0, 0, 1]) (travelling piece7 1 [order1 .issued]) = some (1, piece7) ∧
      (travelling piece7 1 [order1 .issued]).carrier.queue.getLast?.map Order.number = some (ofBytes [0, 0, 1]) ∧
      piece7.reprints < 2 ∧ 2 ≤ { piece7 with reprints := 2 }.reprints ∧
      (travelling piece7 1 [order1 .issued, { order1 .issued with number := 2 }]).carrier.queue.getLast?.map
        Order.number ≠ some (ofBytes [0, 0, 1]) ∧
      findOrder (ofBytes [0, 0, 1]) (travelling piece7 1 [order1 .waste]) = some (order1 .waste) ∧
      findOrder (ofBytes [0, 0, 1]) (travelling piece7 1 [order1 .withdrawing]) = some (order1 .withdrawing) ∧
      inHold.carrier.mode ≠ .run ∧ ready.carrier.mode = .run ∧ findOrder (ofBytes [0, 0, 1]) ready = none := by decide

/-- The tail order of a piece not reprinted yet, with no free place in the carrier port's queue. -/
theorem witness_SpoiledWithAFullQueue :
    let s := stuffed .carrier (travelling piece7 1 [order1 .issued])
    32 ≤ (txQueue .carrier s).length ∧ s.carrier.mode = .run ∧
      findOrder (ofBytes [0, 0, 1]) s = some (order1 .issued) ∧ orderOwner (ofBytes [0, 0, 1]) s = some (1, piece7) ∧
      s.carrier.queue.getLast?.map Order.number = some (ofBytes [0, 0, 1]) ∧ piece7.reprints < 2 := by decide +kernel

theorem witness_WithdrawalAnswersAreTakenByTheOrderState :
    ([0, 0, 1] : List Byte).length = 3 ∧ inHold.carrier.mode ≠ .run ∧ ready.carrier.mode = .run ∧
      findOrder (ofBytes [0, 0, 1]) ready = none ∧
      findOrder (ofBytes [0, 0, 1]) (travelling piece7 1 [order1 .issued]) = some (order1 .issued) ∧
      findOrder (ofBytes [0, 0, 1]) (travelling piece7 1 [order1 .withdrawing]) = some (order1 .withdrawing) ∧
      findOrder (ofBytes [0, 0, 1]) (travelling piece7 1 [order1 .waste]) = some (order1 .waste) := by decide

theorem witness_DumpAndApplyActOnTheHead :
    inHold.carrier.mode ≠ .run ∧ (travelling piece7 2 [order1 .printed]).carrier.mode = .run ∧
      ready.carrier.queue = [] ∧ (travelling piece7 2 [order1 .printed]).carrier.queue = order1 .printed :: [] ∧
      (travelling piece7 2 [order1 .waste]).carrier.queue = order1 .waste :: [] ∧
      pieceAt (geometryItems ready).applicator (travelling piece7 2 [order1 .printed]) = some piece7 ∧
      pieceAt (geometryItems ready).applicator ready = none ∧ piece7.fate = .awaiting ∧
      piece7.carrier = some (order1 .printed).number ∧ { piece7 with fate := .void }.fate ≠ .awaiting ∧
      (travelling piece7 2 []).carrier.queue.head? = none ∧
      piece7.carrier ≠ some { order1 .printed with number := 2 }.number := by decide

/-- At the applicator and just past it, with the order ISSUED or PRINTED, another order at the head, and none. -/
theorem witness_GivenUpOrderIsWithdrawnOrWasted :
    pieceAt 2 (travelling piece7 2 [order1 .issued]) = some piece7 ∧ piece7.carrier = some (order1 .issued).number ∧
      findOrder (order1 .issued).number (travelling piece7 2 [order1 .issued]) = some (order1 .issued) ∧
      findOrder (order1 .printed).number (travelling piece7 2 [order1 .printed]) = some (order1 .printed) ∧
      txHasRoom .carrier ready = true ∧ txHasRoom .carrier (stuffed .carrier ready) = false ∧
      2 = (geometryItems (travelling piece7 2 [order1 .issued])).applicator ∧
      (travelling piece7 2 [order1 .issued]).carrier.mode = .run ∧ piece7.fate = .awaiting ∧
      (order1 .issued).state ≠ .printed ∧
      (travelling piece7 2 [order1 .issued]).carrier.queue.head? = some (order1 .issued) ∧
      pieceAt ((geometryItems ready).applicator + 1) ready = none ∧
      pieceAt 3 (travelling piece7 3 [order1 .printed]) = some piece7 ∧
      3 = (geometryItems (travelling piece7 3 [order1 .printed])).applicator + 1 := by decide +kernel

/-- A piece with an applied carrier. -/
def applied7 : Piece := { piece7 with carrier := none, fate := .applied, applied := some 1 }

/-- A waiting piece at v, and at v+1 a provisional piece of another code. -/
def twoRead : State :=
  (travelling applied7 3 []).setTrack ((travelling applied7 3 []).track.set 4
    (.piece { applied7 with tag := 2, applied := some 2, verify := .unreadProvisional }))

/-- At v a mismatch, and at v+1 a match or none, while a provisional piece of another code stands at v+1. -/
theorem witness_ReadingBesideAProvisionalPiece :
    pieceAt 3 twoRead = some applied7 ∧ applied7.fate = .applied ∧ applied7.verify = .pending ∧
      pieceAt (3 + 1) twoRead = some { applied7 with tag := 2, applied := some 2, verify := .unreadProvisional } ∧
      applied7.applied.map matchCode ≠ some (ofBytes [0, 9]) ∧
      (some 2).map matchCode ≠ some (ofBytes [0, 9]) ∧ (some 2).map matchCode = some (ofBytes [0, 2]) ∧
      applied7.applied.map matchCode = some (ofBytes [0, 1]) ∧ (some 2).map matchCode ≠ some (ofBytes [0, 1]) := by decide

theorem witness_ReadingsAreJudgedAndSettled :
    (geometryItems State.reset).verify = none ∧ ([0, 1] : List Byte).length = 2 ∧ (geometryItems ready).verify = some 3 ∧
      pieceAt 3 (travelling applied7 3 []) = some applied7 ∧ applied7.fate = .applied ∧ applied7.verify = .pending ∧
      applied7.applied.map matchCode = some (ofBytes [0, 1]) ∧ applied7.applied.map matchCode ≠ some (ofBytes [0, 2]) ∧
      pieceAt 4 (travelling applied7 3 []) = none ∧ (travelling applied7 3 []).verify.mismatchRun = 0 ∧
      ((travelling applied7 3 []).setVerify { mismatchRun := 1 }).verify.mismatchRun = 1 ∧
      pieceAt 4 (travelling { applied7 with verify := .unreadProvisional } 4 []) =
        some { applied7 with verify := .unreadProvisional } ∧
      pieceAt 3 (travelling { applied7 with verify := .unreadProvisional } 4 []) = none ∧
      pieceAt (3 + 1) (travelling applied7 4 []) = some applied7 ∧
      pieceAt (3 + 2) (travelling { applied7 with verify := .unreadProvisional } 5 []) =
        some { applied7 with verify := .unreadProvisional } := by decide

/-- A provisional piece of another record than `record7`. -/
def provisional8 : Piece :=
  { applied7 with tag := 2, record := { record7 with key := 8 }, verify := .unreadProvisional }

/-- One count before a boundary, with `record7` waiting, a provisional piece at v+1 and CARRIER_UNREAD under STOP. -/
def unreadStops : State :=
  let s := run [.setAction .line 1 [8, 3, 0], .release .line 2 []] (held .closed)
  { s with
    reg := { waiting.reg with phase := 15 }
    run := waiting.run
    store := { waiting.store with map := [(7, .queue), (8, .track)], textUsed := 4 }
    track := waiting.track.set 4 (.piece provisional8) }

theorem witness_UnreadUnderStopEntersNothing :
    unreadStops.setup.geometry = some geo ∧ geo.verify = some 3 ∧ geo.divider ≤ unreadStops.reg.remainder + 1 ∧
      geo.pitch ≤ unreadStops.reg.phase + 1 ∧
      pieceAt (3 + 1) unreadStops = some provisional8 ∧ provisional8.verify = .unreadProvisional ∧
      3 + 2 < unreadStops.track.length ∧ actionOf .carrierUnread unreadStops = .stop ∧
      unreadStops.fault.stopLatch = false ∧ (unreadStops.setRun { unreadStops.run with gate := .halt }).run.gate = .halt := by
  decide

/-- The records of that state are accounted for. -/
theorem witness_UnreadUnderStopKeepsTheQueue : RecordsAccounted unreadStops := by
  refine ⟨by unfold KeysDistinct; decide, by decide, fun key => ?_, fun key => ?_, fun key => ?_, by decide, by decide,
    by decide⟩
  · simp only [show unreadStops.store.map = [(7, .queue), (8, .track)] from rfl,
      show unreadStops.store.queue = [record7] from rfl]
    simp [eq_comm, record7]
  · simp only [show unreadStops.store.map = [(7, .queue), (8, .track)] from rfl,
      show unreadStops.store.lane = [] from rfl]
    simp
  · simp only [show unreadStops.store.map = [(7, .queue), (8, .track)] from rfl,
      show trackRecords unreadStops = [{ record7 with key := 8 }] from rfl]
    simp [eq_comm]

/-- The settlement comes before the entry event, whatever order the pulse names; without the provisional piece the record
enters. -/
theorem test_unread_stops_before_entry :
    (after (.encoderPulse 0 0 []) unreadStops).entry.result = .gate ∧
      (after (.encoderPulse 0 0 [.entry]) unreadStops).entry.result = .gate ∧
      (after (.encoderPulse 0 0 []) unreadStops).run.gate = .halt ∧
      (after (.encoderPulse 0 0 []) (unreadStops.setTrack waiting.track)).entry.result = .entered := by decide +kernel

/-- Each way in which a WRAP FAULT is malformed or has no geometry. -/
theorem witness_WrapFaultIsStray :
    ([0] : List Byte).length ≠ 2 ∧ wrapCauseOfCode (field [9, 1] 0 1) = none ∧ field [0, 0] 1 1 = 0 ∧
      8 < field [0, 9] 1 1 ∧ State.reset.setup.geometry = none := by decide

theorem witness_WrapFaultMarksTheCoveredPieces :
    ready.setup.geometry = some geo ∧ wrapCauseOfCode (0 : Byte).toNat = some .seal ∧ 1 ≤ (1 : Byte).toNat ∧
      (8 : Byte).toNat ≤ 8 ∧ pieceAt 4 (travelling piece7 4 []) = some piece7 ∧ piece7.wrap = none ∧ 4 ≤ geo.wrap ∧
      geo.wrap < 4 + (1 : Byte).toNat ∧ pieceAt 0 (travelling piece7 0 []) = some piece7 ∧
      geo.wrap < 0 + (8 : Byte).toNat ∧ 3 + (1 : Byte).toNat ≤ geo.wrap ∧
      pieceAt 4 (travelling { piece7 with wrap := some .cut } 4 []) = some { piece7 with wrap := some .cut } ∧
      { piece7 with wrap := some .cut }.wrap ≠ none ∧ actionOf .wrapFault (travelling piece7 4 []) ≠ .off ∧
      (travelling piece7 4 []).fault.counts[kindIndex .wrapFault] ≤ 65535 ∧
      actionOf .wrapFault (after (.setAction .line 1 [9, 0, 0]) (held .closed)) = .off := by decide

/-- `ready` with an entry at position 1 and the levels of the two detect lines of station 0. -/
def sensing (x : TrackEntry) (a b : BitVec 12) : State :=
  (ready.setTrack (ready.track.set 1 x)).setPins { detectA := a, detectB := b }

theorem witness_StationCallsAndReadsThePocket :
    pieceAt station0.position (travelling piece7 1 []) = some piece7 ∧ station0.on = true ∧
      pieceAt station0.position ready = none ∧ planPending 0 piece7 = true ∧ planNames 1 piece7 = false ∧
      planNames 0 { piece7 with plan := [{ item := 0, station := 0, result := .fed }] } = true ∧
      planPending 0 { piece7 with plan := [{ item := 0, station := 0, result := .fed }] } = false ∧
      ((travelling piece7 1 []).setPins { detectA := 2, detectB := 0 }).pins.detectA.getLsbD 1 = true ∧
      ((travelling piece7 1 []).setPins { detectA := 0, detectB := 2 }).pins.detectA.getLsbD 1 = false ∧
      ((travelling piece7 1 []).setPins { detectA := 0, detectB := 2 }).pins.detectB.getLsbD 1 = true ∧
      entryAt station0.position (sensing (.empty none 0) 1 0) = some (.empty none 0) ∧
      entryAt station0.position (sensing (.locked 2 0) 0 1) = some (.locked 2 0) ∧
      entryAt station0.position (sensing (.stray (some 2) 0 .purged) 1 1) = some (.stray (some 2) 0 .purged) ∧
      (sensing (.empty none 0) 1 0).pins.detectA.getLsbD 0 = true ∧
      (sensing (.locked 2 0) 0 1).pins.detectA.getLsbD 0 = false ∧
      (sensing (.locked 2 0) 0 1).pins.detectB.getLsbD 0 = true ∧ { station0 with on := false }.on = false ∧
      ready.callOutstanding[0] = false := by decide

theorem witness_ArrivalIsDecidedByRejectDue :
    entryAt (geometryItems ready).gate (ready.setTrack (ready.track.set 5 (.stray none 0 .fed))) =
        some (.stray none 0 .fed) ∧
      entryAt (geometryItems ready).gate ready = some (.empty none 0) ∧
      entryAt (geometryItems ready).gate (ready.setTrack (ready.track.set 5 (.locked 2 0))) = some (.locked 2 0) ∧
      entryAt (geometryItems ready).gate (travelling piece7 5 []) = some (.piece piece7) ∧
      findBundle piece7.record.bundle (travelling piece7 5 []) = some bundle1 ∧ piece7.rejectDue = false ∧
      (travelling piece7 5 []).disp.proofPending = false ∧ txHasRoom .delivery (travelling piece7 5 []) = true ∧
      txHasRoom .address (travelling piece7 5 []) = true ∧ { piece7 with rejectDue := true }.rejectDue = true ∧
      entryAt (geometryItems ready).gate (travelling { piece7 with rejectDue := true } 5 []) =
        some (.piece { piece7 with rejectDue := true }) := by decide

/-- A rejected piece at g with a job state, its bundle's short flag and a lane of its own. -/
def rejecting (x : Piece) (job : JobState) (short : Bool) (lane : List Record) : State :=
  ((travelling { x with rejectDue := true } 5 []).setStore
    { (travelling x 5 []).store with jobState := job, lane := lane }).setBundles
      { table := [{ bundle1 with short := short }], bays := (Vector.replicate 16 none).set 0 (some 1) }

/-- One state for each line of the table: ABORT, SHORT, a proof piece, a remake with room and without, and LIMIT. -/
theorem witness_RejectedRecordIsPlacedByTheFirstLine :
    (rejecting piece7 .aborting true []).store.jobState = .aborting ∧
      entryAt (geometryItems ready).gate (rejecting piece7 .aborting true []) =
        some (.piece { piece7 with rejectDue := true }) ∧
      findBundle 1 (rejecting piece7 .ended true []) = some { bundle1 with short := true } ∧
      findBundle 1 (rejecting piece7 .ended false []) = some { bundle1 with short := false } ∧
      (rejecting piece7 .ended false []).store.jobState ≠ .aborting ∧
      (rejecting piece7 .ended false []).store.lane.length < 16 ∧
      16 ≤ (rejecting piece7 .ended false (List.replicate 16 record7)).store.lane.length ∧
      ({ piece7 with proof := true, rejectDue := true }.proof || !{ piece7 with rejectDue := true }.rejectDue) = true ∧
      ({ piece7 with rejectDue := true }.proof || !{ piece7 with rejectDue := true }.rejectDue) = false ∧
      piece7.record.attempt < (geometryItems ready).remakeLimit ∧
      (geometryItems ready).remakeLimit ≤ { record7 with attempt := 1 }.attempt := by decide +kernel

/-- `ready` with one pending confirm. -/
def confirming (x : Option Reject) (seen : Nat) (proof : Bool) : State :=
  ready.setDisp { gateDue := none, confirms := [{ reject := x, seen := seen }], proofPending := proof }

/-- The confirms of a stray, a reject and a proof piece, new and past one boundary. -/
theorem witness_ConfirmsAreSatisfiedOrExpire :
    ready.disp.confirms = [] ∧ (confirming none 0 false).disp.confirms = { reject := none, seen := 0 } :: [] ∧
      (confirming none 1 false).disp.confirms = { reject := none, seen := 1 } :: [] ∧
      (confirming (some (reject7 false)) 1 false).disp.confirms = { reject := some (reject7 false), seen := 1 } :: [] ∧
      (confirming (some (reject7 true)) 1 true).disp.confirms = { reject := some (reject7 true), seen := 1 } :: [] ∧
      (reject7 true).proof = true ∧ (reject7 false).proof = false ∧ ready.disp.proofPending = false ∧
      (confirming none 0 true).disp.proofPending = true ∧ ready.fault.stopLog = none ∧
      actionOf .gateFail ready = .stop ∧ Roomy 3 (confirming (some (reject7 true)) 1 true) ∧ ([0] : List Byte) ≠ [] :=
  ⟨rfl, rfl, rfl, rfl, rfl, rfl, rfl, rfl, rfl, rfl, rfl, roomy_of_powerOn rfl 3 (by omega), by decide⟩

/-- A proof piece whose confirm expires, with its record waiting in the lane outside the backlog, and in no place. -/
theorem witness_SuspectReported :
    placeOf (reject7 true).key remaking = some .lane ∧ waitingRecord (reject7 true).key remaking = some record7 ∧
      backlogOutcome (reject7 true).key remaking = none ∧ record7.bundle = (reject7 true).bundle ∧
      placeOf (reject7 true).key ready ≠ some .lane ∧
      findBundle (reject7 true).bundle (travelling piece7 1 []) = some bundle1 := by decide

theorem witness_GateIsAssertedOnceForItsDue :
    ready.disp.gateDue = none ∧ (dueAt none .closed).disp.gateDue = some { reject := none, pocket := some 3 } ∧
      (dueAt (some (reject7 true)) .closed).disp.gateDue = some { reject := some (reject7 true), pocket := some 3 } ∧
      (∀ c ∈ (confirming none 0 false).disp.confirms, c.seen = 0) ∧
      (confirming (some (reject7 false)) 1 false).disp.confirms = [{ reject := some (reject7 false), seen := 1 }] := by
  decide

theorem witness_TiesExpiriesAndJamsAreTaken :
    ([0, 0, 1, 0, 0, 1] : List Byte).length = 6 ∧ field [0, 0, 1, 0, 0, 1] 0 3 ≠ 0 ∧
      ((findBundle (field [0, 0, 1, 0, 0, 1] 0 3) closing).map fun x => (x.state, x.delivered, x.suspects)) =
        some (.closing, 1, 1) ∧
      field [0, 0, 1, 0, 0, 1] 3 3 = 1 ∧ field [0, 0, 1, 0, 0, 2] 3 3 = 2 ∧ field [0, 0, 1, 0, 0, 0] 3 3 < 1 ∧
      1 + 1 < field [0, 0, 1, 0, 0, 3] 3 3 ∧
      findBundle (field [0, 0, 1, 0, 0, 1] 0 3) (travelling piece7 1 []) = some bundle1 ∧ bundle1.state ≠ .closing ∧
      findBundle (field [0, 0, 2, 0, 0, 1] 0 3) closing = none ∧ field [0, 0, 0, 0, 0, 1] 0 3 = 0 ∧
      ((findBundle 1 closing).bind Bundle.tieTimer) = some 29999 ∧ bundle1.tieTimer = none ∧
      (1 : Fin 16).val = (1 : Byte).toNat ∧ (1 : Fin 16).val < (geometryItems ready).bays ∧
      (geometryItems ready).bays ≤ (2 : Byte).toNat ∧ ([] : List Byte).length ≠ 1 := by decide

/-- The last bundle of a finished job, ENDED or ABORTING. -/
theorem witness_LastBundleIsTied :
    findBundle (field [0, 0, 1, 0, 0, 1] 0 3) (jobIs .ended closing) = some
        { bundle1 with state := .closing, inFlight := 0, delivered := 1, suspects := 1, tieTimer := some 29999 } ∧
      (jobIs .ended closing).bundles.table =
        [{ bundle1 with state := .closing, inFlight := 0, delivered := 1, suspects := 1, tieTimer := some 29999 }] ∧
      (jobIs .ended closing).store.queue = [] ∧ (jobIs .ended closing).store.lane = [] ∧
      pieces (jobIs .ended closing) = [] ∧ (jobIs .ended closing).store.jobState = .ended ∧
      (jobIs .aborting closing).store.jobState = .aborting ∧ Roomy 5 (jobIs .ended closing) :=
  ⟨by decide, rfl, rfl, rfl, rfl, rfl, rfl, roomy_of_powerOn rfl 5 (by omega)⟩

/-- A machine with one bundle in SEALED, nothing in flight or in the lane, and so many delivered. -/
def readyBundle (delivered : Nat) (s : State) : State :=
  s.setBundles
    { table := [{ bundle1 with state := .sealed, inFlight := 0, delivered := delivered }]
      bays := (Vector.replicate 16 none).set 0 (some 1) }

theorem witness_ReadyBundleIsBrokenOrEmptied :
    findBundle 1 (readyBundle 1 ready) = some { bundle1 with state := .sealed, inFlight := 0, delivered := 1 } ∧
      findBundle 1 (readyBundle 0 ready) = some { bundle1 with state := .sealed, inFlight := 0, delivered := 0 } ∧
      (∀ r ∈ (readyBundle 1 ready).store.queue, r.bundle ≠ 1) ∧ (∃ r ∈ (readyBundle 1 waiting).store.queue, r.bundle = 1) ∧
      findBundle 1 (travelling piece7 1 []) = some bundle1 ∧ bundle1.state ≠ .sealed ∧ bundle1.inFlight ≠ 0 ∧
      txHasRoom .delivery (readyBundle 1 ready) = true ∧ txHasRoom .address (readyBundle 0 ready) = true := by decide

theorem witness_EncoderPulsesCountPhasesAndPockets :
    ready.link.dropped = [] ∧ State.reset.setup.geometry = none ∧ ready.setup.geometry = some geo ∧
      geo.divider ≤ ready.reg.remainder + 1 ∧ ready.reg.phase + 1 < geo.pitch ∧
      geo.pitch ≤ (ready.setReg { ready.reg with phase := 15 }).reg.phase + 1 ∧ 0 < ready.track.length ∧
      (ready.setSetup { ready.setup with geometry := some { geo with divider := 8 } }).setup.geometry =
        some { geo with divider := 8 } ∧ ready.reg.remainder + 1 < { geo with divider := 8 }.divider ∧ 1 ≠ geo.gate ∧
      1 ≠ geo.applicator + 1 ∧ geo.verify = some 3 ∧ 1 ≠ 3 + 1 ∧ 1 ≠ 3 + 2 := by decide

/-- A count above phase 0 with every phase still to come and with the phases up to 7 issued, and the count of a boundary. -/
theorem witness_CountIssuesItsBlockEvents :
    ready.link.dropped = [] ∧ ready.setup.geometry = some geo ∧ geo.divider ≤ ready.reg.remainder + 1 ∧
      ready.reg.phase + 1 < geo.pitch ∧ ready.reg.issuedTo < ready.reg.phase + 1 ∧
      ¬(ready.setReg { ready.reg with issuedTo := 7, phase := 6 }).reg.issuedTo < 6 + 1 ∧
      geo.pitch ≤ (ready.setReg { ready.reg with phase := 15 }).reg.phase + 1 ∧
      stationAt 2 ready = none ∧ stationAt 0 ready = some station0 ∧
      (ready.setReg { ready.reg with phase := 1 }).reg.phase = station0.callPhase ∧
      (ready.setReg { ready.reg with phase := 5 }).reg.phase ≠ station0.callPhase ∧
      (ready.setReg { ready.reg with phase := 5 }).reg.phase = station0.detectPhase := by decide

/-- `ready` in a registration state, with the mark window as given. -/
def windowed (r : RegState) (isOpen seen : Bool) (good : Nat) : State :=
  ready.setReg { ready.reg with
    state := r, goodMarks := good, window := { isOpen := isOpen, markSeen := seen, tolerance := 1 } }

/-- `ready` at the close of its mark window. -/
def closingWindow (r : RegState) (seen : Bool) (faults : Option Nat) : State :=
  ready.setReg { ready.reg with
    state := r, phase := 2, pocketIndex := 0, faultWindow := faults,
    window := { isOpen := true, markSeen := seen, tolerance := 1 } }

/-- The mark window at its ends: where it opens and not, with T 0, open past its close and before it, in each state. -/
theorem witness_MarkWindowOpensAndCloses :
    ready.reg.window.isOpen = false ∧
      (ready.setReg { ready.reg with phase := 15, pocketIndex := 7 }).reg.phase + geo.tolerance = geo.pitch ∧
      (ready.setReg { ready.reg with phase := 15, pocketIndex := 7 }).reg.pocketIndex + 1 = geo.chainLength ∧
      ready.reg.phase + geo.tolerance ≠ geo.pitch ∧
      (geometryItems (ready.setSetup { ready.setup with geometry := some { geo with tolerance := 0 } })).tolerance = 0 ∧
      (windowed .seeking true false 1).reg.window.isOpen = true ∧
      (∀ r seen, (closingWindow r seen none).reg.window.isOpen = true ∧
        (closingWindow r seen none).reg.phase = (closingWindow r seen none).reg.window.tolerance + 1 ∧
        (closingWindow r seen none).reg.pocketIndex = 0 ∧ (closingWindow r seen none).reg.state = r ∧
        (closingWindow r seen none).reg.window.markSeen = seen ∧ (closingWindow r seen none).reg.faultWindow = none ∧
        (closingWindow r seen (some 7)).reg.faultWindow = some 7) := by
  refine ⟨by decide, by decide, by decide, by decide, by decide, by decide, fun r seen => ?_⟩
  exact ⟨rfl, rfl, rfl, rfl, rfl, rfl, rfl⟩

/-- Room and a subscription to STATE where registration is lost, and where a mark aligns with a boundary. -/
theorem witness_StateNoticesOfRegistration :
    let s := ready.setReg { ready.reg with state := .lost, phase := 8 }
    Roomy 4 (closingWindow .registered false (some 7)) ∧
      (subscription .line (closingWindow .registered false (some 7))).state = true ∧
      Roomy 4 ((travelling piece7 1 []).setReg { ready.reg with faultWindow := some 7 }) ∧ s.reg.state ≠ .seeking ∧
      (subscription .line s).state = true ∧
      txHasRoom .line (boundaryEvents [.entry, .carrier, .disposition] (settle (settleVerify ((s.setReg { s.reg with
        phase := 0, issuedTo := 0, pocketIndex := 0 }).setTrack (.empty none 0 :: s.track.dropLast))))) = true :=
  ⟨roomy_of_powerOn rfl 4 (by omega), rfl, roomy_of_powerOn rfl 4 (by omega), by decide, rfl, by decide⟩

theorem witness_HomeMarksAlignAndConfirmTheCount :
    State.reset.setup.geometry = none ∧ ready.setup.geometry = some geo ∧
      (windowed .lost false false 0).reg.state = .lost ∧ 2 * (windowed .lost false false 0).reg.phase < geo.pitch ∧
      2 * 7 < geo.pitch ∧ geo.pitch ≤ 2 * (ready.setReg { ready.reg with phase := 8 }).reg.phase ∧
      (windowed .seeking true false 0).reg.state = .seeking ∧
      (windowed .seeking true false 0).reg.window.isOpen = true ∧
      (windowed .seeking true false 0).reg.window.markSeen = false ∧
      (windowed .seeking true false 0).reg.goodMarks + 1 < 2 ∧
      2 ≤ (windowed .seeking true false 1).reg.goodMarks + 1 ∧
      (windowed .seeking true true 1).reg.window.markSeen = true ∧
      (windowed .registered true false 0).reg.state = .registered := by decide

theorem witness_SecondBadMarkLosesRegistration :
    ready.setup.geometry = some geo ∧ ready.reg.state = .registered ∧ ready.reg.window.isOpen = false ∧
      ready.reg.faultWindow = none ∧
      ((travelling piece7 1 []).setReg { ready.reg with faultWindow := some 7 }).reg.faultWindow = some 7 ∧
      pieceAt 1 (travelling piece7 1 []) = some piece7 ∧ (travelling piece7 1 []).store.jobState ≠ .aborting ∧
      KeysDistinct (travelling piece7 1 []) ∧ (travelling piece7 1 []).store.lane.length + 1 ≤ 16 ∧
      (rejecting piece7 .aborting true []).store.jobState = .aborting ∧ KeysDistinct (rejecting piece7 .aborting true []) ∧
      pieces (rejecting piece7 .aborting true []) ≠ [] ∧ actionOf .registrationLost ready = .stop := by
  refine ⟨by decide, by decide, by decide, by decide, by decide, by decide, by decide, ?_, by decide, by decide, ?_,
    by decide, by decide⟩
  all_goals
    unfold KeysDistinct
    decide

/-- A state with a piece in the track, a bundle and an order. -/
theorem witness_StepKeepsHaltWithTheLatchAndPiecesRegistered :
    StopHalts (travelling piece7 1 [order1 .issued]) ∧ NoPiecesUnlessRegistered (travelling piece7 1 [order1 .issued]) ∧
      StopHalts stopped ∧ (∃ t, step (travelling piece7 1 [order1 .issued]) = .next t) := by
  refine ⟨by simp [StopHalts, travelling, ready, State.reset, FaultUnit.powerOn], fun h => absurd rfl h, ?_, _, rfl⟩
  exact ⟨fun _ => rfl, fun _ => rfl⟩

theorem witness_StepKeepsTrackCountAndConfirms :
    TrackFitsGeometry (confirming none 0 false) ∧ CountWithinPitch (confirming none 0 false) ∧
      ConfirmsBounded (confirming none 0 false) := by
  refine ⟨?_, ?_, by unfold ConfirmsBounded; decide⟩
  · show geometryInRange geo = true ∧ _
    decide
  · show _ < geo.divider ∧ _ < geo.pitch ∧ _ < geo.chainLength ∧ _ < geo.pitch
    decide

/-- Two records waiting, one in the lane, and one in the track with its printed order, before an order given up. -/
def laden : State :=
  { travelling piece7 1 [{ number := 3, tag := 9, state := .waste }, order1 .printed,
      { number := 5, tag := 9, state := .withdrawing }] with
    store :=
      { jobNumber := some 5, jobState := .loading, loadMark := 2,
        queue := [{ record7 with key := 8 }, { record7 with key := 9, bundle := 2 }],
        lane := [{ record7 with key := 3, attempt := 1 }],
        map := [(3, .lane), (7, .track), (8, .queue), (9, .queue)], textUsed := 8, backlog := [(3, .short)] }
    carrier :=
      { mode := .run,
        queue := [{ number := 3, tag := 9, state := .waste }, order1 .printed,
          { number := 5, tag := 9, state := .withdrawing }],
        printedCount := 2, nextOrder := 6 } }

/-- Its track fits the geometry, and with no command waiting it takes a step. -/
theorem laden_steps : TrackFitsGeometry laden ∧ ∃ t, step laden = .next t := by
  refine ⟨?_, _, rfl⟩
  show geometryInRange geo = true ∧ _
  decide

theorem witness_StepKeepsHoldEmptyAndTheBufferAtTheHead :
    BufferAtHead laden ∧ OrdersDistinct laden ∧ HoldIsEmpty inHold ∧ inHold.carrier.mode ≠ .run :=
  ⟨⟨⟨[{ number := 3, tag := 9, state := .waste }, order1 .printed], [{ number := 5, tag := 9, state := .withdrawing }],
    rfl, by decide, by decide, rfl⟩, by decide⟩, by unfold OrdersDistinct; decide, fun _ => ⟨rfl, rfl, rfl, rfl⟩,
    by decide⟩

theorem witness_StepKeepsOrdersWithTheirPieces :
    OrdersMatchPieces laden ∧ OrdersDistinct laden ∧ HoldIsEmpty laden ∧ TrackFitsGeometry laden := by
  refine ⟨⟨by decide, ?_⟩, by unfold OrdersDistinct; decide, fun h => absurd rfl h, laden_steps.1⟩
  intro q x h _
  match q, h with
  | 0, _ => decide
  | 1, _ => decide
  | 2, _ => decide
  | 3, h => exact nomatch h
  | 4, h => exact nomatch h
  | 5, h => exact nomatch h
  | n + 6, h => exact nomatch h

theorem witness_StepKeepsTheDispatchQueueInOrder : QueueInOrder laden ∧ TrackFitsGeometry laden :=
  ⟨⟨by decide, by decide, by decide, fun h => nomatch h⟩, laden_steps.1⟩

theorem witness_StepKeepsRecordsAccounted :
    RecordsAccounted laden ∧ GateHoldsNoPiece laden ∧ TrackFitsGeometry laden := by
  refine ⟨?_, rfl, laden_steps.1⟩
  refine ⟨by unfold KeysDistinct; decide, by decide, fun key => ?_, fun key => ?_, fun key => ?_, by decide, by decide,
    by decide⟩
  · simp only [show laden.store.map = [(3, .lane), (7, .track), (8, .queue), (9, .queue)] from rfl,
      show laden.store.queue = [{ record7 with key := 8 }, { record7 with key := 9, bundle := 2 }] from rfl]
    simp [eq_comm]
  · simp only [show laden.store.map = [(3, .lane), (7, .track), (8, .queue), (9, .queue)] from rfl,
      show laden.store.lane = [{ record7 with key := 3, attempt := 1 }] from rfl]
    simp [eq_comm]
  · simp only [show laden.store.map = [(3, .lane), (7, .track), (8, .queue), (9, .queue)] from rfl,
      show trackRecords laden = [record7] from rfl]
    simp [eq_comm, record7]

theorem witness_StepKeepsCapacitiesAndRanges :
    WithinCapacity ready ∧ CountersInRange ready ∧ ActionsAllowed ready ∧ ready.link.dropped = [] := by
  refine ⟨⟨fun p => by cases p <;> decide, by decide, by decide, by decide, by decide⟩,
    ⟨⟨by decide, by decide⟩, ⟨by decide, by decide⟩, by decide, by decide, fun n h => (nomatch h),
      fun k => by cases k <;> decide, fun c l h => by cases c <;> exact (nomatch h), fun b h => (nomatch h)⟩,
    fun k => by cases k <;> decide, rfl⟩

theorem witness_StepKeepsBaysAndTableTogether : BaysMatchTable closing := by
  refine ⟨by decide, fun h n => ?_⟩
  revert h
  have key : ∀ h : Fin 16, closing.bundles.bays[h] = if h = 0 then some 1 else none := by decide
  intro h
  rw [key]
  constructor
  · intro e
    split at e
    · rename_i h0
      cases e
      exact ⟨_, List.mem_singleton_self _, rfl, by subst h0; rfl⟩
    · exact nomatch e
  · rintro ⟨b, hb, rfl, hbay⟩
    rw [List.mem_singleton.mp hb] at hbay ⊢
    rw [if_pos (Fin.ext hbay.symm)]
    rfl

end Sys2Proof.Tests
end

/-! HOLD in each gate state (R22): the rules of queuing that its ACCEPT and its STATE notice need, what it answers, and
the obligation about it. -/

namespace Sys2Proof.Machine

/-! ## Queuing beside run control -/

theorem post_setRun (p : Port) (f : Frame) (s : State) (x : RunControl) :
    post p f (s.setRun x) = (post p f s).setRun x := by
  have hroom : txHasRoom p (s.setRun x) = txHasRoom p s := rfl
  cases h : txHasRoom p s with
  | true => rw [post_of_room h, post_of_room (hroom.trans h)]; rfl
  | false => rw [post_of_full h, post_of_full (hroom.trans h)]; rfl

theorem changeGate_of_same {g : GateState} {s : State} (h : s.run.gate = g) : changeGate g s = s := if_pos h

theorem changeGate_of_ne {g : GateState} {s : State} (h : s.run.gate ≠ g) :
    changeGate g s = postState (.gate g) (s.setRun { s.run with gate := g }) := if_neg h

/-- A reply queued ahead of a change of the gate: the change may be made first. -/
theorem changeGate_post {p : Port} {f : Frame} {g : GateState} {s : State} (h : s.run.gate ≠ g) :
    changeGate g (post p f s) = postState (.gate g) (post p f (s.setRun { s.run with gate := g })) := by
  have hrun : (post p f s).run = s.run := by simp
  rw [changeGate_of_ne (by rwa [hrun]), hrun, post_setRun]

/-! ## What a notice adds, and what it leaves -/

theorem appended_changes_link_only (p : Port) (f : Frame) (s : State) :
    appended p f s = s.setLink (appended p f s).link := rfl

theorem foldAppended_changes_link_only (ps : List Port) (f : Frame) (s : State) :
    ps.foldl (fun s p => appended p f s) s = s.setLink (ps.foldl (fun s p => appended p f s) s).link := by
  induction ps generalizing s with
  | nil => rfl
  | cons p ps ih =>
    simp only [List.foldl_cons]
    rw [ih (appended p f s)]
    rfl

theorem announced_changes_link_only (c : StateChange) (s : State) :
    announced c s = s.setLink (announced c s).link :=
  foldAppended_changes_link_only _ _ s

/-- Taking a message changes run control and the link unit alone. -/
theorem silent_changes_run_and_link_only (p : Port) (s : State) :
    silent p s = (s.setRun (silent p s).run).setLink (silent p s).link := by
  unfold silent restartClaimTimer
  split
  · split <;> rfl
  · rfl

/-- A message offered to several ports stands once at the tail of the queue of each of them. -/
theorem txQueue_foldAppended (q : Port) (f : Frame) (ps : List Port) (hnd : ps.Nodup) (s : State) :
    txQueue q (ps.foldl (fun s p => appended p f s) s) = txQueue q s ++ if q ∈ ps then [f] else [] := by
  induction ps generalizing s with
  | nil => simp
  | cons p ps ih =>
    obtain ⟨hp, hps⟩ := List.nodup_cons.mp hnd
    rw [List.foldl_cons, ih hps]
    by_cases hq : q = p
    · subst hq; simp [hp]
    · simp [txQueue_appended_other f s hq, hq]

theorem txQueue_announced (q : Port) (c : StateChange) (s : State) :
    txQueue q (announced c s) = txQueue q s ++ if q ∈ stateSubscribers s then [stateFrame c] else [] :=
  txQueue_foldAppended q _ _ (nodup_stateSubscribers s) s

theorem txQueue_silent (p q : Port) (s : State) : txQueue q (silent p s) = txQueue q s := by
  have hl : (silent p s).link = (setPortState p { portState p s with receiver := .idle } s).link :=
    restartClaimTimer_link _ _
  simp only [txQueue, portState, hl]
  by_cases h : q = p
  · subst h; simp [setPortState]
  · simp [setPortState, portGet_portSet_other _ _ h]

theorem txQueue_replied_same (p : Port) (f : Frame) (s : State) : txQueue p (replied p f s) = txQueue p s ++ [f] := by
  rw [← appended_silent, txQueue_appended_same, txQueue_silent]

theorem stateSubscribers_replied (p : Port) (f : Frame) (s : State) :
    stateSubscribers (replied p f s) = stateSubscribers s := by
  have hfault : (replied p f s).fault = s.fault := by simp [replied]
  simp only [stateSubscribers, subscription, hfault]

/-- The asking port's queue after a reply and a STATE notice. -/
theorem txQueue_announced_replied (p : Port) (f : Frame) (c : StateChange) (s : State) :
    txQueue p (announced c (replied p f s)) =
      txQueue p s ++ f :: if p ∈ stateSubscribers s then [stateFrame c] else [] := by
  rw [txQueue_announced, txQueue_replied_same, stateSubscribers_replied, List.append_assoc]
  rfl

/-! ## Kinds of replies and notices -/

theorem refuseFrame_ne_acceptFrame (n m : Byte) (r : Reason) (b : List Byte) : refuseFrame n r ≠ acceptFrame m b :=
  ne_of_apply_ne Frame.kind (by simp [refuseFrame, acceptFrame])

theorem kind_stateFrame (c : StateChange) : (stateFrame c).kind = 0x70 := by
  cases c <;> rfl

theorem refuseFrame_ne_stateFrame (n : Byte) (r : Reason) (c : StateChange) : refuseFrame n r ≠ stateFrame c :=
  ne_of_apply_ne Frame.kind (by simp [refuseFrame, kind_stateFrame])

/-! ## HOLD -/

theorem exec_hold (p : Port) (num : Byte) (b : List Byte) (s : State) :
    exec (.hold p num b) s = answerMessage p (takeHold p num b) s := rfl

theorem takeHold_of_halt {num : Byte} {s : State} (h : s.run.gate = .halt) :
    takeHold .line num [] s = refuse .line num .wrongState s := by
  simp [takeHold, h]

theorem takeHold_of_not_halt {num : Byte} {s : State} (h : s.run.gate ≠ .halt) :
    takeHold .line num [] s = changeGate .closed (accept .line num s) := by
  simp [takeHold, h]

/-- HOLD where the gate is in HALT (R22). -/
theorem exec_hold_of_halt {n : Nat} {num : Byte} {s : State} (hr : Roomy (n + 1) s) (h : s.run.gate = .halt) :
    exec (.hold .line num []) s = .next (replied .line (refuseFrame num .wrongState) s) := by
  rw [exec_hold]
  exact answerMessage_reply hr _ _ _ (takeHold_of_halt (by simpa using h))

/-- HOLD where the gate is CLOSED (R22). -/
theorem exec_hold_of_closed {n : Nat} {num : Byte} {s : State} (hr : Roomy (n + 1) s) (h : s.run.gate = .closed) :
    exec (.hold .line num []) s = .next (replied .line (acceptFrame num []) s) := by
  rw [exec_hold]
  refine answerMessage_reply hr _ _ _ ?_
  rw [takeHold_of_not_halt (by simp [h]), changeGate_of_same (by simpa using h)]
  rfl

/-- HOLD where the gate closes (R22). -/
theorem exec_hold_of_admitting {n : Nat} {num : Byte} {s : State} (hr : Roomy (n + 2) s)
    (h : s.run.gate = .opened ∨ s.run.gate = .drain) :
    exec (.hold .line num []) s = .next (announced (.gate .closed)
      (replied .line (acceptFrame num []) (s.setRun { s.run with gate := .closed }))) := by
  have hhalt : (silent .line s).run.gate ≠ .halt := by rcases h with h | h <;> simp [h]
  have hclosed : (silent .line s).run.gate ≠ .closed := by rcases h with h | h <;> simp [h]
  rw [exec_hold]
  refine answerMessage_announce hr (State.setRun_link ..) _ _ _ _ ?_
  rw [takeHold_of_not_halt hhalt, accept, changeGate_post hclosed, ← silent_setGate]

/-- Where a message is answered by a reply and a change of the gate, all that changes is the gate, the claim's timer and
the link unit. -/
theorem gateChange_frame (p : Port) (f : Frame) (c : StateChange) (g : GateState) (s : State) :
    announced c (replied p f (s.setRun { s.run with gate := g })) =
      (s.setRun { (silent p s).run with gate := g }).setLink
        (announced c (replied p f (s.setRun { s.run with gate := g }))).link := by
  rw [announced_changes_link_only, ← appended_silent, silent_setGate, appended_changes_link_only,
    silent_changes_run_and_link_only]
  rfl

/-- Settles O12: the answer in each gate state, and for the gate that closes its frame and its line queue. -/
theorem holdClosesTheGateAndNothingElse : Obligations.HoldClosesTheGateAndNothingElse := by
  intro num s hr
  refine ⟨fun h => ?_, exec_hold_of_closed hr, exec_hold_of_halt hr⟩
  refine ⟨_, _, exec_hold_of_admitting hr h, gateChange_frame .., txQueue_announced_replied .., List.mem_cons_self,
    fun r hmem => ?_⟩
  rcases List.mem_cons.mp hmem with hreply | hnotice
  · exact refuseFrame_ne_acceptFrame _ _ _ _ hreply
  · split at hnotice
    · exact refuseFrame_ne_stateFrame _ _ _ (List.mem_singleton.mp hnotice)
    · exact absurd hnotice List.not_mem_nil

end Sys2Proof.Machine

/-! READ LOG (R158): the class its one byte names, what it answers, and the obligation about it. -/

namespace Sys2Proof.Machine

/-! ## The log classes and their codes -/

theorem field_singleton (c : Byte) : field [c] 0 1 = c.toNat := by
  simp [field, ofBytes]

theorem logClassOfCode_logClassCode (c : LogClass) : logClassOfCode (logClassCode c) = some c := by
  cases c <;> rfl

theorem logClassOfCode_eq_none_iff (n : Nat) : logClassOfCode n = none ↔ 2 ≤ n :=
  List.getElem?_eq_none_iff

/-- A byte other than 0 and 1 names no log class. -/
theorem logClassOfCode_toNat_of_ne {c : Byte} (h0 : c ≠ 0) (h1 : c ≠ 1) : logClassOfCode c.toNat = none := by
  rw [logClassOfCode_eq_none_iff]
  bv_omega

theorem logOf_silent (p : Port) (c : LogClass) (s : State) : logOf c (silent p s) = logOf c s := by
  cases c <;> simp [logOf]

/-! ## READ LOG -/

theorem exec_readLog (p : Port) (num : Byte) (b : List Byte) (s : State) :
    exec (.readLog p num b) s = answerMessage p (takeReadLog p num b) s := rfl

theorem takeReadLog_of_length_ne {p : Port} {num : Byte} {b : List Byte} {s : State} (h : b.length ≠ 1) :
    takeReadLog p num b s = refuse p num .badLength s := if_pos h

theorem takeReadLog_of_no_class {p : Port} {num c : Byte} {s : State} (h : logClassOfCode c.toNat = none) :
    takeReadLog p num [c] s = refuse p num .outOfRange s := by
  simp [takeReadLog, field_singleton, h]

theorem takeReadLog_of_class {p : Port} {num c : Byte} {k : LogClass} {s : State}
    (h : logClassOfCode c.toNat = some k) :
    takeReadLog p num [c] s = acceptWith p num (logBytes k (logOf k s)) s := by
  simp [takeReadLog, field_singleton, h]

/-- READ LOG of a payload that is not one byte (R158). -/
theorem exec_readLog_of_length_ne {n : Nat} {p : Port} {num : Byte} {b : List Byte} {s : State}
    (hr : Roomy (n + 1) s) (h : b.length ≠ 1) :
    exec (.readLog p num b) s = .next (replied p (refuseFrame num .badLength) s) := by
  rw [exec_readLog]
  exact answerMessage_reply hr _ _ _ (takeReadLog_of_length_ne h)

/-- READ LOG of a byte that names no log class (R158). -/
theorem exec_readLog_of_no_class {n : Nat} {p : Port} {num c : Byte} {s : State} (hr : Roomy (n + 1) s)
    (h : logClassOfCode c.toNat = none) :
    exec (.readLog p num [c]) s = .next (replied p (refuseFrame num .outOfRange) s) := by
  rw [exec_readLog]
  exact answerMessage_reply hr _ _ _ (takeReadLog_of_no_class h)

/-- READ LOG of a class answers its log as it stands when the request is taken (R158). -/
theorem exec_readLog_of_class {n : Nat} {p : Port} {num c : Byte} {k : LogClass} {s : State} (hr : Roomy (n + 1) s)
    (h : logClassOfCode c.toNat = some k) :
    exec (.readLog p num [c]) s = .next (replied p (acceptFrame num (logBytes k (logOf k s))) s) := by
  rw [exec_readLog]
  refine answerMessage_reply hr _ _ _ ?_
  rw [takeReadLog_of_class h, logOf_silent]
  rfl

/-- Settles O16: the two refusals by what the payload names, and the ACCEPT of each class by whether its log is empty. -/
theorem readLogAnswersTheLogAndChangesNothing : Obligations.ReadLogAnswersTheLogAndChangesNothing := by
  intro p num b s hr
  refine ⟨exec_readLog_of_length_ne hr,
    fun c h0 h1 => exec_readLog_of_no_class hr (logClassOfCode_toNat_of_ne h0 h1), ?_, ?_⟩
  · rw [exec_readLog_of_class (c := 0) hr (logClassOfCode_logClassCode .stop), logOf]
    cases s.fault.stopLog with
    | none => rfl
    | some l => rfl
  · rw [exec_readLog_of_class (c := 1) hr (logClassOfCode_logClassCode .reject), logOf]
    cases s.fault.rejectLog with
    | none => rfl
    | some l => rfl

end Sys2Proof.Machine

/-! How an invariant is carried through the operations of the model. `Quiet I` says that `I` is kept by the changes that
the operations of every block share: each of its fields is one change of one block, with the ranges and conditions
under which the model makes it. The lemmas after it follow the definitions of the operations, in their order. -/

namespace Sys2Proof.Machine

/-! ## The changes -/

/-- What the invariants of the records and the orders read of a position entry. -/
def essence (e : TrackEntry) : Option (Record × SourceList × Option Nat × Nat) :=
  (pieceOf e).map fun x => (x.record, x.source, x.carrier, x.tag)

/-- No transmit queue grows beyond its 32 places. -/
def LinkMove (l x : LinkUnit) : Prop :=
  ∀ p, (portGet l.ports p).tx.length ≤ 32 → (portGet x.ports p).tx.length ≤ 32

/-- The kind counts and the logs' next counts in their ranges (R157, R160). -/
def FaultRanges (f : FaultUnit) : Prop :=
  (∀ k, f.counts[kindIndex k] ≤ 65535) ∧ (∀ l, f.stopLog = some l → l.next ≤ 255) ∧
    ∀ l, f.rejectLog = some l → l.next ≤ 255

/-- Every kind's action is one of those allowed for it (R150). -/
def FaultActions (f : FaultUnit) : Prop := ∀ k, actionAllowed k (f.actions[kindIndex k]).1 = true

/-- A change of the fault unit that leaves the stop latch, the ranges and the allowed actions. -/
structure FaultMove (f x : FaultUnit) : Prop where
  latch : x.stopLatch = f.stopLatch
  ranges : FaultRanges f → FaultRanges x
  actions : FaultActions f → FaultActions x

/-- The count stands within the pitch and the chain of a geometry, and at 0 without one (R1, R2, R6, R9). -/
def CountIn (geo : Option Geometry) (r : Registration) : Prop :=
  match geo with
  | none => r.remainder = 0 ∧ r.phase = 0 ∧ r.pocketIndex = 0 ∧ r.issuedTo = 0
  | some g =>
    r.remainder < g.divider ∧ r.phase < g.pitch ∧ r.pocketIndex < g.chainLength ∧ 2 * r.issuedTo < g.pitch

/-- The geometry, where one is set, is in range (R31). -/
def GeometryFit (geo : Option Geometry) : Prop := ∀ g, geo = some g → geometryInRange g = true

/-- A change of the registration unit that does not leave REGISTERED and keeps its counters in their ranges. -/
structure RegMove (geo : Option Geometry) (r x : Registration) : Prop where
  state : x.state = r.state ∨ r.state ≠ .registered
  marks : r.goodMarks ≤ 2 → x.goodMarks ≤ 2
  window : (∀ n, r.faultWindow = some n → n ≤ 7) → ∀ n, x.faultWindow = some n → n ≤ 7
  count : GeometryFit geo → CountIn geo r → CountIn geo x

/-- The apply and dump lines are released or left as they are. -/
def LinesMove (l x : Lines) : Prop := (x.apply = none ∨ x.apply = l.apply) ∧ (x.dump = none ∨ x.dump = l.dump)

/-- The tag counter stays in its range, and the lockout set within its capacity (R37, R71). -/
structure EntryMove (e x : EntryUnit) : Prop where
  tag : 1 ≤ e.nextTag ∧ e.nextTag ≤ 65535 → 1 ≤ x.nextTag ∧ x.nextTag ≤ 65535
  lockout : e.lockout.length ≤ 32 → x.lockout.length ≤ 32

/-- At most one confirm of the present pitch, counting a gate due, and at most one of the pitch before (R129). -/
def ConfirmsFit (d : Disposition) : Prop :=
  (d.confirms.filter fun c => c.seen == 0).length + (if d.gateDue.isSome then 1 else 0) ≤ 1 ∧
    (d.confirms.filter fun c => c.seen != 0).length ≤ 1

/-- A change of a bundle's entry that leaves its number, its bay and its ranges. -/
structure BundleMove (f : Bundle → Bundle) : Prop where
  number : ∀ b, (f b).number = b.number
  bay : ∀ b, (f b).bay = b.bay
  ranges : ∀ b, BundleInRange b → BundleInRange (f b)

/-- A change of the job that leaves none while a record is held, and the load mark where one is (R44). -/
structure JobMove (s : State) (j : JobState) (m : Nat) : Prop where
  mark : m = s.store.loadMark ∨ s.store.jobState = .noJob ∨ heldRecords s = []
  none : j = .noJob → s.store.jobState = .noJob ∨ heldRecords s = []

/-- `I` is kept by the changes that the operations of every block share. -/
structure Quiet (I : State → Prop) : Prop where
  pins : ∀ {s}, I s → ∀ x, I (s.setPins x)
  pending : ∀ {s}, I s → ∀ x, I (s.setPending x)
  calls : ∀ {s}, I s → ∀ x, I (s.setCallOutstanding x)
  free : ∀ {s}, I s → ∀ x, I (s.setFreeTaken x)
  link : ∀ {s}, I s → ∀ x, LinkMove s.link x → I (s.setLink x)
  claim : ∀ {s}, I s → ∀ c, I (s.setRun { s.run with claim := c })
  gate : ∀ {s}, I s → ∀ g, g ≠ .halt → s.run.gate ≠ .halt → I (s.setRun { s.run with gate := g })
  latch : ∀ {s}, I s → I ((s.setFault { s.fault with stopLatch := true }).setRun { s.run with gate := .halt })
  unlatch : ∀ {s}, I s → I ((s.setFault { s.fault with stopLatch := false }).setRun { s.run with gate := .closed })
  fault : ∀ {s}, I s → ∀ x, FaultMove s.fault x → I (s.setFault x)
  stations : ∀ {s}, I s → ∀ x, I (s.setSetup { s.setup with stations := x })
  lines : ∀ {s}, I s → ∀ x, LinesMove s.lines x → I (s.setLines x)
  verify : ∀ {s}, I s → ∀ n, n ≤ 1 → I (s.setVerify { mismatchRun := n })
  entry : ∀ {s}, I s → ∀ x, EntryMove s.entry x → I (s.setEntry x)
  reg : ∀ {s}, I s → ∀ x, RegMove s.setup.geometry s.reg x → I (s.setReg x)
  disp : ∀ {s}, I s → ∀ x, (ConfirmsFit s.disp → ConfirmsFit x) → I (s.setDisp x)
  track : ∀ {s}, I s → ∀ x, x.map essence = s.track.map essence → I (s.setTrack x)
  bundle : ∀ {s}, I s → ∀ n f, BundleMove f → I (updateBundle n f s)
  removeBundle : ∀ {s}, I s → ∀ n, I (removeBundle n s)
  job : ∀ {s}, I s → ∀ j n m, JobMove s j m →
    I (s.setStore { s.store with jobState := j, jobNumber := n, loadMark := m })

namespace Quiet

variable {I : State → Prop} {s : State}

/-! ## Ports and transmit queues -/

theorem port (q : Quiet I) (h : I s) (p : Port) (x : PortState) (hx : (txQueue p s).length ≤ 32 → x.tx.length ≤ 32) :
    I (setPortState p x s) := by
  refine q.link h _ fun r hr => ?_
  by_cases hp : r = p
  · subst hp
    simpa using hx hr
  · simpa [portGet_portSet_other _ _ hp] using hr

theorem post (q : Quiet I) (h : I s) (p : Port) (f : Frame) : I (post p f s) := by
  cases hroom : txHasRoom p s with
  | true =>
    rw [post_of_room hroom]
    have hlen : (txQueue p s).length < 32 := of_decide_eq_true hroom
    exact q.port h _ _ fun _ => by simpa using hlen
  | false =>
    rw [post_of_full hroom]
    exact q.link h _ fun _ hr => hr

theorem postTo (q : Quiet I) (h : I s) (ps : List Port) (f : Frame) : I (postTo ps f s) := by
  unfold Machine.postTo
  induction ps generalizing s with
  | nil => exact h
  | cons p ps ih => exact ih (q.post h p f)

theorem postState (q : Quiet I) (h : I s) (c : StateChange) : I (postState c s) := q.postTo h _ _

theorem accept (q : Quiet I) (h : I s) (p : Port) (num : Byte) : I (accept p num s) := q.post h _ _

theorem acceptWith (q : Quiet I) (h : I s) (p : Port) (num : Byte) (b : List Byte) : I (acceptWith p num b s) :=
  q.post h _ _

theorem refuse (q : Quiet I) (h : I s) (p : Port) (num : Byte) (r : Reason) : I (refuse p num r s) := q.post h _ _

theorem restartClaimTimer (q : Quiet I) (h : I s) (p : Port) : I (restartClaimTimer p s) := by
  unfold Machine.restartClaimTimer
  split
  · split
    · exact q.claim h _
    · exact h
  · exact h

theorem setReceiver (q : Quiet I) (h : I s) (p : Port) (x : Receiver) : I (setReceiver p x s) := q.port h _ _ id

theorem beginMessage (q : Quiet I) (h : I s) (p : Port) : I (beginMessage p s) :=
  q.restartClaimTimer (q.setReceiver h p .idle) p

/-! ## The entry gate -/

theorem changeGate (q : Quiet I) (h : I s) {g : GateState} (hg : g ≠ .halt) (hs : s.run.gate ≠ .halt) :
    I (changeGate g s) := by
  unfold Machine.changeGate
  split
  · exact h
  · exact q.postState (q.gate h g hg hs) _

theorem closeGate (q : Quiet I) (h : I s) : I (closeGate s) := by
  unfold Machine.closeGate
  split
  · next hg => exact q.changeGate h (by decide) (by simp [hg])
  · next hg => exact q.changeGate h (by decide) (by simp [hg])
  · exact h
  · exact h

/-! ## The fault unit -/

theorem countFault (q : Quiet I) (h : I s) (k : FaultKind) : I (countFault k s) := by
  unfold Machine.countFault
  dsimp only
  split
  · next hn =>
    refine q.fault h _ ⟨rfl, fun hr => ⟨fun j => ?_, hr.2⟩, id⟩
    simp only [Fin.getElem_fin, Vector.getElem_set]
    split
    · exact hn
    · exact hr.1 j
  · exact h

theorem steerFault (q : Quiet I) (h : I s) (k : FaultKind) : I (steerFault k s) := by
  unfold Machine.steerFault
  split
  · exact h
  · split
    · exact h
    · exact q.fault h _ ⟨rfl, id, id⟩
  · split
    · exact h
    · exact q.fault h _ ⟨rfl, id, id⟩

theorem setLog (q : Quiet I) (h : I s) (c : LogClass) (x : Option FaultLog)
    (hx : FaultRanges s.fault → ∀ l, x = some l → l.next ≤ 255) : I (setLog c x s) := by
  cases c with
  | stop => exact q.fault h _ ⟨rfl, fun hr => ⟨hr.1, hx hr, hr.2.2⟩, id⟩
  | reject => exact q.fault h _ ⟨rfl, fun hr => ⟨hr.1, hr.2.1, hx hr⟩, id⟩

theorem logNext_le {n : Nat} (h : n ≤ 255) : (if n < Config.nextLimit then n + 1 else n) ≤ 255 := by
  split
  · next hn => exact hn
  · exact h

theorem enterLog (q : Quiet I) (h : I s) (c : LogClass) (f : FaultRecord) : I (enterLog c f s) := by
  unfold Machine.enterLog
  split
  · refine q.postTo (q.setLog h c _ ?_) _ _
    rintro - l ⟨⟩
    exact Nat.zero_le _
  · next l hl =>
    refine q.setLog h c _ ?_
    rintro hr m ⟨⟩
    have hnext : l.next ≤ 255 := by
      cases c
      · exact hr.2.1 l hl
      · exact hr.2.2 l hl
    exact logNext_le hnext

/-- A change to the value that stands is none. -/
theorem setRun_gate_self {g : GateState} (h : s.run.gate = g) : s.setRun { s.run with gate := g } = s := by
  subst h
  rfl

theorem setStopLatch (q : Quiet I) (h : I s) : I (setStopLatch s) := by
  unfold Machine.setStopLatch
  split
  · exact h
  · have hl := q.latch h
    unfold Machine.changeGate
    split
    · next hg => rwa [← setRun_gate_self hg]
    · exact q.postState hl _

theorem logAndStop (q : Quiet I) (h : I s) (a : Action) (f : FaultRecord) : I (logAndStop a f s) := by
  cases a with
  | off => exact h
  | note => exact h
  | reject => exact q.enterLog h _ _
  | stop => exact q.setStopLatch (q.enterLog h _ _)

theorem raise (q : Quiet I) (h : I s) (f : FaultRecord) : I (raise f s) := by
  unfold Machine.raise
  split
  · exact h
  · exact q.logAndStop (q.steerFault (q.countFault h _) _) _ _

theorem takeOverflows (q : Quiet I) (h : I s) : I (takeOverflows s) := by
  have hd : I (s.setLink { s.link with dropped := [] }) := q.link h _ fun _ hr => hr
  unfold Machine.takeOverflows
  generalize s.setLink { s.link with dropped := [] } = t at hd
  induction s.link.dropped generalizing t with
  | nil => exact hd
  | cons p ps ih => exact ih _ (q.raise hd _)

theorem settle (q : Quiet I) (h : I s) : I (settle s) := q.takeOverflows (q.takeOverflows h)

theorem linkError (q : Quiet I) (h : I s) (p : Port) : I (linkError p s) := q.raise h _

theorem strayReport (q : Quiet I) (h : I s) (p : Port) : I (strayReport p s) := q.raise h _

/-! ## The track -/

theorem map_set_of_getElem? {α β : Type} {f : α → β} {l : List α} {p : Nat} {e x : α} (h : l[p]? = some e)
    (hx : f x = f e) : (l.set p x).map f = l.map f := by
  obtain ⟨hp, rfl⟩ := List.getElem?_eq_some_iff.mp h
  have hself : f l[p] = (l.map f)[p]'(by simpa using hp) := by simp
  rw [List.map_set, hx, hself, List.set_getElem_self]

theorem getElem?_of_pieceAt {p : Nat} {x : Piece} (h : pieceAt p s = some x) : s.track[p]? = some (.piece x) := by
  unfold pieceAt at h
  split at h
  · next e => rw [e]; simpa using h
  · exact absurd h (by simp)

/-- An entry replaced by one with the same records and orders. -/
theorem setEntryAt (q : Quiet I) (h : I s) {p : Nat} {e x : TrackEntry} (he : entryAt p s = some e)
    (hx : essence x = essence e) : I (setEntryAt p x s) :=
  q.track h _ (map_set_of_getElem? he hx)

/-- A change of a piece that leaves its record, its source, its order and its tag. -/
def PieceMove (f : Piece → Piece) : Prop :=
  ∀ x, (f x).record = x.record ∧ (f x).source = x.source ∧ (f x).carrier = x.carrier ∧ (f x).tag = x.tag

theorem updatePiece (q : Quiet I) (h : I s) (p : Nat) {f : Piece → Piece} (hf : PieceMove f) :
    I (updatePiece p f s) := by
  unfold Machine.updatePiece
  split
  · next x hx =>
    refine q.setEntryAt h (e := .piece x) (getElem?_of_pieceAt hx) ?_
    obtain ⟨hr, hs, hc, ht⟩ := hf x
    simp [essence, pieceOf, hr, hs, hc, ht]
  · exact h

theorem pieceMove_markPiece (k : FaultKind) (a : Action) : PieceMove (markPiece k a) := by
  intro x
  cases a <;> exact ⟨rfl, rfl, rfl, rfl⟩

theorem pieceMove_markRejectDue (a : Action) : PieceMove (markRejectDue a) := by
  intro x
  cases a <;> exact ⟨rfl, rfl, rfl, rfl⟩

theorem raiseMarking (q : Quiet I) (h : I s) {m : Action → Piece → Piece} (hm : ∀ a, PieceMove (m a)) (k : FaultKind)
    (src : Source) (p : Nat) : I (raiseMarking m k src p s) := by
  unfold Machine.raiseMarking
  split
  · exact h
  · exact q.updatePiece (q.raise h _) p (hm _)

theorem raiseOnPiece (q : Quiet I) (h : I s) (k : FaultKind) (src : Source) (p : Nat) :
    I (raiseOnPiece k src p s) :=
  q.raiseMarking h (pieceMove_markPiece k) k src p

/-! ## The job and the bundles -/

theorem endEpisodes (q : Quiet I) (h : I s) : I (endEpisodes s) := q.entry h _ ⟨id, id⟩

theorem changeJob (q : Quiet I) (h : I s) {j : JobState} {n : Option Nat} (hj : j = .noJob → heldRecords s = []) :
    I (changeJob j n s) :=
  q.postState (q.job h j n _ ⟨.inl rfl, fun e => .inr (hj e)⟩) _

theorem heldRecords_of_ready (h : completionReady s = true) : heldRecords s = [] := by
  simp only [completionReady, trackClear, Bool.and_eq_true, List.isEmpty_iff] at h
  obtain ⟨⟨⟨⟨-, hq⟩, hl⟩, hp⟩, -⟩ := h
  simp [heldRecords, trackRecords, hq, hl, hp]

theorem heldRecords_congr {t : State} (hq : t.store.queue = s.store.queue) (hl : t.store.lane = s.store.lane)
    (ht : t.track = s.track) : heldRecords t = heldRecords s := by
  simp [heldRecords, trackRecords, pieces, hq, hl, ht]

theorem completeJob (q : Quiet I) (h : I s) (hh : heldRecords s = []) : I (completeJob s) := by
  have hpost := q.post h .address (jobCompleteFrame s.store.jobNumber (s.store.jobState = .aborting))
  have hmark := q.job hpost s.store.jobState s.store.jobNumber 0
    ⟨.inr (.inr ((heldRecords_congr (by simp) (by simp) (by simp)).trans hh)), fun e => .inl (by simpa using e)⟩
  refine q.closeGate (q.endEpisodes (q.changeJob ?_ fun _ =>
    (heldRecords_congr (s := s) (by simp) (by simp) (by simp)).trans hh))
  simpa using hmark

theorem completionCheck (q : Quiet I) (h : I s) : I (completionCheck s) := by
  unfold Machine.completionCheck
  split
  · next hc => exact q.completeJob h (heldRecords_of_ready hc)
  · exact h

theorem closeBundle (q : Quiet I) (h : I s) (b : Bundle) : I (closeBundle b s) := by
  unfold Machine.closeBundle
  split
  · exact q.completionCheck (q.post (q.removeBundle h _) _ _)
  · refine q.bundle (q.post h _ _) _ _ ⟨fun _ => rfl, fun _ => rfl, fun _ hb => ⟨hb.1, hb.2.1, hb.2.2.1, ?_⟩⟩
    rintro n ⟨⟩
    decide

theorem closeCheck (q : Quiet I) (h : I s) (n : Nat) : I (closeCheck n s) := by
  unfold Machine.closeCheck
  split
  · exact h
  · split
    · exact q.closeBundle h _
    · exact h

theorem closeChecks (q : Quiet I) (h : I s) (ns : List Nat) : I (closeChecks ns s) := by
  unfold Machine.closeChecks
  induction ns generalizing s with
  | nil => exact h
  | cons n ns ih => exact ih (q.closeCheck h n)

theorem sealBundle (q : Quiet I) (h : I s) (n : Nat) : I (sealBundle n s) := by
  unfold Machine.sealBundle
  split
  · exact h
  · split
    · exact q.closeCheck (q.bundle h n (fun b => { b with state := .sealed })
        ⟨fun _ => rfl, fun _ => rfl, fun _ hb => hb⟩) _
    · exact h

theorem sealBundles (q : Quiet I) (h : I s) (ns : List Nat) : I (sealBundles ns s) := by
  unfold Machine.sealBundles
  induction ns generalizing s with
  | nil => exact h
  | cons n ns ih => exact ih (q.sealBundle h n)

theorem setShort (q : Quiet I) (h : I s) (n : Nat) : I (setShort n s) :=
  q.bundle h _ _ ⟨fun _ => rfl, fun _ => rfl, fun _ hb => hb⟩

theorem setShorts (q : Quiet I) (h : I s) (ns : List Nat) : I (ns.foldl (fun s n => Machine.setShort n s) s) := by
  induction ns generalizing s with
  | nil => exact h
  | cons n ns ih => exact ih (q.setShort h n)

theorem bundleMove_leavePlace (x : Place) : BundleMove (leavePlace x) := by
  cases x <;> exact ⟨fun _ => rfl, fun _ => rfl, fun _ hb => hb⟩

theorem leavePlace_inRange {b : Bundle} (x : Place) (hb : BundleInRange b) : BundleInRange (leavePlace x b) :=
  (bundleMove_leavePlace x).ranges b hb

theorem bundleMove_countEnd (x : Place) (e : RecordEnd) (free : BitVec 24) : BundleMove (countEnd x e free) := by
  cases e with
  | delivered tag =>
    refine ⟨fun b => (bundleMove_leavePlace x).number b, fun b => (bundleMove_leavePlace x).bay b, fun b hb => ?_⟩
    obtain ⟨-, hoff, hsus, htie⟩ := leavePlace_inRange x hb
    exact ⟨raiseCount_le _ _, hoff, hsus, htie⟩
  | offSequence reason =>
    refine ⟨fun b => (bundleMove_leavePlace x).number b, fun b => (bundleMove_leavePlace x).bay b, fun b hb => ?_⟩
    obtain ⟨hdel, -, hsus, htie⟩ := leavePlace_inRange x hb
    exact ⟨hdel, raiseCount_le _ _, hsus, htie⟩
  | aborted => exact bundleMove_leavePlace x

theorem countBundle (q : Quiet I) (h : I s) (n : Nat) {f : BitVec 24 → Bundle → Bundle} (hf : ∀ v, BundleMove (f v)) :
    I (countBundle n f s) :=
  q.free (q.bundle h n _ (hf _)) _

theorem deliveryFault (q : Quiet I) (h : I s) (src : Source) (b : Option Nat) : I (deliveryFault src b s) :=
  q.raise h _

theorem finishTie (q : Quiet I) (h : I s) (b : Bundle) : I (finishTie b s) :=
  q.completionCheck (q.post (q.removeBundle h _) _ _)

theorem judgeTie (q : Quiet I) (h : I s) (n c : Nat) : I (judgeTie n c s) := by
  unfold Machine.judgeTie
  split
  · exact q.strayReport h _
  · split
    · split
      · exact q.finishTie h _
      · exact q.deliveryFault h _ _
    · exact q.strayReport h _

theorem takeTied (q : Quiet I) (h : I s) (p : Port) (b : List Byte) : I (takeTied p b s) := by
  unfold Machine.takeTied
  split
  · exact q.strayReport h _
  · exact q.judgeTie h _ _

theorem takeJam (q : Quiet I) (h : I s) (p : Port) (b : List Byte) : I (takeJam p b s) := by
  unfold Machine.takeJam
  split
  · exact q.strayReport h _
  · exact q.deliveryFault h _ _

theorem expireTieTimer (q : Quiet I) (h : I s) (n : Nat) : I (expireTieTimer n s) := by
  unfold Machine.expireTieTimer
  split
  · exact h
  · split
    · refine q.deliveryFault (q.bundle h n (fun b => { b with tieTimer := none }) ⟨fun _ => rfl, fun _ => rfl, fun _ hb => ?_⟩) _ _
      exact ⟨hb.1, hb.2.1, hb.2.2.1, fun _ he => nomatch he⟩
    · exact h

end Quiet

end Sys2Proof.Machine

/-! What a step keeps. `Work I` adds to `Quiet I` the changes of one block that an invariant about that block has to prove
for itself: records that come, wait and leave, orders, the loss of registration, the pitch boundary, a new geometry and
the resets. `Work.step` carries `I` through every step. -/

namespace Sys2Proof.Machine

/-! ## The feed stations, the readings and the mark window -/

namespace Quiet

variable {I : State → Prop} {s : State}

theorem callPhase (q : Quiet I) (h : I s) (i : Fin 12) (e : Station) : I (callPhase i e s) := by
  unfold Machine.callPhase
  split
  · exact h
  · split
    · exact q.calls (q.lines h _ (by exact ⟨.inr rfl, .inr rfl⟩)) _
    · exact h

theorem pieceMove_setResult (i : Fin 12) (r : FeedResult) : PieceMove (setResult i r) :=
  fun _ => ⟨rfl, rfl, rfl, rfl⟩

theorem feedFault (q : Quiet I) (h : I s) (i : Fin 12) (r : FeedResult) (k : FaultKind) (p : Nat) :
    I (Machine.raiseOnPiece k (.station i) p (Machine.updatePiece p (setResult i r) s)) :=
  q.raiseOnPiece (q.updatePiece h p (pieceMove_setResult i r)) _ _ _

theorem readCalled (q : Quiet I) (h : I s) (i : Fin 12) (p : Nat) : I (readCalled i p s) := by
  unfold Machine.readCalled
  split
  · exact q.updatePiece h p (pieceMove_setResult i _)
  · exact q.feedFault h i _ _ p
  · exact q.feedFault h i _ _ p
  · exact q.feedFault h i _ _ p

theorem readUnplanned (q : Quiet I) (h : I s) (i : Fin 12) (p : Nat) : I (readUnplanned i p s) := by
  unfold Machine.readUnplanned
  split
  · exact h
  · exact q.raiseOnPiece h _ _ _
  · exact q.raiseOnPiece (q.updatePiece h p (by exact fun _ => ⟨rfl, rfl, rfl, rfl⟩)) _ _ _

theorem readEmpty (q : Quiet I) (h : I s) (i : Fin 12) {p : Nat} {e : TrackEntry} (he : entryAt p s = some e)
    (hn : essence e = none) (pocket : Option Nat) (extra : BitVec 12) : I (readEmpty i p pocket extra s) := by
  unfold Machine.readEmpty
  split
  · exact h
  · exact q.raise h _
  · exact q.raise (q.setEntryAt h he (by exact hn.symm)) _

theorem readStray (q : Quiet I) (h : I s) (i : Fin 12) {p : Nat} {e : TrackEntry} (he : entryAt p s = some e)
    (hn : essence e = none) (pocket : Option Nat) (extra : BitVec 12) (c : StrayCause) :
    I (readStray i p pocket extra c s) := by
  unfold Machine.readStray
  split
  · exact h
  · exact q.raise h _
  · exact q.setEntryAt h he (by exact hn.symm)

theorem detectPiece (q : Quiet I) (h : I s) (i : Fin 12) (p : Nat) (reading called : Bool) (x : Piece) :
    I (detectPiece i p reading called x s) := by
  unfold Machine.detectPiece
  split
  · split
    · split
      · exact q.readCalled h i p
      · exact q.feedFault h i _ _ p
    · exact h
  · split
    · exact q.readUnplanned h i p
    · exact h

theorem detectEntry (q : Quiet I) (h : I s) (i : Fin 12) (p : Nat) (reading called : Bool) :
    I (detectEntry i p reading called s) := by
  unfold Machine.detectEntry
  split
  · exact q.detectPiece h i p _ _ _
  · next he =>
    split
    · exact q.readEmpty h i he rfl _ _
    · exact h
  · next he =>
    split
    · exact q.readEmpty h i he rfl _ _
    · exact h
  · next he =>
    split
    · exact q.readStray h i he rfl _ _ _
    · exact h
  · exact h
  · exact h

theorem stationPhase (q : Quiet I) (h : I s) (i : Fin 12) : I (stationPhase i s) := by
  unfold Machine.stationPhase
  split
  · exact h
  · split
    · exact q.callPhase h i _
    · split
      · exact q.calls (q.detectEntry h i _ _ _) _
      · exact h

theorem essence_replanEntry (i : Fin 12) (e : Station) (u : State) (p : Nat) (t : TrackEntry) :
    essence (replanEntry i e u p t) = essence t := by
  unfold replanEntry
  split
  · split
    · split <;> rfl
    · rfl
  · rfl

theorem map_mapEntries {β : Type} {f : Nat → TrackEntry → TrackEntry} {g : TrackEntry → β}
    (hf : ∀ p t, g (f p t) = g t) (p : Nat) (l : List TrackEntry) : (mapEntries f p l).map g = l.map g := by
  induction l generalizing p with
  | nil => rfl
  | cons t rest ih => simp [mapEntries, hf, ih]

theorem replan (q : Quiet I) (h : I s) (i : Fin 12) (e : Station) : I (replan i e s) :=
  q.track h _ (map_mapEntries (essence_replanEntry i e s) 0 s.track)

theorem setStationEntry (q : Quiet I) (h : I s) (i : Fin 12) (e : Option Station) : I (setStationEntry i e s) :=
  q.stations h _

theorem stationRequest (q : Quiet I) (h : I s) (p : Port) (num : Byte) (b : List Byte)
    {effect : Fin 12 → Station → State → State} (he : ∀ i e, I (effect i e s)) :
    I (stationRequest p num b effect s) := by
  unfold Machine.stationRequest
  split
  · exact q.refuse h _ _ _
  · split
    · exact q.refuse h _ _ _
    · split
      · exact q.refuse h _ _ _
      · split
        · exact q.refuse h _ _ _
        · exact q.accept (he _ _) _ _

theorem takeStationOff (q : Quiet I) (h : I s) (p : Port) (num : Byte) (b : List Byte) : I (takeStationOff p num b s) :=
  q.stationRequest h p num b fun i e => q.replan (q.setStationEntry h i _) i e

theorem takeStationOn (q : Quiet I) (h : I s) (p : Port) (num : Byte) (b : List Byte) : I (takeStationOn p num b s) :=
  q.stationRequest h p num b fun i _ => q.setStationEntry h i _

theorem recordMatch (q : Quiet I) (h : I s) (p : Nat) : I (recordMatch p s) :=
  q.verify (q.updatePiece h p (by exact fun _ => ⟨rfl, rfl, rfl, rfl⟩)) 0 (by decide)

theorem recordUnread (q : Quiet I) (h : I s) (src : Source) (p : Nat) : I (recordUnread src p s) :=
  q.raiseOnPiece (q.updatePiece h p (by exact fun _ => ⟨rfl, rfl, rfl, rfl⟩)) _ _ _

theorem reportNoRead (q : Quiet I) (h : I s) : I (reportNoRead s) := by
  unfold Machine.reportNoRead
  split
  · exact q.strayReport h _
  · split
    · exact q.recordUnread h _ _
    · exact q.strayReport h _

theorem pieceMove_leaveReader : PieceMove leaveReader := by
  intro x
  unfold leaveReader
  split <;> exact ⟨rfl, rfl, rfl, rfl⟩

theorem settleVerify (q : Quiet I) (h : I s) : I (settleVerify s) := by
  unfold Machine.settleVerify
  split
  · exact h
  · next v _ =>
    have hl := q.updatePiece h (v + 1) pieceMove_leaveReader
    dsimp only
    split
    · exact q.recordUnread hl _ _
    · exact hl

theorem wrapPosition (q : Quiet I) (h : I s) (c : WrapCause) (p : Nat) : I (wrapPosition c p s) := by
  unfold Machine.wrapPosition
  split
  · exact h
  · split
    · exact q.raiseMarking h pieceMove_markRejectDue _ _ _
    · exact q.raiseOnPiece (q.updatePiece h p (by exact fun _ => ⟨rfl, rfl, rfl, rfl⟩)) _ _ _

theorem wrapPositions (q : Quiet I) (h : I s) (c : WrapCause) (ps : List Nat) :
    I (ps.foldl (fun s p => Machine.wrapPosition c p s) s) := by
  induction ps generalizing s with
  | nil => exact h
  | cons p ps ih => exact ih (q.wrapPosition h c p)

theorem takeWrapFault (q : Quiet I) (h : I s) (p : Port) (b : List Byte) : I (takeWrapFault p b s) := by
  unfold Machine.takeWrapFault
  split
  · exact q.strayReport h _
  · split
    · exact q.wrapPositions h _ _
    · exact q.strayReport h _

/-- A count that has its remainder, phase, pocket index and issued phases of another stands where that stands. -/
theorem countIn_congr {geo : Option Geometry} {r x : Registration} (hr : x.remainder = r.remainder)
    (hp : x.phase = r.phase) (hi : x.pocketIndex = r.pocketIndex) (hu : x.issuedTo = r.issuedTo)
    (h : CountIn geo r) : CountIn geo x := by
  cases geo <;> simpa [CountIn, hr, hp, hi, hu] using h

theorem openWindow (q : Quiet I) (h : I s) (b : Bool) : I (openWindow b s) :=
  q.reg h _ ⟨.inl rfl, id, id, fun _ => countIn_congr rfl rfl rfl rfl⟩

theorem seeMark (q : Quiet I) (h : I s) : I (seeMark s) :=
  q.reg h _ ⟨.inl rfl, id, id, fun _ => countIn_congr rfl rfl rfl rfl⟩

theorem setGoodMarks (q : Quiet I) (h : I s) {n : Nat} (hn : n ≤ 2) : I (setGoodMarks n s) :=
  q.reg h _ ⟨.inl rfl, fun _ => hn, id, fun _ => countIn_congr rfl rfl rfl rfl⟩

theorem ageFaultWindow (q : Quiet I) (h : I s) : I (ageFaultWindow s) := by
  unfold Machine.ageFaultWindow
  split
  · exact h
  · refine q.reg h _ ⟨.inl rfl, id, fun _ n hn => ?_, fun _ => countIn_congr rfl rfl rfl rfl⟩
    dsimp only at hn
    split at hn
    · next hlt =>
      cases hn
      exact Nat.le_of_lt_succ hlt
    · cases hn

theorem windowBoundary (q : Quiet I) (h : I s) : I (windowBoundary s) := by
  unfold Machine.windowBoundary
  split
  · exact q.openWindow h _
  · exact h

theorem releaseAt_cases (n : Nat) (x : Option Nat) : releaseAt n x = none ∨ releaseAt n x = x := by
  unfold releaseAt
  split
  · exact .inl rfl
  · exact .inr rfl

theorem releasePulses (q : Quiet I) (h : I s) (n : Nat) : I (releasePulses n s) :=
  q.lines h _ ⟨releaseAt_cases _ _, releaseAt_cases _ _⟩

theorem releaseAllPulses (q : Quiet I) (h : I s) : I (releaseAllPulses s) :=
  q.calls (q.lines h _ ⟨.inl rfl, .inl rfl⟩) _

theorem goodMarkSeeking (q : Quiet I) (h : I s) (hs : s.reg.state = .seeking) : I (goodMarkSeeking s) := by
  have hm := q.seeMark h
  unfold Machine.goodMarkSeeking
  dsimp only
  split
  · next hn => exact q.setGoodMarks hm (Nat.le_of_lt hn)
  · refine q.postState (q.reg hm _ ?_) _
    exact ⟨.inr (by simp [Machine.seeMark, hs]), fun _ => Nat.zero_le _, fun _ _ e => (nomatch e),
      fun _ => countIn_congr rfl rfl rfl rfl⟩

theorem takeChainClear (q : Quiet I) (h : I s) (p : Port) (num : Byte) (b : List Byte) : I (takeChainClear p num b s) := by
  unfold Machine.takeChainClear
  split
  · exact q.refuse h _ _ _
  · split
    · exact q.refuse h _ _ _
    · split
      · exact q.postState
          (q.accept (q.reg h _ (by exact ⟨.inl rfl, id, id, fun _ => countIn_congr rfl rfl rfl rfl⟩)) _ _) _
      · exact q.accept h _ _

/-! ## The gate line, the confirms and the proof request -/

theorem gatePhase (q : Quiet I) (h : I s) : I (gatePhase s) := by
  unfold Machine.gatePhase
  split
  · exact h
  · next d hd =>
    refine q.disp (q.lines h _ (by exact ⟨.inr rfl, .inr rfl⟩)) _ fun hc => ?_
    simpa [ConfirmsFit, hd, List.filter_append] using hc

theorem confirmProof (q : Quiet I) (h : I s) (r : Option Reject) : I (confirmProof r s) := by
  unfold Machine.confirmProof
  split
  · exact h
  · split
    · exact q.post h _ _
    · exact h

/-- A confirm that leaves the list keeps it within its bounds. -/
theorem confirmsFit_tail {d : Disposition} {c : Confirm} {rest : List Confirm} (hd : d.confirms = c :: rest)
    (h : ConfirmsFit d) : ConfirmsFit { d with confirms := rest } := by
  have hle (test : Confirm → Bool) : (rest.filter test).length ≤ (d.confirms.filter test).length := by
    rw [hd]
    exact ((List.sublist_cons_self c rest).filter test).length_le
  exact ⟨(Nat.add_le_add_right (hle _) _).trans h.1, (hle _).trans h.2⟩

theorem takeConfirm (q : Quiet I) (h : I s) : I (takeConfirm s) := by
  unfold Machine.takeConfirm
  split
  · exact q.raise h _
  · next hc => exact q.confirmProof (q.disp h _ (confirmsFit_tail hc)) _

theorem takeProof (q : Quiet I) (h : I s) (p : Port) (num : Byte) (b : List Byte) : I (takeProof p num b s) := by
  unfold Machine.takeProof
  split
  · exact q.refuse h _ _ _
  · split
    · exact q.refuse h _ _ _
    · split
      · exact q.refuse h _ _ _
      · exact q.accept (q.disp h _ (by exact id)) _ _

theorem sendSuspect (q : Quiet I) (h : I s) (r : Reject) : I (sendSuspect r s) :=
  q.countBundle (q.post h _ _) _ fun _ => ⟨fun _ => rfl, fun _ => rfl,
    fun _ hb => ⟨hb.1, hb.2.1, raiseCount_le _ _, hb.2.2.2⟩⟩

/-! ## Requests of the setup store and the fault unit -/

theorem writeStation (q : Quiet I) (h : I s) (i : Fin 12) (e : Option Station) : I (writeStation i e s) :=
  q.calls (q.setStationEntry h i e) _

theorem takeSetStation (q : Quiet I) (h : I s) (p : Port) (num : Byte) (b : List Byte) : I (takeSetStation p num b s) := by
  unfold Machine.takeSetStation judgeStation
  split
  · exact q.refuse h _ _ _
  · split
    · exact q.refuse h _ _ _
    · split
      · exact q.refuse h _ _ _
      · split
        · exact q.refuse h _ _ _
        · split
          · exact q.refuse h _ _ _
          · exact q.accept (q.writeStation h _ _) _ _

theorem takeClearStation (q : Quiet I) (h : I s) (p : Port) (num : Byte) (b : List Byte) :
    I (takeClearStation p num b s) := by
  unfold Machine.takeClearStation
  split
  · exact q.refuse h _ _ _
  · split
    · exact q.refuse h _ _ _
    · split
      · exact q.refuse h _ _ _
      · split
        · exact q.refuse h _ _ _
        · exact q.accept (q.writeStation h _ _) _ _

theorem length_insertOnce_le (n : Nat) (l : List Nat) : (insertOnce n l).length ≤ l.length + 1 := by
  induction l with
  | nil => simp [insertOnce]
  | cons m rest ih =>
    unfold insertOnce
    split
    · simp
    · split
      · simp
      · simpa using ih

theorem length_indexSet_le (l : List Nat) : (indexSet l).length ≤ l.length := by
  induction l with
  | nil => simp [indexSet]
  | cons n rest ih =>
    have := length_insertOnce_le n (indexSet rest)
    simp only [indexSet, List.foldr_cons, List.length_cons] at *
    omega

theorem takeSetLockout (q : Quiet I) (h : I s) (p : Port) (num : Byte) (b : List Byte) : I (takeSetLockout p num b s) := by
  unfold Machine.takeSetLockout
  split
  · exact q.refuse h _ _ _
  · split
    · exact q.refuse h _ _ _
    · next l _ =>
      split
      · exact q.refuse h _ _ _
      · next hl =>
        have hlen : l.length ≤ 32 := Nat.le_of_not_lt fun hlt => hl (.inl hlt)
        exact q.accept (q.entry h _ (by exact ⟨id, fun _ => (length_indexSet_le l).trans hlen⟩)) _ _

theorem kindIndex_injective {k l : FaultKind} (h : kindIndex k = kindIndex l) : k = l := by
  cases k <;> cases l <;> first | rfl | exact absurd h (by decide)

/-- The action table with one kind's entry replaced by an allowed one. -/
theorem faultActions_set {f : FaultUnit} {k : FaultKind} {a : Action} (ha : actionAllowed k a = true) (t : Steering)
    (h : FaultActions f) : FaultActions { f with actions := f.actions.set (kindIndex k) (a, t) } := by
  intro l
  simp only [Fin.getElem_fin, Vector.getElem_set]
  split
  · next hkl => rwa [← kindIndex_injective (Fin.val_injective hkl)]
  · exact h l

theorem takeSetAction (q : Quiet I) (h : I s) (p : Port) (num : Byte) (b : List Byte) : I (takeSetAction p num b s) := by
  unfold Machine.takeSetAction
  split
  · exact q.refuse h _ _ _
  · split
    · exact q.refuse h _ _ _
    · split
      · exact q.refuse h _ _ _
      · next k a t hp =>
        have ha : actionAllowed k a = true := by
          unfold parseAction at hp
          split at hp
          · split at hp
            · next hk =>
              cases hp
              exact hk
            · cases hp
          · cases hp
        exact q.accept (q.fault h _ (by exact ⟨rfl, id, faultActions_set ha t⟩)) _ _

theorem takeSetLineMask (q : Quiet I) (h : I s) (p : Port) (num : Byte) (b : List Byte) :
    I (takeSetLineMask p num b s) := by
  unfold Machine.takeSetLineMask
  split
  · exact q.refuse h _ _ _
  · split
    · exact q.accept (q.fault h _ (by exact ⟨rfl, id, id⟩)) _ _
    · exact q.refuse h _ _ _

theorem takeAlertClear (q : Quiet I) (h : I s) (p : Port) (num : Byte) (b : List Byte) : I (takeAlertClear p num b s) := by
  unfold Machine.takeAlertClear
  split
  · exact q.refuse h _ _ _
  · split
    · exact q.refuse h _ _ _
    · exact q.accept (q.fault h _ (by exact ⟨rfl, id, id⟩)) _ _

theorem takeReadLog (q : Quiet I) (h : I s) (p : Port) (num : Byte) (b : List Byte) : I (takeReadLog p num b s) := by
  unfold Machine.takeReadLog
  split
  · exact q.refuse h _ _ _
  · split
    · exact q.refuse h _ _ _
    · exact q.acceptWith h _ _ _

theorem takeClearLog (q : Quiet I) (h : I s) (p : Port) (num : Byte) (b : List Byte) : I (takeClearLog p num b s) := by
  unfold Machine.takeClearLog
  split
  · exact q.refuse h _ _ _
  · split
    · exact q.refuse h _ _ _
    · split
      · exact q.refuse h _ _ _
      · exact q.accept (q.setLog h _ none fun _ _ e => nomatch e) _ _

theorem takeReadCounts (q : Quiet I) (h : I s) (p : Port) (num : Byte) (b : List Byte) : I (takeReadCounts p num b s) := by
  unfold Machine.takeReadCounts
  split
  · exact q.refuse h _ _ _
  · exact q.acceptWith h _ _ _

theorem takeClearCounts (q : Quiet I) (h : I s) (p : Port) (num : Byte) (b : List Byte) :
    I (takeClearCounts p num b s) := by
  unfold Machine.takeClearCounts
  split
  · exact q.refuse h _ _ _
  · exact q.accept (q.fault h _ (by exact ⟨rfl, fun hr => ⟨by simp, hr.2⟩, id⟩)) _ _

theorem takeSubscribe (q : Quiet I) (h : I s) (p : Port) (num : Byte) (b : List Byte) : I (takeSubscribe p num b s) := by
  unfold Machine.takeSubscribe
  split
  · split
    · exact q.refuse h _ _ _
    · exact q.accept (q.fault h _ (by exact ⟨rfl, id, id⟩)) _ _
  · exact q.refuse h _ _ _

/-! ## The reads -/

theorem takeStatus (q : Quiet I) (h : I s) (p : Port) (num : Byte) (b : List Byte) : I (takeStatus p num b s) := by
  unfold Machine.takeStatus
  split
  · exact q.refuse h _ _ _
  · exact q.acceptWith (q.free h _) _ _ _

theorem takeReadTrack (q : Quiet I) (h : I s) (p : Port) (num : Byte) (b : List Byte) : I (takeReadTrack p num b s) := by
  unfold Machine.takeReadTrack
  split
  · exact q.refuse h _ _ _
  · split
    · exact q.refuse h _ _ _
    · exact q.acceptWith h _ _ _

theorem takeReadQueue (q : Quiet I) (h : I s) (p : Port) (num : Byte) (b : List Byte) : I (takeReadQueue p num b s) := by
  unfold Machine.takeReadQueue
  split
  · exact q.refuse h _ _ _
  · split
    · exact q.refuse h _ _ _
    · exact q.acceptWith h _ _ _

theorem takeReadBundle (q : Quiet I) (h : I s) (p : Port) (num : Byte) (b : List Byte) : I (takeReadBundle p num b s) := by
  unfold Machine.takeReadBundle
  split
  · exact q.refuse h _ _ _
  · split
    · exact q.refuse h _ _ _
    · exact q.acceptWith h _ _ _

theorem takeReadOrders (q : Quiet I) (h : I s) (p : Port) (num : Byte) (b : List Byte) : I (takeReadOrders p num b s) := by
  unfold Machine.takeReadOrders
  split
  · exact q.refuse h _ _ _
  · split
    · exact q.refuse h _ _ _
    · exact q.acceptWith h _ _ _

/-! ## Run control -/

theorem takeRun (q : Quiet I) (h : I s) (p : Port) (num : Byte) (b : List Byte) : I (takeRun p num b s) := by
  unfold Machine.takeRun
  split
  · exact q.refuse h _ _ _
  · split
    · exact q.refuse h _ _ _
    · split
      · exact q.refuse h _ _ _
      · next hg =>
        split
        · exact q.accept h _ _
        · split
          · exact q.changeGate (q.accept h _ _) (by decide) (by simpa using hg)
          · exact q.refuse h _ _ _

theorem takeHold (q : Quiet I) (h : I s) (p : Port) (num : Byte) (b : List Byte) : I (takeHold p num b s) := by
  unfold Machine.takeHold
  split
  · exact q.refuse h _ _ _
  · split
    · exact q.refuse h _ _ _
    · split
      · exact q.refuse h _ _ _
      · next hg => exact q.changeGate (q.accept h _ _) (by decide) (by simpa using hg)

theorem takeDrain (q : Quiet I) (h : I s) (p : Port) (num : Byte) (b : List Byte) : I (takeDrain p num b s) := by
  unfold Machine.takeDrain
  split
  · exact q.refuse h _ _ _
  · split
    · exact q.refuse h _ _ _
    · split
      · exact q.refuse h _ _ _
      · next hg =>
        split
        · exact q.refuse h _ _ _
        · exact q.changeGate (q.accept h _ _) (by decide) (by simpa using hg)

/-- The stop latch cleared with the gate, behind the reply that is queued ahead of it (R25). -/
theorem clearStop (q : Quiet I) (h : I s) (p : Port) (num : Byte) :
    I (Machine.changeGate .closed (Machine.accept p num (s.setFault { s.fault with stopLatch := false }))) := by
  have hu := q.unlatch h
  by_cases hg : s.run.gate = .closed
  · rw [changeGate_of_same (by simpa using hg)]
    exact q.accept (by rwa [← setRun_gate_self (s := s.setFault { s.fault with stopLatch := false }) hg]) _ _
  · rw [Machine.accept, changeGate_post (by simpa using hg)]
    exact q.postState (q.post hu _ _) _

theorem takeStopClear (q : Quiet I) (h : I s) (p : Port) (num : Byte) (b : List Byte) : I (takeStopClear p num b s) := by
  unfold Machine.takeStopClear
  split
  · exact q.refuse h _ _ _
  · split
    · exact q.refuse h _ _ _
    · split
      · exact q.accept h _ _
      · split
        · exact q.refuse h _ _ _
        · exact q.clearStop h p num

theorem takeClaim (q : Quiet I) (h : I s) (p : Port) (num : Byte) (b : List Byte) : I (takeClaim p num b s) := by
  unfold Machine.takeClaim
  split
  · exact q.refuse h _ _ _
  · split
    · exact q.accept (q.claim h _) _ _
    · split
      · exact q.accept h _ _
      · exact q.post h _ _

theorem takeRelease (q : Quiet I) (h : I s) (p : Port) (num : Byte) (b : List Byte) : I (takeRelease p num b s) := by
  unfold Machine.takeRelease
  split
  · exact q.refuse h _ _ _
  · split
    · exact q.accept (q.claim h _) _ _
    · exact q.refuse h _ _ _

theorem expireClaim (q : Quiet I) (h : I s) : I (expireClaim s) := by
  unfold Machine.expireClaim
  split
  · exact h
  · exact q.post (q.claim h _) _ _

/-! ## The links -/

theorem takeSetSpeed (q : Quiet I) (h : I s) (p : Port) (num : Byte) (b : List Byte) : I (takeSetSpeed p num b s) := by
  unfold Machine.takeSetSpeed
  split
  · exact q.refuse h _ _ _
  · split
    · exact q.refuse h _ _ _
    · exact q.post h _ _

theorem abandonMessage (q : Quiet I) (h : I s) (p : Port) (x : Receiver) : I (abandonMessage p x s) :=
  q.linkError (q.setReceiver h p x) p

theorem failCheck (q : Quiet I) (h : I s) (p : Port) (kind num : Byte) : I (failCheck p kind num s) := by
  have ha := q.abandonMessage h p .idle
  unfold Machine.failCheck
  dsimp only
  split
  · exact q.post ha _ _
  · exact ha

theorem expireGap (q : Quiet I) (h : I s) (p : Port) : I (expireGap p s) := by
  unfold Machine.expireGap
  split
  · exact h
  · exact q.abandonMessage h p _

theorem changeSpeed (q : Quiet I) (h : I s) (p : Port) (v : Fin 7) : I (changeSpeed p v s) := by
  unfold Machine.changeSpeed
  split
  · exact h
  · exact q.port h p _ id

/-! ## The millisecond -/

theorem tickClaim (q : Quiet I) (h : I s) : I (tickClaim s) := by
  unfold Machine.tickClaim
  split
  · exact h
  · split
    · exact q.claim h _
    · exact q.settle (q.expireClaim h)

theorem tickTie (q : Quiet I) (h : I s) (n : Nat) : I (tickTie n s) := by
  unfold Machine.tickTie
  split
  · exact h
  · next t _ =>
    split
    · next ht =>
      refine q.bundle h n (fun b => { b with tieTimer := some (t + 1) })
        ⟨fun _ => rfl, fun _ => rfl, fun _ hb => ⟨hb.1, hb.2.1, hb.2.2.1, ?_⟩⟩
      rintro m ⟨⟩
      exact Nat.le_of_lt ht
    · exact q.settle (q.expireTieTimer h n)

theorem tickGap (q : Quiet I) (h : I s) (p : Port) : I (tickGap p s) := by
  unfold Machine.tickGap
  split
  · exact h
  · split
    · exact q.setReceiver h p _
    · exact q.settle (q.expireGap h p)

theorem tickTies (q : Quiet I) (h : I s) (ns : List Nat) : I (ns.foldl (fun s n => Machine.tickTie n s) s) := by
  induction ns generalizing s with
  | nil => exact h
  | cons n ns ih => exact ih (q.tickTie h n)

theorem tickGaps (q : Quiet I) (h : I s) (ps : List Port) : I (ps.foldl (fun s p => Machine.tickGap p s) s) := by
  induction ps generalizing s with
  | nil => exact h
  | cons p ps ih => exact ih (q.tickGap h p)

theorem tick (q : Quiet I) (h : I s) : I (tick s) := q.tickGaps (q.tickTies (q.tickClaim h) _) _

end Quiet

end Sys2Proof.Machine

/-! `Work I` and the step: the changes of one block that an invariant about that block proves for itself, and how every
command and the millisecond are made of them. -/

namespace Sys2Proof.Machine

/-! ## The changes of one block -/

/-- A LOAD that passes its checks against the store (R48). -/
structure LoadFits (r : Record) (s : State) : Prop where
  job : s.store.jobState = .loading
  fresh : placeOf r.key s = none
  order : s.store.loadMark ≤ r.bundle
  room : s.store.queue.length < Config.loadLimit
  text : textSize r ≤ textRoom s

/-- The record of a LOAD in the store: at the tail of the queue, in the map, its text counted, the load mark raised to its
bundle where that is higher (R49). -/
def loaded (r : Record) (s : State) : State :=
  s.setStore { s.store with
    queue := s.store.queue ++ [r], map := insertPlace r.key .queue s.store.map,
    textUsed := s.store.textUsed + textSize r, loadMark := max s.store.loadMark r.bundle }

/-- A waiting record that leaves the store. -/
def forgotten (r : Record) (s : State) : State := forgetRecord r (removeWaiting r.key s)

/-- The backlog without its oldest entry. -/
def backlogRest (rest : List (Nat × BacklogOutcome)) (s : State) : State :=
  s.setStore { s.store with backlog := rest }

/-- A geometry is set, and a pocket index lies within its chain (R6). -/
def IndexFits (n : Nat) (s : State) : Prop :=
  ∃ g, s.setup.geometry = some g ∧ (geometryInRange g = true → n < g.chainLength)

/-- `I` is kept by the changes that the blocks share, and by those of the dispatch store. -/
structure StoreWork (I : State → Prop) : Prop extends Quiet I where
  load : ∀ {s}, I s → ∀ r, LoadFits r s → I (loaded r s)
  dropEntry : ∀ {s}, I s → ∀ e rest, s.store.backlog = e :: rest → waitingRecord e.1 s = none → I (backlogRest rest s)
  releaseEntry : ∀ {s}, I s → ∀ o rest r, s.store.backlog = (r.key, o) :: rest → waitingRecord r.key s = some r →
    I (forgotten r (backlogRest rest s))
  forget : ∀ {s}, I s → ∀ r, waitingRecord r.key s = some r → backlogOutcome r.key s = none → I (forgotten r s)
  enterBacklog : ∀ {s}, I s → ∀ o rs, rs.Sublist (s.store.queue ++ s.store.lane) → I (enterBacklog o rs s)

/-- Every change that a step is made of keeps `I`, but for a pitch boundary and a SPOILED, which may issue an order: after
them `J` holds, which the shared changes keep. A step has one of them at most. -/
structure Work (I J : State → Prop) : Prop extends StoreWork I where
  done : ∀ {s}, I s → J s
  after : Quiet J
  loseRegistration : ∀ {s}, I s → s.reg.state = .registered → I (loseRegistration s)
  enterHold : ∀ {s}, I s → ∀ c, I (enterHold c s)
  reportPrinted : ∀ {s}, I s → s.carrier.mode = .run → ∀ n, I (reportPrinted n s)
  reportSpoiled : ∀ {s}, I s → s.carrier.mode = .run → ∀ n, J (reportSpoiled n s)
  reportWithdrawn : ∀ {s}, I s → s.carrier.mode = .run → ∀ n, I (reportWithdrawn n s)
  reportLate : ∀ {s}, I s → s.carrier.mode = .run → ∀ n, I (reportLate n s)
  runCarrier : ∀ {s}, I s → s.carrier.mode ≠ .run → I (s.setCarrier { s.carrier with mode := .run })
  dumpPhase : ∀ {s}, I s → I (dumpPhase s)
  applyPhase : ∀ {s}, I s → I (applyPhase s)
  issueBoundary : ∀ {s}, I s → ∀ n order, IndexFits n s → J (issueBoundary n order s)
  powerOn : ∀ {s}, I s → I (powerOnState s)
  restarted : ∀ {s}, I s → I (restartedState s)
  setGeometry : ∀ {s}, I s → ∀ g p num, setupOpen s = true → geometryAgrees g s = true →
    I (applyGeometry (geometryItems s) g (accept p num (s.setSetup { s.setup with geometry := some g })))

namespace StoreWork

variable {I : State → Prop} {s : State}

/-! ## The dispatch store -/

theorem waitingRecord_key {key : Nat} {r : Record} (h : waitingRecord key s = some r) : r.key = key := by
  simpa using List.find?_some h

theorem leaveList_waiting (key : Nat) (s : State) :
    leaveList (waitingPlace key s) key s = removeWaiting key s := by
  unfold waitingPlace
  split <;> rfl

/-- What follows the removal of a record that ended its life: the counts, the notice and the checks (R57). -/
theorem afterLife (w : StoreWork I) (h : I s) (x : Place) (e : RecordEnd) (r : Record) :
    I (completionCheck (closeCheck r.bundle
      (Machine.post .address (outcomeFrame r e) (Machine.countBundle r.bundle (countEnd x e) s)))) :=
  w.completionCheck (w.closeCheck
    (w.post (w.countBundle h _ fun _ => Quiet.bundleMove_countEnd x e _) _ _) _)

/-- The end of a waiting record's life. -/
theorem endLife_waiting (w : StoreWork I) {r : Record} {x : Place} (hx : leaveList x r.key s = removeWaiting r.key s)
    (h : I (forgotten r s)) (e : RecordEnd) : I (endLife x e r s) := by
  unfold endLife
  rw [hx]
  exact w.afterLife h x e r

theorem releaseOldest (w : StoreWork I) (h : I s) : I (releaseOldest s) := by
  unfold Machine.releaseOldest
  split
  · exact h
  · next key o rest hb =>
    dsimp only
    split
    · next hn => exact w.dropEntry h _ rest hb hn
    · next r hr =>
      obtain rfl := waitingRecord_key hr
      exact w.endLife_waiting (leaveList_waiting _ _) (w.releaseEntry h o rest r hb hr) _

theorem releaseEntries (w : StoreWork I) (h : I s) (n : Nat) : I (releaseEntries n s) := by
  induction n generalizing s with
  | zero => exact h
  | succ n ih =>
    unfold Machine.releaseEntries
    split
    · exact ih (w.releaseOldest h)
    · exact h

theorem drainBacklog (w : StoreWork I) (h : I s) : I (drainBacklog s) := w.releaseEntries h _

theorem releaseOne (w : StoreWork I) (h : I s) : I (releaseOne s) := by
  unfold Machine.releaseOne
  split
  · exact w.releaseOldest h
  · exact h

theorem takeJobOpen (w : StoreWork I) (h : I s) (p : Port) (num : Byte) (b : List Byte) : I (takeJobOpen p num b s) := by
  unfold Machine.takeJobOpen
  split
  · exact w.refuse h _ _ _
  · split
    · exact w.refuse h _ _ _
    · next hj =>
      split
      · exact w.refuse h _ _ _
      · split
        · exact w.refuse h _ _ _
        · exact w.postState (w.accept (w.job h .loading _ 0
            ⟨.inr (.inl (by simpa using hj)), fun e => nomatch e⟩) _ _) _

theorem takeJobEnd (w : StoreWork I) (h : I s) (p : Port) (num : Byte) (b : List Byte) : I (takeJobEnd p num b s) := by
  unfold Machine.takeJobEnd
  split
  · exact w.refuse h _ _ _
  · split
    · exact w.refuse h _ _ _
    · split
      · exact w.refuse h _ _ _
      · have hj : I (changeJob .ended s.store.jobNumber (accept p num s)) :=
          w.changeJob (w.accept h p num) (by simp)
        exact w.completionCheck (w.sealBundles hj _)

theorem abortJob (w : StoreWork I) (h : I s) (p : Port) (num : Byte) : I (abortJob p num s) := by
  have hj : I (changeJob .aborting s.store.jobNumber (accept p num s)) := w.changeJob (w.accept h p num) (by simp)
  have hc := w.closeGate hj
  have hs := w.sealBundles hc (bundleNumbers (closeGate (changeJob .aborting s.store.jobNumber (accept p num s))))
  have hb := w.setShorts hs (bundleNumbers
    (sealBundles (bundleNumbers (closeGate (changeJob .aborting s.store.jobNumber (accept p num s))))
      (closeGate (changeJob .aborting s.store.jobNumber (accept p num s)))))
  exact w.completionCheck (w.closeChecks (w.drainBacklog (w.enterBacklog hb .aborted _ (List.Sublist.refl _))) _)

theorem takeJobAbort (w : StoreWork I) (h : I s) (p : Port) (num : Byte) (b : List Byte) : I (takeJobAbort p num b s) := by
  unfold Machine.takeJobAbort
  split
  · exact w.refuse h _ _ _
  · split
    · exact w.refuse h _ _ _
    · split
      · exact w.refuse h _ _ _
      · exact w.abortJob h p num

theorem loadRecord (w : StoreWork I) (h : I s) {r : Record} (hr : LoadFits r s) : I (loadRecord r s) := by
  have hl := w.load h r hr
  unfold Machine.loadRecord raiseLoadMark
  dsimp only
  split
  · next hlt =>
    have hmax : max s.store.loadMark r.bundle = r.bundle := Nat.max_eq_right (Nat.le_of_lt hlt)
    refine w.sealBundles ?_ _
    rwa [loaded, hmax] at hl
  · next hge =>
    have hmax : max s.store.loadMark r.bundle = s.store.loadMark := Nat.max_eq_left (Nat.le_of_not_lt hge)
    rwa [loaded, hmax] at hl

theorem takeLoad (w : StoreWork I) (h : I s) (p : Port) (num : Byte) (b : List Byte) : I (takeLoad p num b s) := by
  unfold Machine.takeLoad
  split
  · exact w.refuse h _ _ _
  · split
    · exact w.refuse h _ _ _
    · next hjob =>
      split
      · exact w.refuse h _ _ _
      · split
        · exact w.refuse h _ _ _
        · split
          · exact w.refuse h _ _ _
          · next hfresh =>
            split
            · exact w.refuse h _ _ _
            · next horder =>
              split
              · exact w.refuse h _ _ _
              · next hroom =>
                split
                · exact w.refuse h _ _ _
                · next htext =>
                  exact w.accept (w.loadRecord h ⟨by simpa using hjob, by simpa using hfresh,
                    Nat.le_of_not_lt horder, Nat.lt_of_not_le hroom, Nat.le_of_not_lt htext⟩) _ _

theorem takeWithdraw (w : StoreWork I) (h : I s) (p : Port) (num : Byte) (b : List Byte) : I (takeWithdraw p num b s) := by
  unfold Machine.takeWithdraw
  split
  · exact w.refuse h _ _ _
  · split
    · exact w.refuse h _ _ _
    · dsimp only
      split
      · exact w.refuse h _ _ _
      · exact w.refuse h _ _ _
      · split
        · exact w.refuse h _ _ _
        · next hb =>
          split
          · exact w.refuse h _ _ _
          · next r hr =>
            have hkey := waitingRecord_key hr
            rw [← hkey] at hr hb
            have hf := w.forget h r hr (by simpa using hb)
            exact w.completionCheck (w.closeCheck
              (w.accept (w.bundle hf _ _ (Quiet.bundleMove_leavePlace _)) _ _) _)

theorem takeCloseShort (w : StoreWork I) (h : I s) (p : Port) (num : Byte) (b : List Byte) :
    I (takeCloseShort p num b s) := by
  unfold Machine.takeCloseShort
  split
  · exact w.refuse h _ _ _
  · split
    · exact w.refuse h _ _ _
    · split
      · exact w.refuse h _ _ _
      · split
        · exact w.refuse h _ _ _
        · next e _ =>
          split
          · exact w.refuse h _ _ _
          · have hs := w.setShort (w.accept h p num) e.number
            unfold closeShortBundle
            dsimp only
            split
            · exact w.drainBacklog (w.enterBacklog hs _ _ List.filter_sublist)
            · exact w.closeCheck hs _

/-! ## The disposition unit -/

theorem giveUpProof (w : StoreWork I) (h : I s) (key : Nat) : I (giveUpProof key s) := by
  unfold Machine.giveUpProof
  split
  · next r _ hr =>
    split
    · next hb =>
      obtain rfl := waitingRecord_key hr
      exact w.endLife_waiting rfl (w.forget h r hr (by simpa using hb)) _
    · exact h
  · exact h

theorem suspectReject (w : StoreWork I) (h : I s) (r : Option Reject) : I (suspectReject r s) := by
  unfold Machine.suspectReject
  split
  · exact h
  · next r =>
    have hs := w.sendSuspect h r
    dsimp only
    split
    · exact w.giveUpProof (w.post hs _ _) _
    · exact hs

theorem expireConfirm (w : StoreWork I) (h : I s) (c : Confirm) : I (expireConfirm c s) :=
  w.suspectReject (w.raise h _) _

theorem expireConfirms (w : StoreWork I) (h : I s) (cs : List Confirm) :
    I (cs.foldl (fun s c => Machine.expireConfirm c s) s) := by
  induction cs generalizing s with
  | nil => exact h
  | cons c cs ih => exact ih (w.expireConfirm h c)

theorem expireOldest (w : StoreWork I) (h : I s) : I (expireOldest s) := by
  unfold Machine.expireOldest
  split
  · exact h
  · next hc =>
    split
    · exact w.expireConfirm (w.disp h _ (Quiet.confirmsFit_tail hc)) _
    · exact h

theorem clearGateDue (w : StoreWork I) (h : I s) (g : Nat) : I (clearGateDue g s) := by
  unfold Machine.clearGateDue
  split
  · exact h
  · refine w.suspectReject (w.raise (w.disp h _ fun hc => ?_) _) _
    exact ⟨(Nat.add_le_add_left (Nat.zero_le _) _).trans hc.1, hc.2⟩

/-- The boundary counted for the pending confirms: none has then seen no boundary (R129). -/
theorem ageConfirms (w : StoreWork I) (h : I s) : I (ageConfirms s) := by
  refine w.expireConfirms (w.disp h _ fun hc => ?_) _
  have hkept (c : Confirm) (hm : c ∈ (s.disp.confirms.filter fun c => c.seen = 0).map fun c => { c with seen := 1 }) :
      c.seen = 1 := by
    obtain ⟨a, -, rfl⟩ := List.mem_map.mp hm
    rfl
  constructor
  · rw [List.filter_eq_nil_iff.mpr fun c hm => by simp [hkept c hm]]
    simp only [List.length_nil, Nat.zero_add]
    exact (Nat.le_add_left _ _).trans hc.1
  · refine (List.length_filter_le _ _).trans ?_
    rw [List.length_map]
    exact (Nat.le_add_right _ _).trans hc.1

end StoreWork

namespace Work

variable {I J : State → Prop} {s : State}

/-! ## The carrier reports -/

theorem carrierReport (w : Work I J) (h : I s) (p : Port) (size : Nat) (b : List Byte) {effect : State → State}
    (he : J (effect s)) : J (carrierReport p size b effect s) := by
  unfold Machine.carrierReport
  split
  · exact w.done (w.strayReport h _)
  · exact he

theorem inCarrierRun (w : Work I J) (h : I s) {effect : State → State} (he : s.carrier.mode = .run → J (effect s)) :
    J (inCarrierRun effect s) := by
  unfold Machine.inCarrierRun
  split
  · next hm => exact he hm
  · exact w.done h

theorem reportPurged (w : Work I J) (h : I s) : I (reportPurged s) := by
  unfold Machine.reportPurged
  split
  · exact w.strayReport h _
  · next hm => exact w.postState (w.verify (w.runCarrier h hm) 0 (Nat.zero_le _)) _

theorem raiseRun (w : Work I J) (h : I s) : I (raiseRun s) := by
  unfold Machine.raiseRun
  split
  · next hn => exact w.verify h _ (Nat.le_of_lt_succ hn)
  · exact w.enterHold (w.verify (w.raise h _) 0 (Nat.zero_le _)) _

theorem recordMismatch (w : Work I J) (h : I s) (p : Nat) : I (recordMismatch p s) :=
  w.raiseRun (w.raiseOnPiece (w.updatePiece h p (by exact fun _ => ⟨rfl, rfl, rfl, rfl⟩)) _ _ _)

theorem reportCode (w : Work I J) (h : I s) (n : Nat) : I (reportCode n s) := by
  unfold Machine.reportCode judgeCode
  split
  · exact w.strayReport h _
  · split
    · exact w.recordMatch h _
    · split
      · exact w.recordMatch h _
      · split
        · exact w.recordMismatch h _
        · exact w.strayReport h _

/-! ## The registration unit -/

theorem badEvent (w : Work I J) (h : I s) (hs : s.reg.state = .registered) : I (badEvent s) := by
  have ht := w.raise h (homeFault .homeFault s)
  unfold Machine.badEvent
  dsimp only
  split
  · refine w.reg ht _ ⟨.inl rfl, id, fun _ n hn => ?_, fun _ => Quiet.countIn_congr rfl rfl rfl rfl⟩
    cases hn
    exact Nat.zero_le _
  · exact w.loseRegistration ht (by simpa using hs)

theorem closeWindow (w : Work I J) (h : I s) : I (closeWindow s) := by
  have hc : I (s.setReg { s.reg with window := { s.reg.window with isOpen := false } }) :=
    w.reg h _ ⟨.inl rfl, id, id, fun _ => Quiet.countIn_congr rfl rfl rfl rfl⟩
  unfold Machine.closeWindow
  dsimp only
  split
  · exact hc
  · exact hc
  · split
    · exact hc
    · exact w.setGoodMarks hc (Nat.zero_le _)
  · next hs =>
    refine w.ageFaultWindow ?_
    split
    · exact hc
    · exact w.badEvent hc hs

theorem windowPhase (w : Work I J) (h : I s) : I (windowPhase s) := by
  unfold Machine.windowPhase
  split
  · split
    · exact w.closeWindow h
    · exact h
  · split
    · exact w.openWindow h _
    · exact h

theorem phaseTask (w : Work I J) (h : I s) (t : PulseTask) : I (phaseTask t s) := by
  unfold Machine.phaseTask
  split
  · exact w.windowPhase h
  · exact w.stationPhase h _
  · split
    · exact w.dumpPhase h
    · split
      · exact w.applyPhase h
      · exact h
  · split
    · exact w.gatePhase h
    · exact h
  · exact h

theorem phaseTasks (w : Work I J) (h : I s) (ts : List PulseTask) : I (runTasks Machine.phaseTask ts s) := by
  unfold runTasks
  induction ts generalizing s with
  | nil => exact h
  | cons t ts ih => exact ih (w.settle (w.phaseTask h t))

theorem geometryInRange_bounds {g : Geometry} (h : geometryInRange g = true) :
    1 ≤ g.divider ∧ 16 ≤ g.pitch ∧ 8 ≤ g.chainLength ∧ g.applicator < g.gate ∧ 4 ≤ g.gate ∧ g.gate ≤ 250 := by
  simp only [geometryInRange, Bool.and_eq_true, decide_eq_true_eq] at h
  obtain ⟨⟨⟨⟨⟨⟨⟨⟨⟨⟨⟨⟨⟨hd, hp⟩, hl⟩, -⟩, -⟩, hg⟩, hw⟩, -⟩, -⟩, -⟩, -⟩, -⟩, -⟩, -⟩ := h
  refine ⟨?_, hp.1, hl.1, hw.1.trans hw.2, hg.1, hg.2⟩
  simp only [List.contains_iff_mem, List.mem_cons, List.not_mem_nil, or_false] at hd
  omega

theorem countPhase (w : Work I J) (h : I s) (order : List PulseTask) {g : Geometry} (hg : s.setup.geometry = some g)
    (hp : s.reg.phase + 1 < g.pitch) : I (countPhase order s) := by
  have hc : I (s.setReg { s.reg with phase := s.reg.phase + 1 }) := by
    refine w.reg h _ ⟨.inl rfl, id, id, fun _ hc => ?_⟩
    rw [hg] at hc ⊢
    exact ⟨hc.1, hp, hc.2.2⟩
  exact w.phaseTasks (w.releasePulses hc _) _

theorem countBoundary (w : Work I J) (h : I s) (order : List PulseTask) {g : Geometry} (hg : s.setup.geometry = some g) :
    J (countBoundary g order s) := by
  have hindex (hr : geometryInRange g = true) : (s.reg.pocketIndex + 1) % g.chainLength < g.chainLength :=
    Nat.mod_lt _ (Nat.lt_of_lt_of_le (by decide) (geometryInRange_bounds hr).2.2.1)
  have hc : I (s.setReg { s.reg with phase := 0, pocketIndex := (s.reg.pocketIndex + 1) % g.chainLength }) := by
    refine w.reg h _ ⟨.inl rfl, id, id, fun hf hc => ?_⟩
    have hr := hf g hg
    rw [hg] at hc ⊢
    exact ⟨hc.1, Nat.lt_of_lt_of_le (Nat.zero_lt_succ _) (geometryInRange_bounds hr).2.1, hindex hr, hc.2.2.2⟩
  exact w.issueBoundary (w.windowBoundary (w.releasePulses hc g.pitch)) _ order ⟨g, by simpa using hg, hindex⟩

theorem takePulse (w : Work I J) (h : I s) (order : List PulseTask) : J (takePulse order s) := by
  unfold Machine.takePulse
  split
  · exact w.done h
  · next g hg =>
    split
    · next hd =>
      refine w.done (w.reg h _ ⟨.inl rfl, id, id, fun _ hc => ?_⟩)
      rw [hg] at hc ⊢
      exact ⟨hd, hc.2⟩
    · have hz : I (s.setReg { s.reg with remainder := 0 }) := by
        refine w.reg h _ ⟨.inl rfl, id, id, fun hf hc => ?_⟩
        have hr := hf g hg
        rw [hg] at hc ⊢
        exact ⟨(geometryInRange_bounds hr).1, hc.2⟩
      unfold takeCount
      split
      · next hp => exact w.done (w.countPhase hz order hg hp)
      · exact w.countBoundary hz order hg

/-- The count brought to 0 by an alignment, with the phases issued before it (R9). -/
theorem alignCount (w : Quiet I) (h : I s) {g : Geometry} (hg : s.setup.geometry = some g) {n : Nat}
    (hn : n = 0 ∨ (n = max s.reg.issuedTo s.reg.phase ∧ ¬g.pitch ≤ 2 * s.reg.phase)) :
    I (s.setReg { s.reg with phase := 0, issuedTo := n, pocketIndex := 0, remainder := 0 }) := by
  refine w.reg h _ ⟨.inl rfl, id, id, fun hf hc => ?_⟩
  obtain ⟨hd, hp, hl, -⟩ := geometryInRange_bounds (hf g hg)
  rw [hg] at hc ⊢
  obtain ⟨-, -, -, hi⟩ := hc
  dsimp only [CountIn]
  omega

theorem align (w : Work I J) (h : I s) (order : List PulseTask) {g : Geometry} (hg : s.setup.geometry = some g) :
    J (align g order s) := by
  unfold Machine.align phasesIssued
  dsimp only
  split
  · refine w.after.openWindow (w.after.releaseAllPulses (alignCount w.after (g := g) (w.issueBoundary h _ _ ?_) (by simpa using hg) (.inl rfl))) _
    exact ⟨g, hg, fun hr => Nat.lt_of_lt_of_le (by decide) (geometryInRange_bounds hr).2.2.1⟩
  · next hp => exact w.done (w.openWindow (w.releaseAllPulses (alignCount w.toQuiet h hg (.inr ⟨rfl, hp⟩))) _)

theorem align_state (g : Geometry) (order : List PulseTask) (s : State) :
    (Machine.align g order s).reg.state = s.reg.state := by
  unfold Machine.align
  dsimp only
  split <;> simp [Machine.openWindow, Machine.issueBoundary]

theorem beginSeeking (w : Work I J) (h : I s) (order : List PulseTask) {g : Geometry} (hg : s.setup.geometry = some g)
    (hs : s.reg.state ≠ .registered) : J (beginSeeking g order s) :=
  w.after.postState (w.after.reg (w.align h order hg) _ (by
    exact ⟨.inr (by rwa [align_state]), fun _ => Nat.zero_le _, id,
      fun _ => Quiet.countIn_congr rfl rfl rfl rfl⟩)) _

theorem takeMark (w : Work I J) (h : I s) (order : List PulseTask) : J (takeMark order s) := by
  unfold Machine.takeMark
  split
  · exact w.done h
  · next g hg =>
    split
    · next hs => exact w.beginSeeking h order hg (by simp [hs])
    · next hs => exact w.beginSeeking h order hg (by simp [hs])
    · next hs =>
      split
      · exact w.done (w.goodMarkSeeking h hs)
      · exact w.after.setGoodMarks (w.align h order hg) (Nat.zero_le _)
    · next hs =>
      split
      · exact w.done (w.seeMark h)
      · exact w.done (w.badEvent h hs)

/-! ## Requests -/

theorem takeSetGeometry (w : Work I J) (h : I s) (p : Port) (num : Byte) (b : List Byte) :
    I (takeSetGeometry p num b s) := by
  unfold Machine.takeSetGeometry
  split
  · exact w.refuse h _ _ _
  · split
    · exact w.refuse h _ _ _
    · split
      · exact w.refuse h _ _ _
      · next ho =>
        split
        · exact w.refuse h _ _ _
        · next ha => exact w.setGeometry h _ p num (by simpa using ho) (by simpa using ha)

theorem takeRestart (w : Work I J) (h : I s) (p : Port) (num : Byte) (b : List Byte) : I (takeRestart p num b s) := by
  unfold Machine.takeRestart
  split
  · exact w.refuse h _ _ _
  · split
    · exact w.refuse h _ _ _
    · exact w.postTo (w.accept (w.restarted h) _ _) _ _

/-- What a taken message does in the block that owns it (R169). -/
theorem routeMessage (w : Work I J) (h : I s) (i : Instr) : J (routeMessage i s) := by
  cases i with
  | status p num b => exact w.done (w.takeStatus h p num b)
  | claim p num b => exact w.done (w.takeClaim h p num b)
  | release p num b => exact w.done (w.takeRelease h p num b)
  | subscribe p num b => exact w.done (w.takeSubscribe h p num b)
  | setSpeed p num b => exact w.done (w.takeSetSpeed h p num b)
  | readLog p num b => exact w.done (w.takeReadLog h p num b)
  | clearLog p num b => exact w.done (w.takeClearLog h p num b)
  | readCounts p num b => exact w.done (w.takeReadCounts h p num b)
  | clearCounts p num b => exact w.done (w.takeClearCounts h p num b)
  | readTrack p num b => exact w.done (w.takeReadTrack h p num b)
  | readQueue p num b => exact w.done (w.takeReadQueue h p num b)
  | readBundle p num b => exact w.done (w.takeReadBundle h p num b)
  | readOrders p num b => exact w.done (w.takeReadOrders h p num b)
  | setGeometry p num b => exact w.done (w.takeSetGeometry h p num b)
  | setStation p num b => exact w.done (w.takeSetStation h p num b)
  | clearStation p num b => exact w.done (w.takeClearStation h p num b)
  | setAction p num b => exact w.done (w.takeSetAction h p num b)
  | setLockout p num b => exact w.done (w.takeSetLockout h p num b)
  | restart p num b => exact w.done (w.takeRestart h p num b)
  | setLineMask p num b => exact w.done (w.takeSetLineMask h p num b)
  | run p num b => exact w.done (w.takeRun h p num b)
  | hold p num b => exact w.done (w.takeHold h p num b)
  | drain p num b => exact w.done (w.takeDrain h p num b)
  | stopClear p num b => exact w.done (w.takeStopClear h p num b)
  | chainClear p num b => exact w.done (w.takeChainClear h p num b)
  | stationOn p num b => exact w.done (w.takeStationOn h p num b)
  | stationOff p num b => exact w.done (w.takeStationOff h p num b)
  | proof p num b => exact w.done (w.takeProof h p num b)
  | alertClear p num b => exact w.done (w.takeAlertClear h p num b)
  | wrapFault p _ b => exact w.done (w.takeWrapFault h p b)
  | jobOpen p num b => exact w.done (w.takeJobOpen h p num b)
  | load p num b => exact w.done (w.takeLoad h p num b)
  | withdraw p num b => exact w.done (w.takeWithdraw h p num b)
  | jobEnd p num b => exact w.done (w.takeJobEnd h p num b)
  | jobAbort p num b => exact w.done (w.takeJobAbort h p num b)
  | closeShort p num b => exact w.done (w.takeCloseShort h p num b)
  | printed p _ b => exact w.carrierReport h p 3 b (w.inCarrierRun h fun hm => w.done (w.reportPrinted h hm _))
  | spoiled p _ b => exact w.carrierReport h p 3 b (w.inCarrierRun h fun hm => w.reportSpoiled h hm _)
  | orderWithdrawn p _ b => exact w.carrierReport h p 3 b (w.inCarrierRun h fun hm => w.done (w.reportWithdrawn h hm _))
  | orderLate p _ b => exact w.carrierReport h p 3 b (w.inCarrierRun h fun hm => w.done (w.reportLate h hm _))
  | codeRead p _ b => exact w.carrierReport h p 2 b (w.done (w.reportCode h _))
  | noRead p _ b => exact w.carrierReport h p 0 b (w.done (w.reportNoRead h))
  | purged p _ b => exact w.carrierReport h p 0 b (w.done (w.reportPurged h))
  | tied p _ b => exact w.done (w.takeTied h p b)
  | jam p _ b => exact w.done (w.takeJam h p b)
  | unknownKind p _ num => exact w.done (w.refuse h p num _)
  | encoderPulse _ _ _ => exact w.done h
  | homeMark _ => exact w.done h
  | pendingConfirmExpiry => exact w.done h
  | gateConfirm => exact w.done h
  | claimExpiry => exact w.done h
  | tieTimerExpiry _ => exact w.done h
  | gapLimitExpiry _ => exact w.done h
  | powerOn => exact w.done h
  | receiveCharacter _ _ => exact w.done h
  | checkFail _ _ _ => exact w.done h
  | messageSent _ => exact w.done h
  | speedChange _ => exact w.done h
  | outcomeBacklogRelease => exact w.done h

/-! ## The links -/

theorem continueMessage (w : Work I J) (h : I s) (p : Port) (chars : List Byte) (b : Byte) :
    J (continueMessage p chars b s) := by
  unfold Machine.continueMessage completeMessage
  split
  · split
    · split
      · exact w.routeMessage (w.beginMessage h p) _
      · exact w.done (w.failCheck h _ _ _)
    · exact w.done h
  · split
    · exact w.done (w.abandonMessage h _ _)
    · exact w.done (w.setReceiver h _ _)

theorem takeCharacter (w : Work I J) (h : I s) (p : Port) (c : Character) : J (takeCharacter p c s) := by
  unfold Machine.takeCharacter
  split
  · exact w.done (w.abandonMessage h _ _)
  · split
    · exact w.done (w.setReceiver h _ _)
    · exact w.done h
    · exact w.done (w.abandonMessage h _ _)
    · exact w.continueMessage h _ _ _

theorem sendHead (w : Work I J) (h : I s) (p : Port) : I (sendHead p s) := by
  unfold Machine.sendHead
  split
  · exact h
  · next f rest hq =>
    have hs : I (setPortState p { portState p s with tx := rest } s) :=
      w.port h p _ fun hl => by
        rw [hq] at hl
        exact (Nat.le_succ _).trans hl
    have hv : I (match f.speed with
        | some v => changeSpeed p v (setPortState p { portState p s with tx := rest } s)
        | none => setPortState p { portState p s with tx := rest } s) := by
      split
      · exact w.changeSpeed hs p _
      · exact hs
    dsimp only
    split
    · exact w.drainBacklog hv
    · exact hv

theorem sendSpeedAccept (w : Work I J) (h : I s) (p : Port) : I (sendSpeedAccept p s) := by
  unfold Machine.sendSpeedAccept
  split
  · exact h
  · split
    · exact w.sendHead h p
    · exact h

/-! ## Commands and steps -/

/-- A message command: taken, its effect, the end of the event. -/
theorem message (w : Work I J) (h : I s) (p : Port) (i : Instr) :
    J (Machine.settle (Machine.routeMessage i (Machine.beginMessage p s))) :=
  w.after.settle (w.routeMessage (w.beginMessage h p) i)

/-- Every command leads from `I` to `J`. -/
theorem exec (w : Work I J) (h : I s) (i : Instr) {t : State} (ht : exec i s = .next t) : J t := by
  cases i <;> cases ht
  case encoderPulse a b order => exact w.after.settle (w.takePulse (w.pins h _) order)
  case homeMark order => exact w.after.settle (w.takeMark h order)
  case pendingConfirmExpiry => exact w.done (w.settle (w.expireOldest h))
  case gateConfirm => exact w.done (w.settle (w.takeConfirm h))
  case claimExpiry => exact w.done (w.settle (w.expireClaim h))
  case tieTimerExpiry n => exact w.done (w.settle (w.expireTieTimer h n))
  case gapLimitExpiry p => exact w.done (w.settle (w.expireGap h p))
  case powerOn => exact w.done (w.powerOn h)
  case receiveCharacter p c => exact w.after.settle (w.takeCharacter h p c)
  case checkFail p kind num => exact w.done (w.settle (w.failCheck h p kind num))
  case messageSent p => exact w.done (w.settle (w.sendHead h p))
  case speedChange p => exact w.done (w.settle (w.sendSpeedAccept h p))
  case outcomeBacklogRelease => exact w.done (w.settle (w.releaseOne h))
  case unknownKind p kind num => exact w.message h p (.unknownKind p kind num)
  case status p num b => exact w.message h p (.status p num b)
  case claim p num b => exact w.message h p (.claim p num b)
  case release p num b => exact w.message h p (.release p num b)
  case subscribe p num b => exact w.message h p (.subscribe p num b)
  case setSpeed p num b => exact w.message h p (.setSpeed p num b)
  case readLog p num b => exact w.message h p (.readLog p num b)
  case clearLog p num b => exact w.message h p (.clearLog p num b)
  case readCounts p num b => exact w.message h p (.readCounts p num b)
  case clearCounts p num b => exact w.message h p (.clearCounts p num b)
  case readTrack p num b => exact w.message h p (.readTrack p num b)
  case readQueue p num b => exact w.message h p (.readQueue p num b)
  case readBundle p num b => exact w.message h p (.readBundle p num b)
  case readOrders p num b => exact w.message h p (.readOrders p num b)
  case setGeometry p num b => exact w.message h p (.setGeometry p num b)
  case setStation p num b => exact w.message h p (.setStation p num b)
  case clearStation p num b => exact w.message h p (.clearStation p num b)
  case setAction p num b => exact w.message h p (.setAction p num b)
  case setLockout p num b => exact w.message h p (.setLockout p num b)
  case restart p num b => exact w.message h p (.restart p num b)
  case setLineMask p num b => exact w.message h p (.setLineMask p num b)
  case run p num b => exact w.message h p (.run p num b)
  case hold p num b => exact w.message h p (.hold p num b)
  case drain p num b => exact w.message h p (.drain p num b)
  case stopClear p num b => exact w.message h p (.stopClear p num b)
  case chainClear p num b => exact w.message h p (.chainClear p num b)
  case stationOn p num b => exact w.message h p (.stationOn p num b)
  case stationOff p num b => exact w.message h p (.stationOff p num b)
  case proof p num b => exact w.message h p (.proof p num b)
  case alertClear p num b => exact w.message h p (.alertClear p num b)
  case wrapFault p num b => exact w.message h p (.wrapFault p num b)
  case jobOpen p num b => exact w.message h p (.jobOpen p num b)
  case load p num b => exact w.message h p (.load p num b)
  case withdraw p num b => exact w.message h p (.withdraw p num b)
  case jobEnd p num b => exact w.message h p (.jobEnd p num b)
  case jobAbort p num b => exact w.message h p (.jobAbort p num b)
  case closeShort p num b => exact w.message h p (.closeShort p num b)
  case printed p num b => exact w.message h p (.printed p num b)
  case spoiled p num b => exact w.message h p (.spoiled p num b)
  case orderWithdrawn p num b => exact w.message h p (.orderWithdrawn p num b)
  case orderLate p num b => exact w.message h p (.orderLate p num b)
  case codeRead p num b => exact w.message h p (.codeRead p num b)
  case noRead p num b => exact w.message h p (.noRead p num b)
  case purged p num b => exact w.message h p (.purged p num b)
  case tied p num b => exact w.message h p (.tied p num b)
  case jam p num b => exact w.message h p (.jam p num b)

/-- Every step leads from `I` to `J`. -/
theorem step (w : Work I J) {t : State} (h : I s) (ht : step s = .next t) : J t := by
  unfold Machine.step at ht
  split at ht
  · cases ht
    exact w.done (w.tick h)
  · exact w.exec (w.pending h _) _ ht

end Work

end Sys2Proof.Machine

/-! Invariants beside a block: where an invariant does not speak of the carrier unit, of the store or of the records in the
track, any change of these keeps it, and with it every operation of theirs. -/

namespace Sys2Proof.Machine

/-! ## Carrier unit -/

/-- What the invariants of the records read of a position entry. -/
def recordEssence (e : TrackEntry) : Option (Record × SourceList) := (pieceOf e).map fun x => (x.record, x.source)

/-- A change of a piece that leaves its record and its source. -/
def RecordMove (f : Piece → Piece) : Prop := ∀ x, (f x).record = x.record ∧ (f x).source = x.source

/-- A change of the carrier unit that leaves its capacity and the range of its counter (R93). -/
structure CarrierMove (c x : CarrierUnit) : Prop where
  room : c.queue.length ≤ 96 → x.queue.length ≤ 96
  number : x.nextOrder = c.nextOrder ∨ x.nextOrder = orderAfter c.nextOrder

/-- `I` is kept by every change of the carrier unit. -/
structure CarrierFree (I : State → Prop) : Prop extends Quiet I where
  carrier : ∀ {s}, I s → ∀ x, CarrierMove s.carrier x → I (s.setCarrier x)
  orders : ∀ {s}, I s → ∀ x, x.map recordEssence = s.track.map recordEssence → I (s.setTrack x)
  anyLines : ∀ {s}, I s → ∀ x, I (s.setLines x)

theorem updatePiece_setCarrier (p : Nat) (f : Piece → Piece) (s : State) (c : CarrierUnit) :
    updatePiece p f (s.setCarrier c) = (updatePiece p f s).setCarrier c := by
  have hp : pieceAt p (s.setCarrier c) = pieceAt p s := rfl
  unfold updatePiece
  rw [hp]
  split <;> rfl

/-- A reprint in one change of the carrier unit. -/
theorem reprint_eq (number p : Nat) (x : Piece) (s : State) :
    reprint number p x s = post .carrier (printFrame s.carrier.nextOrder x.record)
      ((updatePiece p (fun x => { x with carrier := some s.carrier.nextOrder, reprints := x.reprints + 1 }) s).setCarrier
        { s.carrier with
          queue := (s.carrier.queue.filter fun o => o.number ≠ number) ++
            [{ number := s.carrier.nextOrder, tag := x.tag, state := .issued }]
          nextOrder := orderAfter s.carrier.nextOrder }) := by
  dsimp only [reprint, issueOrder, removeOrder]
  rw [updatePiece_setCarrier]
  rfl

theorem findOrder_mem {n : Nat} {o : Order} {s : State} (h : findOrder n s = some o) :
    o ∈ s.carrier.queue ∧ o.number = n :=
  ⟨List.mem_of_find?_eq_some h, by simpa using List.find?_some h⟩

theorem length_removeOrder_lt {n : Nat} {o : Order} {s : State} (h : findOrder n s = some o) :
    (s.carrier.queue.filter fun o => o.number ≠ n).length < s.carrier.queue.length := by
  obtain ⟨hmem, hn⟩ := findOrder_mem h
  exact List.length_filter_lt_length_iff_exists.mpr ⟨o, hmem, by simpa using hn⟩

namespace CarrierFree

variable {I : State → Prop} {s : State}

theorem updateRecord (q : CarrierFree I) (h : I s) (p : Nat) {f : Piece → Piece} (hf : RecordMove f) :
    I (Machine.updatePiece p f s) := by
  unfold Machine.updatePiece
  split
  · next x hx =>
    refine q.orders h _ (Quiet.map_set_of_getElem? (Quiet.getElem?_of_pieceAt hx) ?_)
    obtain ⟨hr, hs⟩ := hf x
    simp [recordEssence, pieceOf, hr, hs]
  · exact h

theorem shrink (q : CarrierFree I) (h : I s) (x : CarrierUnit) (hl : x.queue.length ≤ s.carrier.queue.length)
    (hn : x.nextOrder = s.carrier.nextOrder) : I (s.setCarrier x) :=
  q.carrier h x ⟨hl.trans, .inl hn⟩

theorem setOrderState (q : CarrierFree I) (h : I s) (n : Nat) (x : OrderState) : I (setOrderState n x s) :=
  q.shrink h _ (by simp) rfl

theorem removeOrder (q : CarrierFree I) (h : I s) (n : Nat) : I (removeOrder n s) :=
  q.shrink h _ (List.length_filter_le _ _) rfl

theorem takeHead (q : CarrierFree I) (h : I s) : I (takeHead s) := q.shrink h _ (by simp) rfl

theorem setPrintedCount (q : CarrierFree I) (h : I s) (n : Nat) : I (setPrintedCount n s) := q.shrink h _ le_rfl rfl

theorem discardOrder (q : CarrierFree I) (h : I s) (n : Nat) : I (discardOrder n s) := by
  unfold Machine.discardOrder
  split
  · exact h
  · split
    · exact q.raiseOnPiece (q.updateRecord h _ (by exact fun _ => ⟨rfl, rfl⟩)) _ _ _
    · exact q.updateRecord h _ (by exact fun _ => ⟨rfl, rfl⟩)

theorem discardOrders (q : CarrierFree I) (h : I s) (os : List Order) :
    I (os.foldl (fun s o => Machine.discardOrder o.number s) s) := by
  induction os generalizing s with
  | nil => exact h
  | cons o os ih => exact ih (q.discardOrder h _)

end CarrierFree

theorem Quiet.dropCarrierWork {I : State → Prop} {s : State} (q : Quiet I) (h : I s) : I (dropCarrierWork s) := by
  unfold Machine.dropCarrierWork
  split
  · exact h
  · next f rest hq =>
    refine q.port h _ _ fun hl => ?_
    rw [hq] at hl
    exact (Nat.succ_le_succ (List.length_filter_le _ _)).trans hl

namespace CarrierFree

variable {I : State → Prop} {s : State}

theorem enterHold (q : CarrierFree I) (h : I s) (c : HoldCause) : I (enterHold c s) := by
  unfold Machine.enterHold
  split
  · have hm : I (s.setCarrier { s.carrier with mode := .hold c }) := q.shrink h _ le_rfl rfl
    have hd := q.discardOrders (q.anyLines hm { s.lines with apply := none, dump := none }) s.carrier.queue
    exact q.postState (q.post (q.dropCarrierWork (q.shrink hd _ (Nat.zero_le _) (by simp))) _ _) _
  · exact h

theorem holdOnReport (q : CarrierFree I) (h : I s) (k : FaultKind) (c : HoldCause) : I (holdOnReport k c s) :=
  q.enterHold (q.raise h _) c

theorem reportPrinted (q : CarrierFree I) (h : I s) (n : Nat) : I (reportPrinted n s) := by
  unfold Machine.reportPrinted
  split
  · exact q.holdOnReport h _ _
  · split
    · split
      · exact q.setPrintedCount (q.setOrderState h _ _) _
      · exact q.holdOnReport h _ _
    · exact q.holdOnReport h _ _

theorem reprint (q : CarrierFree I) (h : I s) {n : Nat} {o : Order} (ho : findOrder n s = some o) (p : Nat) (x : Piece) :
    I (reprint n p x s) := by
  rw [reprint_eq]
  refine q.post (q.carrier (q.updateRecord h p (by exact fun _ => ⟨rfl, rfl⟩)) _ ⟨fun hl => ?_, .inr ?_⟩) _ _
  · have := length_removeOrder_lt ho
    simp only [updatePiece_keeps, List.length_append, List.length_cons, List.length_nil] at *
    omega
  · simp

theorem reportSpoiled (q : CarrierFree I) (h : I s) (n : Nat) : I (reportSpoiled n s) := by
  unfold Machine.reportSpoiled spoilIssued
  split
  · exact q.strayReport h _
  · next o ho =>
    split
    · split
      · exact q.removeOrder h _
      · split
        · exact q.reprint h ho _ _
        · exact q.raiseOnPiece (q.updateRecord (q.removeOrder h _) _ (by exact fun _ => ⟨rfl, rfl⟩)) _ _ _
    · exact q.removeOrder h _
    · exact q.strayReport h _
    · exact q.strayReport h _
    · exact q.strayReport h _

theorem reportWithdrawn (q : CarrierFree I) (h : I s) (n : Nat) : I (reportWithdrawn n s) := by
  unfold Machine.reportWithdrawn
  split
  · exact q.strayReport h _
  · split
    · exact q.removeOrder h _
    · exact q.holdOnReport h _ _
    · exact q.strayReport h _
    · exact q.strayReport h _
    · exact q.strayReport h _

theorem reportLate (q : CarrierFree I) (h : I s) (n : Nat) : I (reportLate n s) := by
  unfold Machine.reportLate
  split
  · exact q.strayReport h _
  · split
    · exact q.setOrderState h _ _
    · exact h
    · exact q.strayReport h _
    · exact q.strayReport h _
    · exact q.strayReport h _

theorem dumpPhase (q : CarrierFree I) (h : I s) : I (dumpPhase s) := by
  unfold Machine.dumpPhase
  split
  · split
    · exact q.takeHead (q.anyLines h _)
    · exact h
  · exact h

theorem giveUpOrder (q : CarrierFree I) (h : I s) (p n : Nat) (o : Order) : I (giveUpOrder p n o s) := by
  have hu : I (Machine.updatePiece p (fun x => { x with carrier := none }) s) :=
    q.updateRecord h p (by exact fun _ => ⟨rfl, rfl⟩)
  unfold Machine.giveUpOrder
  dsimp only
  split
  · exact q.post (q.setOrderState hu _ _) _ _
  · exact q.setOrderState hu _ _
  · exact hu
  · exact hu
  · exact hu

end CarrierFree

theorem Quiet.starvePiece {I : State → Prop} {s : State} (q : Quiet I) (h : I s) (p : Nat) : I (starvePiece p s) :=
  q.raiseOnPiece (q.updatePiece h p (by exact fun _ => ⟨rfl, rfl, rfl, rfl⟩)) _ _ _

namespace CarrierFree

variable {I : State → Prop} {s : State}

theorem starveAtApply (q : CarrierFree I) (h : I s) (p : Nat) : I (starveAtApply p s) := by
  have hs := q.starvePiece h p
  unfold Machine.starveAtApply
  dsimp only
  split
  · exact hs
  · split
    · exact q.giveUpOrder hs _ _ _
    · exact hs

theorem applyPhase (q : CarrierFree I) (h : I s) : I (applyPhase s) := by
  unfold Machine.applyPhase
  dsimp only
  split
  · split
    · split
      · exact q.updateRecord (q.takeHead (q.anyLines h _)) _ (by exact fun _ => ⟨rfl, rfl⟩)
      · exact q.starveAtApply h _
    · exact h
  · exact h

theorem settleCarrier (q : CarrierFree I) (h : I s) : I (settleCarrier s) := by
  unfold Machine.settleCarrier
  dsimp only
  split
  · exact h
  · next x _ =>
    have hs : I (if x.fate = .awaiting then Machine.starvePiece ((geometryItems s).applicator + 1) s else s) := by
      split
      · exact q.starvePiece h _
      · exact h
    split
    · exact hs
    · exact q.giveUpOrder hs _ _ _

end CarrierFree

/-! ## Dispatch store -/

/-- A change of the store that leaves its capacities (R46, R52). -/
structure StoreMove (c x : Store) : Prop where
  lane : c.lane.length ≤ 16 → x.lane.length ≤ 16
  text : c.textUsed ≤ 131072 → x.textUsed ≤ 131072

/-- `I` is kept by every change of the store. -/
structure StoreFree (I : State → Prop) : Prop extends Quiet I where
  store : ∀ {s}, I s → ∀ x, StoreMove s.store x → I (s.setStore x)

namespace StoreFree

variable {I : State → Prop} {s : State}

theorem setPlace (q : StoreFree I) (h : I s) (key : Nat) (x : Place) : I (setPlace key x s) := q.store h _ ⟨id, id⟩

theorem removeWaiting (q : StoreFree I) (h : I s) (key : Nat) : I (removeWaiting key s) :=
  q.store h _ ⟨(List.length_filter_le _ _).trans, id⟩

theorem forgetRecord (q : StoreFree I) (h : I s) (r : Record) : I (forgetRecord r s) :=
  q.store h _ ⟨id, (Nat.sub_le _ _).trans⟩

theorem forgotten (q : StoreFree I) (h : I s) (r : Record) : I (forgotten r s) :=
  q.forgetRecord (q.removeWaiting h _) r

/-- Any change of the store keeps what the operations of the store change. -/
theorem work (q : StoreFree I) : StoreWork I where
  toQuiet := q.toQuiet
  load h r hr := by
    refine q.store h _ ⟨id, fun ht => ?_⟩
    have := hr.text
    simp only [textRoom, Config.textCapacity] at this
    dsimp only
    omega
  dropEntry h _ rest _ _ := q.store h _ ⟨id, id⟩
  releaseEntry h _ rest r _ _ := q.forgotten (q.store h _ (by exact ⟨id, id⟩)) r
  forget h r _ _ := q.forgotten h r
  enterBacklog h _ _ _ := q.store h _ ⟨id, id⟩

theorem endLife (q : StoreFree I) (h : I s) (x : Place) (e : RecordEnd) (r : Record) : I (endLife x e r s) := by
  have hl : I (leaveList x r.key s) := by
    cases x with
    | queue => exact q.removeWaiting h _
    | lane => exact q.removeWaiting h _
    | track => exact h
  exact q.work.afterLife (q.forgetRecord hl r) x e r

theorem sendToLane (q : StoreFree I) (h : I s) (o : OffReason) (r : Record) : I (sendToLane o r s) := by
  unfold Machine.sendToLane placeInLane
  split
  · next hroom =>
    have hl : I (s.setStore { s.store with lane := s.store.lane ++ [r] }) :=
      q.store h _ ⟨fun _ => by simpa [Config.laneCapacity] using Nat.succ_le_of_lt hroom, id⟩
    exact q.bundle (q.setPlace hl r.key .lane) r.bundle
      (fun b => { b with inFlight := b.inFlight - 1, inLane := b.inLane + 1 })
      ⟨fun _ => rfl, fun _ => rfl, fun _ hb => hb⟩
  · exact q.endLife h _ _ _

theorem returnToQueues (q : StoreFree I) (h : I s) (rs : List Record) :
    I (rs.foldl (fun s r => returnToQueue r s) s) := by
  induction rs generalizing s with
  | nil => exact h
  | cons r rs ih => exact ih (q.bundle (q.setPlace h _ _) _ _ (Quiet.bundleMove_leavePlace _))

theorem sendToLanes (q : StoreFree I) (h : I s) (o : OffReason) (rs : List Record) :
    I (rs.foldl (fun s r => Machine.sendToLane o r s) s) := by
  induction rs generalizing s with
  | nil => exact h
  | cons r rs ih => exact ih (q.sendToLane h o r)

theorem returnPurged (q : StoreFree I) (h : I s) (xs : List Piece) : I (returnPurged xs s) := by
  have hp : I (placePurged xs s) := q.sendToLanes (q.returnToQueues (q.store h _ (by exact ⟨id, id⟩)) _) _ _
  unfold Machine.returnPurged
  dsimp only
  split
  · exact q.completionCheck (q.work.drainBacklog (q.store hp _ (by exact ⟨id, id⟩)))
  · exact q.completionCheck hp

/-- No pending confirm is of the present pitch, and no gate due stands: a gate due may be set (R124, R129). -/
def GateFree (d : Disposition) : Prop := (∀ c ∈ d.confirms, c.seen ≠ 0) ∧ d.gateDue = none

theorem confirmsFit_due {d : Disposition} (hd : GateFree d) (x : GateDue) (h : ConfirmsFit d) :
    ConfirmsFit { d with gateDue := some x } := by
  refine ⟨?_, h.2⟩
  rw [List.filter_eq_nil_iff.mpr fun c hc => by simpa using hd.1 c hc]
  simp

theorem placeRejected (q : StoreFree I) (h : I s) (x : Piece) : I (placeRejected x s) := by
  unfold Machine.placeRejected
  dsimp only
  split
  · exact q.endLife h _ _ _
  · split
    · exact q.endLife h _ _ _
    · split
      · exact q.sendToLane h _ _
      · split
        · exact q.sendToLane h _ _
        · exact q.endLife h _ _ _

theorem rejectPiece (q : StoreFree I) (h : I s) (hd : GateFree s.disp) (x : Piece) : I (rejectPiece x s) := by
  refine q.disp (q.placeRejected h x) _ ?_
  simpa using confirmsFit_due hd _

theorem decidePiece (q : StoreFree I) (h : I s) (hd : GateFree s.disp) (x : Piece) : I (decidePiece x s) := by
  unfold Machine.decidePiece
  split
  · exact q.rejectPiece h hd x
  · split
    · have hp : I (s.setDisp { s.disp with proofPending := false }) := q.disp h _ id
      exact q.rejectPiece hp hd _
    · exact q.endLife (q.post h _ _) _ _ _

end StoreFree

/-! ## The track -/

/-- No position is added or dropped, and no piece comes. -/
def TrackLoss (t x : List TrackEntry) : Prop :=
  x.length = t.length ∧ ∀ (p : Nat) (y : Piece), x[p]? = some (.piece y) → ∃ z, t[p]? = some (.piece z)

/-- `I` is kept where a piece leaves the track or its record changes. -/
structure TrackFree (I : State → Prop) : Prop extends Quiet I where
  loss : ∀ {s}, I s → ∀ x, TrackLoss s.track x → I (s.setTrack x)

theorem trackLoss_set {t : List TrackEntry} {p : Nat} {e : TrackEntry} (he : pieceOf e = none) :
    TrackLoss t (t.set p e) := by
  refine ⟨List.length_set, fun q y hy => ?_⟩
  by_cases hq : p = q
  · subst hq
    obtain ⟨_, hy⟩ := List.getElem?_eq_some_iff.mp hy
    rw [List.getElem_set_self] at hy
    simp [hy, pieceOf] at he
  · rw [List.getElem?_set_ne hq] at hy
    exact ⟨y, hy⟩

theorem trackLoss_purged (t : List TrackEntry) : TrackLoss t (t.map purgedEntry) := by
  refine ⟨List.length_map _, fun q y hy => ?_⟩
  rw [List.getElem?_map] at hy
  obtain ⟨e, -, he⟩ := Option.map_eq_some_iff.mp hy
  cases e <;> cases he

namespace TrackFree

variable {I : State → Prop} {s : State}

theorem clearEntry (q : TrackFree I) (h : I s) (p : Nat) {e : TrackEntry} (he : pieceOf e = none) :
    I (Machine.setEntryAt p e s) :=
  q.loss h _ (trackLoss_set he)

end TrackFree

theorem purgeTrack_of_free {I : State → Prop} {s : State} (q : StoreFree I) (t : TrackFree I) (h : I s) :
    I (purgeTrack s) :=
  q.returnPurged (t.loss h _ (trackLoss_purged _)) _

/-- Nothing that the disposition unit's part of a boundary does before the arrival adds a confirm or a gate due. -/
theorem gateFree_cleared (g : Nat) (s : State) : StoreFree.GateFree (clearGateDue g (ageConfirms s)).disp := by
  have hage : ∀ c ∈ (ageConfirms s).disp.confirms, c.seen ≠ 0 := by
    intro c hc
    simp only [ageConfirms, foldExpire_keeps, State.setDisp_disp] at hc
    obtain ⟨a, -, rfl⟩ := List.mem_map.mp hc
    exact Nat.one_ne_zero
  unfold clearGateDue
  split
  · next hd => exact ⟨hage, hd⟩
  · simpa [StoreFree.GateFree] using hage

theorem takeArrival_of_free {I : State → Prop} {s : State} (q : StoreFree I) (t : TrackFree I) (h : I s)
    (hd : StoreFree.GateFree s.disp) : I (takeArrival s) := by
  unfold takeArrival
  dsimp only
  split
  · next x _ => exact q.decidePiece (t.clearEntry h _ rfl) (by simpa using hd) x
  · exact q.disp h _ (StoreFree.confirmsFit_due hd _)
  · exact h
  · exact h
  · exact h
  · exact h

theorem dispositionBoundary_of {I : State → Prop} {s : State} (w : StoreWork I)
    (harrive : ∀ {u}, I u → StoreFree.GateFree u.disp → I (takeArrival u)) (h : I s) :
    I (dispositionBoundary s) :=
  harrive (w.clearGateDue (w.ageConfirms h) _) (gateFree_cleared _ _)

/-! ## Entry -/

/-- A bundle that may be created: its number is not in the table, and its bay is free (R68, R137). -/
def BayFits (n : Nat) (h : Fin 16) (s : State) : Prop := findBundle n s = none ∧ s.bundles.bays[h] = none

/-- `I` is kept where a record enters and a bundle is created. -/
structure EntryFree (I : State → Prop) : Prop extends StoreFree I where
  createBundle : ∀ {s}, I s → ∀ n h, BayFits n h s → I (createBundle n h s)
  putPiece : ∀ {s}, I s → s.reg.state = .registered → ∀ x, I (setEntryAt 0 (.piece x) s)
  putEmpty : ∀ {s}, I s → ∀ e, pieceOf e = none → I (setEntryAt 0 e s)
  issue : ∀ {s}, I s → s.carrier.mode = .run → s.carrier.queue.length < 96 → ∀ tag r, I (issueOrder tag r s)

namespace EntryFree

variable {I : State → Prop} {s : State}

theorem leaveEmpty (q : EntryFree I) (h : I s) (pocket : Option Nat) (r : EntryResult) (b : Option Nat) :
    I (leaveEmpty pocket r b s) :=
  q.entry (q.putEmpty h (.empty pocket 0) rfl) _ (by exact ⟨id, id⟩)

end EntryFree

theorem tagAfter_range {n : Nat} (h : 1 ≤ n ∧ n ≤ 65535) : 1 ≤ tagAfter n ∧ tagAfter n ≤ 65535 := by
  unfold tagAfter Config.lastTag
  split <;> omega

theorem Quiet.testStarvation {I : State → Prop} {s : State} (q : Quiet I) (h : I s) : I (testStarvation s) := by
  unfold Machine.testStarvation
  split
  · exact q.raise (q.entry h _ (by exact ⟨id, id⟩)) _
  · exact h

theorem Quiet.testItems {I : State → Prop} {s : State} (q : Quiet I) (h : I s) (r : Record) : I (testItems r s) := by
  unfold Machine.testItems
  split
  · exact h
  · exact q.raise (q.entry h _ (by exact ⟨id, id⟩)) _

namespace EntryFree

variable {I : State → Prop} {s : State}

theorem handOver (q : EntryFree I) (h : I s) (src : SourceList) (r : Record) : I (handOver src r s) := by
  have ht := q.setPlace (q.removeWaiting h r.key) r.key .track
  cases src with
  | queue => exact ht
  | lane => exact q.bundle ht _ _ (Quiet.bundleMove_leavePlace _)

theorem enterBundle (q : EntryFree I) (h : I s) (r : Record) (bay : Option (Fin 16))
    (hb : ∀ x ∈ bay, BayFits r.bundle x s) : I (enterBundle r bay s) := by
  have hmove : BundleMove fun b => { b with inFlight := b.inFlight + 1 } :=
    ⟨fun _ => rfl, fun _ => rfl, fun _ hb => hb⟩
  cases bay with
  | some x => exact q.bundle (q.createBundle h _ _ (hb x rfl)) _ _ hmove
  | none => exact q.bundle h _ _ hmove

/-- The bundle table's numbers and the bays do not change as a record is handed over and its piece is made. -/
theorem bayFits_makePiece {n : Nat} {b : Fin 16} (h : BayFits n b s) (src : SourceList) (r : Record) (x : Piece) :
    BayFits n b (makePiece x (Machine.handOver src r s)) := by
  obtain ⟨hn, hb⟩ := h
  cases src with
  | queue => exact ⟨by simpa [findBundle, Machine.handOver] using hn, by simpa [Machine.handOver] using hb⟩
  | lane =>
    have hnum : ∀ b : Bundle, (if b.number = r.bundle then leavePlace .lane b else b).number = b.number := by
      intro b
      split <;> rfl
    refine ⟨?_, by simpa [Machine.handOver, updateBundle] using hb⟩
    simp only [findBundle, makePiece_keeps, Machine.handOver, updateBundle, State.setBundles_bundles, setPlace_keeps,
      removeWaiting_keeps, List.find?_eq_none, List.mem_map, forall_exists_index, and_imp,
      forall_apply_eq_imp_iff₂] at hn ⊢
    intro a ha
    rw [hnum]
    exact hn a ha

theorem enterRecord (q : EntryFree I) (h : I s) (src : SourceList) (r : Record) (plan : List PlanPair)
    (bay : Option (Fin 16)) (hb : ∀ x ∈ bay, BayFits r.bundle x s) (hreg : s.reg.state = .registered)
    (hmode : s.carrier.mode = .run) (hroom : s.carrier.queue.length < 96) : I (enterRecord src r plan bay s) := by
  have hp : I (makePiece (newPiece src r plan s) (Machine.handOver src r s)) :=
    q.putPiece (q.entry (q.handOver h src r) _ (by exact ⟨tagAfter_range, id⟩)) (by simpa using hreg) _
  have he := q.enterBundle hp r bay fun x hx => bayFits_makePiece (hb x hx) src r _
  exact q.entry (q.endEpisodes (q.issue he (by simpa using hmode) (by simpa using hroom) _ _)) _ (by exact ⟨id, id⟩)

theorem freeBays_mem {b : Fin 16} (h : b ∈ freeBays s) : s.bundles.bays[b] = none := by
  have hm := List.of_mem_filter h
  simp only [Bool.and_eq_true, decide_eq_true_eq] at hm
  exact hm.2

theorem checkItems (q : EntryFree I) (h : I s) (src : SourceList) (r : Record) (hreg : s.reg.state = .registered)
    (hmode : s.carrier.mode = .run) (hroom : s.carrier.queue.length < 96) : I (checkItems src r s) := by
  unfold Machine.checkItems checkBay
  split
  · exact q.testItems (q.leaveEmpty h _ _ _) r
  · split
    · exact q.enterRecord h _ _ _ _ (fun _ e => nomatch e) hreg hmode hroom
    · next b _ hn hf =>
      refine q.enterRecord h _ _ _ _ (fun x hx => ?_) hreg hmode hroom
      cases hx
      exact ⟨hn, freeBays_mem (hf ▸ List.mem_cons_self)⟩
    · exact q.leaveEmpty h _ _ _

theorem canTakeOrder_room (h : canTakeOrder s = true) : s.carrier.mode = .run ∧ s.carrier.queue.length < 96 := by
  simp only [canTakeOrder, Bool.and_eq_true] at h
  exact ⟨of_decide_eq_true h.1.1, of_decide_eq_true h.1.2⟩

theorem entryEvent (q : EntryFree I) (h : I s) : I (entryEvent s) := by
  unfold Machine.entryEvent
  split
  · exact q.leaveEmpty h _ _ _
  · next hreg =>
    split
    · exact q.entry (q.putEmpty h (.locked s.reg.pocketIndex 0) rfl) _ (by exact ⟨id, id⟩)
    · split
      · exact q.leaveEmpty h _ _ _
      · split
        · exact q.leaveEmpty h _ _ _
        · next ht =>
          obtain ⟨hmode, hroom⟩ := canTakeOrder_room (Bool.not_eq_false _ ▸ ht)
          have hs := q.testStarvation h
          unfold chooseRecord
          dsimp only
          split
          · exact q.leaveEmpty hs _ _ _
          · exact q.leaveEmpty hs _ _ _
          · exact q.checkItems hs _ _ (by simpa using hreg) (by simpa using hmode)
              (by simpa using hroom)

end EntryFree

/-! ## The pitch boundary -/

/-- What holds of the block events left holds after all of them. -/
theorem runTasks_induct {J : List PulseTask → State → Prop}
    (hJ : ∀ t l u, J (t :: l) u → J l (settle (boundaryTask t u))) {l : List PulseTask} {s : State} (h : J l s) :
    J [] (runTasks boundaryTask l s) := by
  induction l generalizing s with
  | nil => exact h
  | cons t l ih => exact ih (hJ t l s h)

/-- The count at a boundary: phase 0, nothing issued, the new pocket index (R2, R9). -/
theorem Quiet.boundaryCount {I : State → Prop} {s : State} (q : Quiet I) (h : I s) {n : Nat} (hn : IndexFits n s) :
    I (s.setReg { s.reg with phase := 0, issuedTo := 0, pocketIndex := n }) := by
  obtain ⟨g, hg, hn⟩ := hn
  refine q.reg h _ ⟨.inl rfl, id, id, fun hf hc => ?_⟩
  have hr := hf g hg
  obtain ⟨-, hp, -⟩ := Work.geometryInRange_bounds hr
  rw [hg] at hc ⊢
  exact ⟨hc.1, Nat.lt_of_lt_of_le (Nat.zero_lt_succ _) hp, hn hr, Nat.lt_of_lt_of_le (Nat.zero_lt_succ _) hp⟩

theorem issueBoundary_of {I : State → Prop} {s : State} (q : Quiet I)
    (hadvance : ∀ {u}, I u → (∃ g, u.setup.geometry = some g) → I (advanceTrack u))
    (hentry : ∀ {u}, I u → I (entryEvent u)) (hcarrier : ∀ {u}, I u → I (settleCarrier u))
    (hdisp : ∀ {u}, I u → I (dispositionBoundary u)) (h : I s) (n : Nat) (order : List PulseTask)
    (hn : IndexFits n s) : I (issueBoundary n order s) := by
  have ha : I (advance (s.setReg { s.reg with phase := 0, issuedTo := 0, pocketIndex := n })) := by
    obtain ⟨g, hg, -⟩ := id hn
    exact q.settle (q.settleVerify (hadvance (q.boundaryCount h hn) ⟨g, hg⟩))
  refine runTasks_induct (J := fun _ => I) (fun t _ u hu => q.settle ?_) ha
  cases t with
  | entry => exact hentry hu
  | carrier => exact hcarrier hu
  | disposition => exact hdisp hu
  | window => exact hu
  | station i => exact hu

/-! ## The loss of registration and a new geometry -/

theorem loseRegistration_of {I : State → Prop} {s : State} (q : Quiet I)
    (hlost : I (s.setReg { s.reg with state := .lost, faultWindow := none, goodMarks := 0, chainClearPending := true }))
    (hpurge : ∀ {u}, I u → I (purgeTrack u)) (hhold : ∀ {u}, I u → ∀ c, I (enterHold c u)) : I (loseRegistration s) := by
  have hp := hpurge (q.postState (q.postState hlost (.registration .lost)) (.chainClear true))
  exact hhold (q.raise hp (homeFault .registrationLost s)) .lost

theorem pieces_of_setupOpen {s : State} (h : setupOpen s = true) : pieces s = [] := by
  simp only [setupOpen, trackClear, Bool.and_eq_true, List.isEmpty_iff] at h
  exact h.2

theorem filterMap_resize {t : List TrackEntry} (h : t.filterMap pieceOf = []) (g : Nat) :
    (t.take g).filterMap pieceOf = [] ∧
      (t.map keptEntry ++ emptyPositions g).filterMap pieceOf = [] := by
  rw [List.filterMap_eq_nil_iff] at h
  refine ⟨List.filterMap_eq_nil_iff.mpr fun e he => h e (List.mem_of_mem_take he), ?_⟩
  refine List.filterMap_eq_nil_iff.mpr fun e he => ?_
  rcases List.mem_append.mp he with he | he
  · obtain ⟨a, ha, rfl⟩ := List.mem_map.mp he
    have := h a ha
    cases a <;> first | rfl | exact absurd this (by simp [pieceOf])
  · rw [List.eq_of_mem_replicate he]
    rfl

/-- `I` is kept, while the track holds no piece, by a restart of the count and by another track without pieces. -/
structure ShapeFree (I : State → Prop) : Prop where
  restart : ∀ {s}, I s → pieces s = [] → I (s.setReg (restarted s.reg))
  resize : ∀ {s}, I s → pieces s = [] → ∀ x, x.filterMap pieceOf = [] → I (s.setTrack x)

section NewGeometry

variable {I : State → Prop} {s : State}

theorem restartCount_of (q : Quiet I) (f : ShapeFree I) (h : I s) (hp : pieces s = []) : I (restartCount s) := by
  have hr : I (releaseAllPulses (s.setReg (restarted s.reg))) := q.releaseAllPulses (f.restart h hp)
  unfold restartCount
  dsimp only
  split
  · exact hr
  · exact q.postState hr _

theorem changeGatePosition_of (w : StoreWork I) (f : ShapeFree I) (h : I s) (hp : pieces s = []) (a b : Nat) :
    I (changeGatePosition a b s) := by
  have hc := w.clearGateDue h a
  have hpc : pieces (clearGateDue a s) = [] := by simpa [pieces] using hp
  unfold changeGatePosition resizeTrack
  split
  · exact h
  · split
    · exact f.resize hc hpc _ (filterMap_resize hpc _).1
    · exact f.resize hc hpc _ (filterMap_resize hpc _).2

theorem applyGeometry_of (w : StoreWork I) (f : ShapeFree I) (h : I s) (hp : pieces s = []) (a b : Geometry) :
    I (applyGeometry a b s) := by
  have hc : I (if changesCount a b then restartCount s else s) ∧
      pieces (if changesCount a b then restartCount s else s) = [] := by
    split
    · exact ⟨restartCount_of w.toQuiet f h hp, by simpa [pieces] using hp⟩
    · exact ⟨h, hp⟩
  have hg := changeGatePosition_of w f hc.1 hc.2 a.gate b.gate
  unfold applyGeometry
  dsimp only
  split
  · exact hg
  · exact w.verify hg 0 (Nat.zero_le _)

/-- A new geometry, for an invariant that the geometry set and its effects keep. -/
theorem setGeometry_of (w : StoreWork I) (f : ShapeFree I) (g : Geometry)
    (h : I (s.setSetup { s.setup with geometry := some g })) (hopen : setupOpen s = true) (p : Port) (num : Byte) :
    I (applyGeometry (geometryItems s) g (accept p num (s.setSetup { s.setup with geometry := some g }))) :=
  have ha := w.accept h p num
  have hp : pieces (accept p num (s.setSetup { s.setup with geometry := some g })) = [] := by
    simpa [pieces] using pieces_of_setupOpen hopen
  applyGeometry_of w f ha hp (geometryItems s) g

end NewGeometry

end Sys2Proof.Machine

/-! The invariants that no operation breaks on its way: the stop latch and HALT, no piece outside REGISTERED, the ranges and
capacities, the bays and the bundle table, and the count, the track's length and the confirms. -/

namespace Sys2Proof.Machine

/-- `I` is kept by every change of the store, of the carrier unit and of the records in the track. -/
structure Free (I : State → Prop) : Prop extends StoreFree I, TrackFree I, CarrierFree I where
  createBundle : ∀ {s}, I s → ∀ n h, BayFits n h s → I (createBundle n h s)
  putPiece : ∀ {s}, I s → s.reg.state = .registered → ∀ x, I (setEntryAt 0 (.piece x) s)
  advance : ∀ {s}, I s → (∃ g, s.setup.geometry = some g) → I (advanceTrack s)
  powerOn : ∀ {s}, I s → I (powerOnState s)
  restarted : ∀ {s}, I s → I (restartedState s)

namespace Free

variable {I : State → Prop} {s : State}

theorem entryFree (f : Free I) : EntryFree I where
  toStoreFree := f.toStoreFree
  createBundle := f.createBundle
  putPiece := f.putPiece
  putEmpty h _ he := f.toTrackFree.clearEntry h 0 he
  issue h _ hroom tag r := by
    refine f.post (f.carrier h _ ⟨fun _ => ?_, .inr rfl⟩) _ _
    simpa using Nat.succ_le_of_lt hroom

theorem purgeTrack (f : Free I) (h : I s) : I (purgeTrack s) := purgeTrack_of_free f.toStoreFree f.toTrackFree h

theorem loseRegistration (f : Free I)
    (h : I (s.setReg { s.reg with state := .lost, faultWindow := none, goodMarks := 0, chainClearPending := true })) :
    I (loseRegistration s) :=
  loseRegistration_of f.toQuiet h f.purgeTrack f.toCarrierFree.enterHold

/-- A free invariant is kept by every step that keeps it through the loss of registration and a new geometry. -/
theorem work (f : Free I)
    (hlose : ∀ {s}, I s → s.reg.state = .registered → I (Machine.loseRegistration s))
    (hgeometry : ∀ {s}, I s → ∀ g p num, setupOpen s = true → geometryAgrees g s = true →
      I (applyGeometry (geometryItems s) g (accept p num (s.setSetup { s.setup with geometry := some g })))) :
    Work I I where
  toStoreWork := f.toStoreFree.work
  done h := h
  after := f.toQuiet
  loseRegistration := hlose
  enterHold h := f.toCarrierFree.enterHold h
  reportPrinted h _ := f.toCarrierFree.reportPrinted h
  reportSpoiled h _ := f.toCarrierFree.reportSpoiled h
  reportWithdrawn h _ := f.toCarrierFree.reportWithdrawn h
  reportLate h _ := f.toCarrierFree.reportLate h
  runCarrier h _ := f.toCarrierFree.shrink h _ le_rfl rfl
  dumpPhase h := f.toCarrierFree.dumpPhase h
  applyPhase h := f.toCarrierFree.applyPhase h
  issueBoundary h n order hn :=
    issueBoundary_of f.toQuiet f.advance f.entryFree.entryEvent f.toCarrierFree.settleCarrier
      (dispositionBoundary_of f.toStoreFree.work fun h hd => takeArrival_of_free f.toStoreFree f.toTrackFree h hd)
      h n order hn
  powerOn := f.powerOn
  restarted := f.restarted
  setGeometry := hgeometry

end Free

/-! ## The stop latch and the entry gate -/

theorem stopHalts_free : Free StopHalts where
  pins h _ := h
  pending h _ := h
  calls h _ := h
  free h _ := h
  link h _ _ := h
  claim h _ := h
  gate h _ hg hs := ⟨fun hl => absurd (h.mp hl) hs, fun e => absurd e hg⟩
  latch _ := ⟨fun _ => rfl, fun _ => rfl⟩
  unlatch _ := ⟨(nomatch ·), (nomatch ·)⟩
  fault h x hx := by
    show x.stopLatch = true ↔ _
    rw [hx.latch]
    exact h
  stations h _ := h
  lines h _ _ := h
  verify h _ _ := h
  entry h _ _ := h
  reg h _ _ := h
  disp h _ _ := h
  track h _ _ := h
  bundle h _ _ _ := h
  removeBundle h _ := h
  job h _ _ _ _ := h
  store h _ _ := h
  loss h _ _ := h
  carrier h _ _ := h
  orders h _ _ := h
  anyLines h _ := h
  createBundle h _ _ _ := h
  putPiece h _ _ := h
  advance h _ := h
  powerOn _ := ⟨(nomatch ·), (nomatch ·)⟩
  restarted _ := ⟨(nomatch ·), (nomatch ·)⟩

theorem stopHalts_work : Work StopHalts StopHalts :=
  stopHalts_free.work (fun h _ => stopHalts_free.loseRegistration h) fun h g p num ho _ =>
    setGeometry_of stopHalts_free.toStoreFree.work ⟨fun h _ => h, fun h _ _ _ => h⟩ g h ho p num

/-! ## No piece outside REGISTERED -/

theorem no_pieces_iff (t : List TrackEntry) :
    t.filterMap pieceOf = [] ↔ ∀ (p : Nat) (y : Piece), t[p]? ≠ some (.piece y) := by
  rw [List.filterMap_eq_nil_iff]
  constructor
  · intro h p y hp
    exact absurd (h _ (List.mem_of_getElem? hp)) (by simp [pieceOf])
  · intro h e he
    obtain ⟨p, hp⟩ := List.getElem?_of_mem he
    cases e with
    | piece y => exact absurd hp (h p y)
    | _ => rfl

/-- Entries alike in what is read of their pieces are alike in holding one. -/
theorem no_pieces_of_map {β : Type} {t x : List TrackEntry} {g : TrackEntry → Option β}
    (hg : ∀ e, g e = none ↔ pieceOf e = none) (h : x.map g = t.map g) (ht : t.filterMap pieceOf = []) :
    x.filterMap pieceOf = [] := by
  rw [List.filterMap_eq_nil_iff] at ht ⊢
  intro e he
  obtain ⟨a, ha, hae⟩ := List.mem_map.mp (h ▸ List.mem_map_of_mem he : g e ∈ t.map g)
  rw [← hg, ← hae, hg]
  exact ht a ha

theorem essence_eq_none_iff (e : TrackEntry) : essence e = none ↔ pieceOf e = none := by simp [essence]

theorem recordEssence_eq_none_iff (e : TrackEntry) : recordEssence e = none ↔ pieceOf e = none := by
  simp [recordEssence]

theorem no_pieces_of_loss {t x : List TrackEntry} (h : TrackLoss t x) (ht : t.filterMap pieceOf = []) :
    x.filterMap pieceOf = [] := by
  rw [no_pieces_iff] at ht ⊢
  intro p y hp
  obtain ⟨z, hz⟩ := h.2 p y hp
  exact ht p z hz

theorem no_pieces_advance {t : List TrackEntry} (ht : t.filterMap pieceOf = []) :
    (TrackEntry.empty none 0 :: t.dropLast).filterMap pieceOf = [] := by
  rw [List.filterMap_eq_nil_iff] at ht ⊢
  intro e he
  rcases List.mem_cons.mp he with rfl | he
  · rfl
  · exact ht e (List.mem_of_mem_dropLast he)

theorem noPieces_free : Free NoPiecesUnlessRegistered where
  pins h _ := h
  pending h _ := h
  calls h _ := h
  free h _ := h
  link h _ _ := h
  claim h _ := h
  gate h _ _ _ := h
  latch h := h
  unlatch h := h
  fault h _ _ := h
  stations h _ := h
  lines h _ _ := h
  verify h _ _ := h
  entry h _ _ := h
  reg h x hx hs := by
    rcases hx.state with e | e
    · exact h (e ▸ hs)
    · exact h e
  disp h _ _ := h
  track h _ hx hs := no_pieces_of_map essence_eq_none_iff hx (h hs)
  bundle h _ _ _ := h
  removeBundle h _ := h
  job h _ _ _ _ := h
  store h _ _ := h
  loss h _ hx hs := no_pieces_of_loss hx (h hs)
  carrier h _ _ := h
  orders h _ hx hs := no_pieces_of_map recordEssence_eq_none_iff hx (h hs)
  anyLines h _ := h
  createBundle h _ _ _ := h
  putPiece _ hr _ hs := absurd hr hs
  advance h _ hs := no_pieces_advance (h hs)
  powerOn _ _ := rfl
  restarted {s} _ _ := by
    show (restartedTrack s.setup).filterMap pieceOf = []
    unfold restartedTrack
    split
    · rfl
    · exact List.filterMap_eq_nil_iff.mpr fun e he => by rw [List.eq_of_mem_replicate he]; rfl

/-- The purge leaves no piece in the track (R80). -/
theorem pieces_purgeTrack (s : State) : pieces (purgeTrack s) = [] := by
  have ht : (purgeTrack s).track = s.track.map purgedEntry := by simp [purgeTrack]
  rw [pieces, ht]
  refine List.filterMap_eq_nil_iff.mpr fun e he => ?_
  obtain ⟨a, -, rfl⟩ := List.mem_map.mp he
  cases a <;> rfl

/-- The track holds no piece: what the operations of the carrier unit keep. -/
theorem trackEmpty_carrierFree : CarrierFree fun s => pieces s = [] where
  pins h _ := h
  pending h _ := h
  calls h _ := h
  free h _ := h
  link h _ _ := h
  claim h _ := h
  gate h _ _ _ := h
  latch h := h
  unlatch h := h
  fault h _ _ := h
  stations h _ := h
  lines h _ _ := h
  verify h _ _ := h
  entry h _ _ := h
  reg h _ _ := h
  disp h _ _ := h
  track h _ hx := no_pieces_of_map essence_eq_none_iff hx h
  bundle h _ _ _ := h
  removeBundle h _ := h
  job h _ _ _ _ := h
  carrier h _ _ := h
  orders h _ hx := no_pieces_of_map recordEssence_eq_none_iff hx h
  anyLines h _ := h

/-- After the loss of registration the track holds no piece (R14, R80). -/
theorem pieces_loseRegistration (s : State) : pieces (loseRegistration s) = [] :=
  trackEmpty_carrierFree.enterHold (trackEmpty_carrierFree.raise (pieces_purgeTrack _) _) _

theorem noPieces_work : Work NoPiecesUnlessRegistered NoPiecesUnlessRegistered :=
  noPieces_free.work (fun _ _ _ => pieces_loseRegistration _) fun h g p num ho _ =>
    setGeometry_of noPieces_free.toStoreFree.work ⟨fun _ hp _ => hp, fun _ _ _ hx _ => hx⟩ g h ho p num

/-- Settles O53: both are kept by every change that a step is made of. -/
theorem stepKeepsHaltWithTheLatchAndPiecesRegistered :
    Obligations.StepKeepsHaltWithTheLatchAndPiecesRegistered :=
  ⟨fun _ _ => stopHalts_work.step, fun _ _ => noPieces_work.step⟩

/-! ## The bays and the bundle table -/

/-- A change that leaves each bundle's number and bay. -/
theorem baysMatch_map {s : State} {f : Bundle → Bundle} (hn : ∀ b, (f b).number = b.number)
    (hb : ∀ b, (f b).bay = b.bay) (h : BaysMatchTable s) :
    BaysMatchTable (s.setBundles { s.bundles with table := s.bundles.table.map f }) := by
  obtain ⟨hasc, hmatch⟩ := h
  refine ⟨?_, fun bay n => (hmatch bay n).trans ?_⟩
  · have hnum : (s.bundles.table.map f).map Bundle.number = s.bundles.table.map Bundle.number := by
      simp [List.map_map, Function.comp_def, hn]
    simpa [bundleNumbers, hnum] using hasc
  · simp [hn, hb]

theorem baysMatch_update {s : State} {f : Bundle → Bundle} (hf : BundleMove f) (n : Nat) (h : BaysMatchTable s) :
    BaysMatchTable (updateBundle n f s) := by
  refine baysMatch_map (f := fun b => if b.number = n then f b else b) (fun b => ?_) (fun b => ?_) h
  · split
    · exact hf.number b
    · rfl
  · split
    · exact hf.bay b
    · rfl

theorem getElem_mapVector {α β : Type} {n : Nat} (f : α → β) (v : Vector α n) (i : Nat) (hi : i < n) :
    (mapVector f v)[i] = f v[i] := by
  simp [mapVector]

theorem baysMatch_remove {s : State} (n : Nat) (h : BaysMatchTable s) : BaysMatchTable (removeBundle n s) := by
  obtain ⟨hasc, hmatch⟩ := h
  refine ⟨?_, fun bay m => ?_⟩
  · exact hasc.sublist (List.filter_sublist.map _)
  · have hbay : (removeBundle n s).bundles.bays[bay] = some m ↔ s.bundles.bays[bay] = some m ∧ m ≠ n := by
      simp only [removeBundle, State.setBundles_bundles, Fin.getElem_fin, getElem_mapVector]
      split
      · next e => simp [e]; exact fun e => e.symm
      · next e =>
        refine ⟨fun hm => ⟨hm, fun hmn => e (hmn ▸ hm)⟩, fun hm => hm.1⟩
    rw [hbay, hmatch]
    simp only [removeBundle, State.setBundles_bundles, List.mem_filter, decide_eq_true_eq]
    constructor
    · rintro ⟨⟨b, hb, rfl, hat⟩, hne⟩
      exact ⟨b, ⟨hb, hne⟩, rfl, hat⟩
    · rintro ⟨b, ⟨hb, hne⟩, rfl, hat⟩
      exact ⟨⟨b, hb, rfl, hat⟩, hne⟩

theorem mem_insertBundle (b c : Bundle) (l : List Bundle) : c ∈ insertBundle b l ↔ c = b ∨ c ∈ l := by
  induction l with
  | nil => simp [insertBundle]
  | cons d rest ih =>
    unfold insertBundle
    split
    · simp
    · simp [ih, or_left_comm]

theorem ascending_insertBundle {b : Bundle} {l : List Bundle} (hl : (l.map Bundle.number).Pairwise (· < ·))
    (hb : ∀ c ∈ l, c.number ≠ b.number) : ((insertBundle b l).map Bundle.number).Pairwise (· < ·) := by
  rw [List.pairwise_map] at hl ⊢
  induction l with
  | nil => simp [insertBundle]
  | cons d rest ih =>
    obtain ⟨hd, hrest⟩ := List.pairwise_cons.mp hl
    unfold insertBundle
    split
    · next hlt =>
      refine List.pairwise_cons.mpr ⟨fun c hc => ?_, hl⟩
      rcases List.mem_cons.mp hc with rfl | hc
      · exact hlt
      · exact hlt.trans (hd c hc)
    · next hge =>
      refine List.pairwise_cons.mpr ⟨fun c hc => ?_, ih hrest fun c hc => hb c (List.mem_cons_of_mem d hc)⟩
      rcases (mem_insertBundle b c rest).mp hc with rfl | hc
      · exact lt_of_le_of_ne (Nat.le_of_not_lt hge) (hb d List.mem_cons_self)
      · exact hd c hc

theorem findBundle_eq_none_iff {n : Nat} {s : State} :
    findBundle n s = none ↔ ∀ b ∈ s.bundles.table, b.number ≠ n := by
  simp [findBundle, List.find?_eq_none]

theorem baysMatch_create {s : State} {n : Nat} {x : Fin 16} (hx : BayFits n x s) (h : BaysMatchTable s) :
    BaysMatchTable (createBundle n x s) := by
  obtain ⟨hasc, hmatch⟩ := h
  obtain ⟨hnew, hfree⟩ := hx
  rw [findBundle_eq_none_iff] at hnew
  refine ⟨ascending_insertBundle hasc hnew, fun bay m => ?_⟩
  have hbays : (createBundle n x s).bundles.bays[bay] = if x = bay then some n else s.bundles.bays[bay] := by
    simp [createBundle, Vector.getElem_set, Fin.ext_iff]
  have hmem (b : Bundle) : b ∈ (createBundle n x s).bundles.table ↔ b = newBundle n x s ∨ b ∈ s.bundles.table :=
    mem_insertBundle _ _ _
  rw [hbays]
  simp only [hmem]
  split
  · next e =>
    subst e
    constructor
    · rintro ⟨⟩
      exact ⟨_, .inl rfl, rfl, rfl⟩
    · rintro ⟨b, rfl | hb, rfl, hbay⟩
      · rfl
      · have := (hmatch x b.number).mpr ⟨b, hb, rfl, hbay⟩
        rw [hfree] at this
        cases this
  · next e =>
    rw [hmatch]
    constructor
    · rintro ⟨b, hb, hnum, hbay⟩
      exact ⟨b, .inr hb, hnum, hbay⟩
    · rintro ⟨b, rfl | hb, hnum, hbay⟩
      · exact absurd (Fin.ext hbay) e
      · exact ⟨b, hb, hnum, hbay⟩

theorem baysMatch_reset {s : State} (h : s.bundles = .powerOn) : BaysMatchTable s := by
  constructor
  · simp [bundleNumbers, h, BundleUnit.powerOn]
  · intro bay n
    simp [h, BundleUnit.powerOn]

theorem baysMatch_free : Free BaysMatchTable where
  pins h _ := h
  pending h _ := h
  calls h _ := h
  free h _ := h
  link h _ _ := h
  claim h _ := h
  gate h _ _ _ := h
  latch h := h
  unlatch h := h
  fault h _ _ := h
  stations h _ := h
  lines h _ _ := h
  verify h _ _ := h
  entry h _ _ := h
  reg h _ _ := h
  disp h _ _ := h
  track h _ _ := h
  bundle h n _ hf := baysMatch_update hf n h
  removeBundle h n := baysMatch_remove n h
  job h _ _ _ _ := h
  store h _ _ := h
  loss h _ _ := h
  carrier h _ _ := h
  orders h _ _ := h
  anyLines h _ := h
  createBundle h _ _ hx := baysMatch_create hx h
  putPiece h _ _ := h
  advance h _ := h
  powerOn _ := baysMatch_reset rfl
  restarted _ := baysMatch_reset rfl

theorem baysMatch_work : Work BaysMatchTable BaysMatchTable :=
  baysMatch_free.work (fun h _ => baysMatch_free.loseRegistration h) fun h g p num ho _ =>
    setGeometry_of baysMatch_free.toStoreFree.work ⟨fun h _ => h, fun h _ _ _ => h⟩ g h ho p num

/-- Settles O60: bundles are created under a new number in a free bay, and leave with their bay. -/
theorem stepKeepsBaysAndTableTogether : Obligations.StepKeepsBaysAndTableTogether :=
  fun _ _ => baysMatch_work.step

end Sys2Proof.Machine

/-! The capacities, the ranges of the counters and the allowed actions (O58), and the track's length, the count and the
confirms (O59). -/

namespace Sys2Proof.Machine

/-! ## Ranges -/

def LinkRange (l : LinkUnit) : Prop := ∀ p, (portGet l.ports p).tx.length ≤ 32

def StoreRange (c : Store) : Prop := c.lane.length ≤ 16 ∧ c.textUsed ≤ 131072

def CarrierRange (c : CarrierUnit) : Prop := c.queue.length ≤ 96 ∧ 1 ≤ c.nextOrder ∧ c.nextOrder ≤ 16777215

def EntryRange (e : EntryUnit) : Prop := (1 ≤ e.nextTag ∧ e.nextTag ≤ 65535) ∧ e.lockout.length ≤ 32

def RegRange (r : Registration) : Prop := r.goodMarks ≤ 2 ∧ ∀ n, r.faultWindow = some n → n ≤ 7

/-- The capacities, the ranges of the counters and the allowed actions, block by block. -/
def Ranges (s : State) : Prop :=
  LinkRange s.link ∧ StoreRange s.store ∧ CarrierRange s.carrier ∧ EntryRange s.entry ∧ s.verify.mismatchRun ≤ 1 ∧
    RegRange s.reg ∧ FaultRanges s.fault ∧ FaultActions s.fault ∧ ∀ b ∈ s.bundles.table, BundleInRange b

theorem ranges_iff (s : State) : Ranges s ↔ WithinCapacity s ∧ CountersInRange s ∧ ActionsAllowed s := by
  constructor
  · rintro ⟨hlink, ⟨hlane, htext⟩, ⟨hqueue, horder⟩, ⟨htag, hlock⟩, hrun, ⟨hmarks, hwindow⟩, ⟨hcounts, hstop, hrej⟩,
      hact, hb⟩
    refine ⟨⟨hlink, hlane, hqueue, htext, hlock⟩, ⟨htag, horder, hrun, hmarks, hwindow, hcounts, fun c l hl => ?_, hb⟩,
      hact⟩
    cases c with
    | stop => exact hstop l hl
    | reject => exact hrej l hl
  · rintro ⟨⟨hlink, hlane, hqueue, htext, hlock⟩, ⟨htag, horder, hrun, hmarks, hwindow, hcounts, hlogs, hb⟩, hact⟩
    exact ⟨hlink, ⟨hlane, htext⟩, ⟨hqueue, horder⟩, ⟨htag, hlock⟩, hrun, ⟨hmarks, hwindow⟩,
      ⟨hcounts, hlogs .stop, hlogs .reject⟩, hact, hb⟩

theorem orderAfter_range {n : Nat} (h : 1 ≤ n ∧ n ≤ 16777215) : 1 ≤ orderAfter n ∧ orderAfter n ≤ 16777215 := by
  unfold orderAfter Config.lastOrderNumber
  split <;> omega

theorem carrierRange_of_move {c x : CarrierUnit} (hx : CarrierMove c x) (h : CarrierRange c) : CarrierRange x := by
  refine ⟨hx.room h.1, ?_⟩
  rcases hx.number with e | e
  · rw [e]
    exact h.2
  · rw [e]
    exact orderAfter_range h.2

theorem bundleInRange_new (n : Nat) (x : Fin 16) (s : State) : BundleInRange (newBundle n x s) :=
  ⟨Nat.zero_le _, Nat.zero_le _, Nat.zero_le _, fun _ e => nomatch e⟩

theorem faultActions_powerOn : FaultActions FaultUnit.powerOn := by
  intro k
  cases k <;> rfl

theorem ranges_reset : Ranges State.reset := by
  refine ⟨fun p => ?_, ⟨Nat.zero_le _, Nat.zero_le _⟩, ⟨Nat.zero_le _, le_rfl, by decide⟩,
    ⟨⟨le_rfl, by decide⟩, Nat.zero_le _⟩, Nat.zero_le _, ⟨Nat.zero_le _, fun _ e => nomatch e⟩,
    ⟨fun k => ?_, fun _ e => (nomatch e), fun _ e => nomatch e⟩, faultActions_powerOn, fun _ e => nomatch e⟩
  · cases p <;> exact Nat.zero_le _
  · cases k <;> exact Nat.zero_le _

theorem ranges_free : Free Ranges where
  pins h _ := h
  pending h _ := h
  calls h _ := h
  free h _ := h
  link h x hx := ⟨fun p => hx p (h.1 p), h.2⟩
  claim h _ := h
  gate h _ _ _ := h
  latch h := h
  unlatch h := h
  fault h x hx := by
    obtain ⟨hl, hs, hc, he, hv, hr, hf, ha, hb⟩ := h
    exact ⟨hl, hs, hc, he, hv, hr, hx.ranges hf, hx.actions ha, hb⟩
  stations h _ := h
  lines h _ _ := h
  verify h _ hn := by
    obtain ⟨hl, hs, hc, he, -, hr⟩ := h
    exact ⟨hl, hs, hc, he, hn, hr⟩
  entry h _ hx := by
    obtain ⟨hl, hs, hc, he, hr⟩ := h
    exact ⟨hl, hs, hc, ⟨hx.tag he.1, hx.lockout he.2⟩, hr⟩
  reg h _ hx := by
    obtain ⟨hl, hs, hc, he, hv, hr, hf⟩ := h
    exact ⟨hl, hs, hc, he, hv, ⟨hx.marks hr.1, hx.window hr.2⟩, hf⟩
  disp h _ _ := h
  track h _ _ := h
  bundle h n f hf := by
    obtain ⟨hl, hs, hc, he, hv, hr, hfr, ha, hb⟩ := h
    refine ⟨hl, hs, hc, he, hv, hr, hfr, ha, fun b hmem => ?_⟩
    obtain ⟨a, ha, rfl⟩ := List.mem_map.mp hmem
    split
    · exact hf.ranges a (hb a ha)
    · exact hb a ha
  removeBundle h n := by
    obtain ⟨hl, hs, hc, he, hv, hr, hfr, ha, hb⟩ := h
    exact ⟨hl, hs, hc, he, hv, hr, hfr, ha, fun b hmem => hb b (List.mem_filter.mp hmem).1⟩
  job h _ _ _ _ := h
  store h x hx := ⟨h.1, ⟨hx.lane h.2.1.1, hx.text h.2.1.2⟩, h.2.2⟩
  loss h _ _ := h
  carrier h x hx := ⟨h.1, h.2.1, carrierRange_of_move hx h.2.2.1, h.2.2.2⟩
  orders h _ _ := h
  anyLines h _ := h
  createBundle h n x _ := by
    obtain ⟨hl, hs, hc, he, hv, hr, hfr, ha, hb⟩ := h
    refine ⟨hl, hs, hc, he, hv, hr, hfr, ha, fun b hmem => ?_⟩
    rcases (mem_insertBundle _ _ _).mp hmem with rfl | hmem
    · exact bundleInRange_new _ _ _
    · exact hb b hmem
  putPiece h _ _ := h
  advance h _ := h
  powerOn _ := ranges_reset
  restarted {s} h := by
    obtain ⟨-, hs, hc, he, hv, hr, hfr, -, hb⟩ := ranges_reset
    obtain ⟨-, -, -, hlock, -, -, -, hact, -⟩ := h
    refine ⟨fun p => ?_, hs, hc, ⟨he.1, hlock.2⟩, hv, hr, hfr, hact, hb⟩
    cases p <;> exact Nat.zero_le _

theorem ranges_lost {s : State} (h : Ranges s) :
    Ranges (s.setReg { s.reg with state := .lost, faultWindow := none, goodMarks := 0, chainClearPending := true }) := by
  obtain ⟨hl, hs, hc, he, hv, -, hf⟩ := h
  exact ⟨hl, hs, hc, he, hv, ⟨Nat.zero_le _, fun _ e => nomatch e⟩, hf⟩

theorem ranges_restart {s : State} (h : Ranges s) : Ranges (s.setReg (restarted s.reg)) := by
  obtain ⟨hl, hs, hc, he, hv, -, hf⟩ := h
  exact ⟨hl, hs, hc, he, hv, ⟨Nat.zero_le _, fun _ e => nomatch e⟩, hf⟩

theorem ranges_work : Work Ranges Ranges :=
  ranges_free.work (fun h _ => ranges_free.loseRegistration (ranges_lost h)) fun h g p num ho _ =>
    setGeometry_of ranges_free.toStoreFree.work ⟨fun h _ => ranges_restart h, fun h _ _ _ => h⟩ g h ho p num

/-! ## Dropped messages -/

theorem dropped_exec {i : Instr} {s t : State} (h : exec i s = .next t) : t.link.dropped = [] := by
  cases i <;> cases h <;> first | exact settle_dropped _ | rfl

theorem dropped_tickClaim {s : State} (h : s.link.dropped = []) : (tickClaim s).link.dropped = [] := by
  unfold tickClaim
  split
  · exact h
  · split
    · exact h
    · exact settle_dropped _

theorem dropped_tickTie {s : State} (h : s.link.dropped = []) (n : Nat) : (tickTie n s).link.dropped = [] := by
  unfold tickTie
  split
  · exact h
  · split
    · exact h
    · exact settle_dropped _

theorem dropped_tickGap {s : State} (h : s.link.dropped = []) (p : Port) : (tickGap p s).link.dropped = [] := by
  unfold tickGap
  split
  · exact h
  · split
    · exact h
    · exact settle_dropped _

theorem foldl_keeps {α β : Type} {P : β → Prop} {f : β → α → β} (hf : ∀ b a, P b → P (f b a)) (l : List α) {b : β}
    (h : P b) : P (l.foldl f b) := by
  induction l generalizing b with
  | nil => exact h
  | cons a l ih => exact ih (hf b a h)

theorem dropped_tick {s : State} (h : s.link.dropped = []) : (tick s).link.dropped = [] :=
  foldl_keeps (P := fun s : State => s.link.dropped = []) (fun _ p h => dropped_tickGap h p) _
    (foldl_keeps (P := fun s : State => s.link.dropped = []) (fun _ n h => dropped_tickTie h n) _ (dropped_tickClaim h))

/-- After a step no LINK_OVERFLOW is left to be taken. -/
theorem dropped_step {s t : State} (hs : s.link.dropped = []) (h : step s = .next t) : t.link.dropped = [] := by
  unfold step at h
  split at h
  · cases h
    exact dropped_tick hs
  · exact dropped_exec h

/-- Settles O58: the ranges block by block, and the end of each event for the dropped messages. -/
theorem stepKeepsCapacitiesAndRanges : Obligations.StepKeepsCapacitiesAndRanges := by
  rintro s t ⟨hcap, hcount, hact, hdrop⟩ hstep
  obtain ⟨hcap', hcount', hact'⟩ :=
    (ranges_iff t).mp (ranges_work.step ((ranges_iff s).mpr ⟨hcap, hcount, hact⟩) hstep)
  exact ⟨hcap', hcount', hact', dropped_step hdrop hstep⟩

/-! ## The track's length, the count and the confirms -/

/-- The geometry in range, and g+1 positions by it or none without one. -/
def TrackOk (s : State) : Prop :=
  GeometryFit s.setup.geometry ∧ s.track.length = (s.setup.geometry.map fun g => g.gate + 1).getD 0

theorem trackFits_iff (s : State) : TrackFitsGeometry s ↔ TrackOk s := by
  unfold TrackFitsGeometry TrackOk GeometryFit
  cases h : s.setup.geometry with
  | none => simp
  | some g => simp

/-- The track fits the geometry, the count its pitch, and the confirms their pitches. -/
def Fits (s : State) : Prop := TrackOk s ∧ CountIn s.setup.geometry s.reg ∧ ConfirmsFit s.disp

theorem fits_iff (s : State) : Fits s ↔ TrackFitsGeometry s ∧ CountWithinPitch s ∧ ConfirmsBounded s := by
  rw [trackFits_iff]
  rfl

theorem length_of_map {β : Type} {t x : List TrackEntry} {g : TrackEntry → β} (h : x.map g = t.map g) :
    x.length = t.length := by
  simpa using congrArg List.length h

theorem countIn_powerOn (geo : Option Geometry) (h : GeometryFit geo) : CountIn geo Registration.powerOn := by
  cases geo with
  | none => exact ⟨rfl, rfl, rfl, rfl⟩
  | some g =>
    obtain ⟨hd, hp, hl, -⟩ := Work.geometryInRange_bounds (h g rfl)
    simp only [CountIn, Registration.powerOn]
    omega

theorem confirmsFit_powerOn : ConfirmsFit Disposition.powerOn := by
  constructor <;> decide

theorem trackOk_free : Free TrackOk where
  pins h _ := h
  pending h _ := h
  calls h _ := h
  free h _ := h
  link h _ _ := h
  claim h _ := h
  gate h _ _ _ := h
  latch h := h
  unlatch h := h
  fault h _ _ := h
  stations h _ := h
  lines h _ _ := h
  verify h _ _ := h
  entry h _ _ := h
  reg h _ _ := h
  disp h _ _ := h
  track h x hx := ⟨h.1, (length_of_map hx).trans h.2⟩
  bundle h _ _ _ := h
  removeBundle h _ := h
  job h _ _ _ _ := h
  store h _ _ := h
  loss h x hx := ⟨h.1, hx.1.trans h.2⟩
  carrier h _ _ := h
  orders h x hx := ⟨h.1, (length_of_map hx).trans h.2⟩
  anyLines h _ := h
  createBundle h _ _ _ := h
  putPiece h _ _ := ⟨h.1, List.length_set.trans h.2⟩
  advance {s} h hg := by
    obtain ⟨g, hg⟩ := hg
    have hlen : s.track.length = g.gate + 1 := by simpa [hg] using h.2
    refine ⟨h.1, ?_⟩
    simp [advanceTrack, hg, hlen]
  powerOn _ := ⟨fun _ e => (nomatch e), rfl⟩
  restarted {s} h := by
    refine ⟨h.1, ?_⟩
    show (restartedTrack s.setup).length = (s.setup.geometry.map fun g => g.gate + 1).getD 0
    unfold restartedTrack
    split
    · next hg => simp [hg]
    · next hg => simp [hg, emptyPositions]

theorem fits_free : Free Fits where
  pins h _ := h
  pending h _ := h
  calls h _ := h
  free h _ := h
  link h _ _ := h
  claim h _ := h
  gate h _ _ _ := h
  latch h := h
  unlatch h := h
  fault h _ _ := h
  stations h _ := h
  lines h _ _ := h
  verify h _ _ := h
  entry h _ _ := h
  reg h _ hx := ⟨h.1, hx.count h.1.1 h.2.1, h.2.2⟩
  disp h _ hx := ⟨h.1, h.2.1, hx h.2.2⟩
  track h x hx := ⟨trackOk_free.track h.1 x hx, h.2⟩
  bundle h _ _ _ := h
  removeBundle h _ := h
  job h _ _ _ _ := h
  store h _ _ := h
  loss h x hx := ⟨trackOk_free.loss h.1 x hx, h.2⟩
  carrier h _ _ := h
  orders h x hx := ⟨trackOk_free.orders h.1 x hx, h.2⟩
  anyLines h _ := h
  createBundle h _ _ _ := h
  putPiece h hr x := ⟨trackOk_free.putPiece h.1 hr x, h.2⟩
  advance h hg := ⟨trackOk_free.advance h.1 hg, h.2⟩
  powerOn h := ⟨trackOk_free.powerOn h.1, ⟨rfl, rfl, rfl, rfl⟩, confirmsFit_powerOn⟩
  restarted h := ⟨trackOk_free.restarted h.1, countIn_powerOn _ h.1.1, confirmsFit_powerOn⟩

theorem fits_lost {s : State} (h : Fits s) :
    Fits (s.setReg { s.reg with state := .lost, faultWindow := none, goodMarks := 0, chainClearPending := true }) :=
  ⟨h.1, Quiet.countIn_congr rfl rfl rfl rfl h.2.1, h.2.2⟩

/-! ## What a new geometry leaves -/

theorem disp_clearGateDue (g : Nat) (s : State) : (clearGateDue g s).disp = { s.disp with gateDue := none } := by
  unfold clearGateDue
  split
  · next h => rw [← h]
  · simp

theorem length_resizeTrack (g : Nat) (s : State) : (resizeTrack g s).track.length = g + 1 := by
  unfold resizeTrack
  split
  · next h => simpa using Nat.le_of_lt h
  · next h =>
    simp only [State.setTrack_track, List.length_append, List.length_map, emptyPositions, List.length_replicate]
    omega

theorem reg_restartCount (s : State) : (restartCount s).reg = restarted s.reg := by
  unfold restartCount
  dsimp only
  split
  · simp [restarted]
  · simp [restarted]

theorem resizeTrack_keeps (g : Nat) (s : State) :
    (resizeTrack g s).reg = s.reg ∧ (resizeTrack g s).setup = s.setup ∧ (resizeTrack g s).disp = s.disp ∧
      (resizeTrack g s).carrier = s.carrier := by
  unfold resizeTrack
  split <;> simp

theorem changeGatePosition_leaves (a b : Nat) (s : State) :
    (changeGatePosition a b s).reg = s.reg ∧ (changeGatePosition a b s).setup = s.setup ∧
      (changeGatePosition a b s).carrier = s.carrier ∧
      (ConfirmsFit s.disp → ConfirmsFit (changeGatePosition a b s).disp) ∧
      (a = b → (changeGatePosition a b s).track = s.track) ∧
      (a ≠ b → (changeGatePosition a b s).track.length = b + 1) := by
  unfold changeGatePosition
  split
  · next h => exact ⟨rfl, rfl, rfl, id, fun _ => rfl, fun hn => absurd h hn⟩
  · next h =>
    obtain ⟨hr, hs, hd, hc⟩ := resizeTrack_keeps b (clearGateDue a s)
    refine ⟨hr.trans (by simp), hs.trans (by simp), hc.trans (by simp), fun hf => ?_, fun e => absurd e h,
      fun _ => length_resizeTrack _ _⟩
    rw [hd, disp_clearGateDue]
    exact ⟨(Nat.add_le_add_left (Nat.zero_le _) _).trans hf.1, hf.2⟩

/-- What the effects of a new geometry leave of a state: the count restarted or as it was, the setup and the carrier unit,
and a track of the new length where g changes. -/
theorem applyGeometry_leaves (a b : Geometry) (s : State) :
    (applyGeometry a b s).reg = (if changesCount a b then restarted s.reg else s.reg) ∧
      (applyGeometry a b s).setup = s.setup ∧ (applyGeometry a b s).carrier = s.carrier ∧
      (ConfirmsFit s.disp → ConfirmsFit (applyGeometry a b s).disp) ∧
      (a.gate = b.gate → (applyGeometry a b s).track = s.track) ∧
      (a.gate ≠ b.gate → (applyGeometry a b s).track.length = b.gate + 1) := by
  have hc : (if changesCount a b then restartCount s else s).reg = (if changesCount a b then restarted s.reg else s.reg) ∧
      (if changesCount a b then restartCount s else s).setup = s.setup ∧
      (if changesCount a b then restartCount s else s).carrier = s.carrier ∧
      (if changesCount a b then restartCount s else s).disp = s.disp ∧
      (if changesCount a b then restartCount s else s).track = s.track := by
    split
    · exact ⟨reg_restartCount s, by simp⟩
    · simp
  obtain ⟨hreg, hsetup, hcar, hdisp, htrack⟩ := hc
  obtain ⟨hreg', hsetup', hcar', hdisp', hsame, hnew⟩ :=
    changeGatePosition_leaves a.gate b.gate (if changesCount a b then restartCount s else s)
  rw [hreg] at hreg'
  rw [hsetup] at hsetup'
  rw [hcar] at hcar'
  rw [hdisp] at hdisp'
  rw [htrack] at hsame
  unfold applyGeometry
  dsimp only
  split
  · exact ⟨hreg', hsetup', hcar', hdisp', hsame, hnew⟩
  · exact ⟨hreg', hsetup', hcar', hdisp', hsame, hnew⟩

theorem geometryInRange_of_agrees {g : Geometry} {s : State} (h : geometryAgrees g s = true) :
    geometryInRange g = true := by
  simp only [geometryAgrees, Bool.and_eq_true] at h
  exact h.1.1.1

/-- A geometry with the pitch, the chain length and the divider of another counts alike. -/
theorem same_count_of_not_changes {a b : Geometry} (h : changesCount a b = false) :
    a.pitch = b.pitch ∧ a.chainLength = b.chainLength ∧ a.divider = b.divider := by
  simpa [changesCount, and_assoc] using h

theorem trackOk_setGeometry {s : State} (h : TrackOk s) {g : Geometry} (hg : geometryInRange g = true) (p : Port)
    (num : Byte) :
    TrackOk (applyGeometry (geometryItems s) g (accept p num (s.setSetup { s.setup with geometry := some g }))) := by
  obtain ⟨-, -, -, -, hgate, -⟩ := Work.geometryInRange_bounds hg
  obtain ⟨-, hsetup, -, -, hsame, hnew⟩ := applyGeometry_leaves (geometryItems s) g
    (accept p num (s.setSetup { s.setup with geometry := some g }))
  generalize applyGeometry (geometryItems s) g (accept p num (s.setSetup { s.setup with geometry := some g })) = t at *
  simp only [accept_keeps, State.setSetup_setup, State.setSetup_track] at *
  unfold TrackOk
  rw [hsetup]
  refine ⟨fun g' e => Option.some.inj e ▸ hg, ?_⟩
  by_cases he : (geometryItems s).gate = g.gate
  · rw [hsame he, h.2]
    cases hgeo : s.setup.geometry with
    | none =>
      simp only [geometryItems, hgeo, Option.getD_none, Geometry.powerOn] at he
      omega
    | some a =>
      simp only [geometryItems, hgeo, Option.getD_some] at he
      simp [he]
  · exact hnew he

theorem countIn_setGeometry {s : State} (h : CountIn s.setup.geometry s.reg) {g : Geometry}
    (hg : geometryInRange g = true) :
    CountIn (some g) (if changesCount (geometryItems s) g then restarted s.reg else s.reg) := by
  obtain ⟨hd, hp, hl, -⟩ := Work.geometryInRange_bounds hg
  split
  · simp only [CountIn, restarted]
    omega
  · next hc =>
    obtain ⟨hpitch, hchain, hdiv⟩ := same_count_of_not_changes (Bool.not_eq_true _ ▸ hc)
    cases hgeo : s.setup.geometry with
    | none =>
      simp only [geometryItems, hgeo, Option.getD_none, Geometry.powerOn] at hpitch
      omega
    | some a =>
      simp only [geometryItems, hgeo, Option.getD_some] at hpitch hchain hdiv
      rw [hgeo] at h
      simpa only [CountIn, hpitch, hchain, hdiv] using h

theorem fits_setGeometry {s : State} (h : Fits s) {g : Geometry} (hg : geometryInRange g = true) (p : Port)
    (num : Byte) :
    Fits (applyGeometry (geometryItems s) g (accept p num (s.setSetup { s.setup with geometry := some g }))) := by
  obtain ⟨htrack, hcount, hconf⟩ := h
  obtain ⟨hreg, hsetup, -, hdisp, -⟩ := applyGeometry_leaves (geometryItems s) g
    (accept p num (s.setSetup { s.setup with geometry := some g }))
  refine ⟨trackOk_setGeometry htrack hg p num, ?_, hdisp (by simpa using hconf)⟩
  rw [hsetup, hreg]
  simpa using countIn_setGeometry hcount hg

theorem trackOk_work : Work TrackOk TrackOk :=
  trackOk_free.work (fun h _ => trackOk_free.loseRegistration h) fun h _ p num _ ha =>
    trackOk_setGeometry h (geometryInRange_of_agrees ha) p num

theorem fits_work : Work Fits Fits :=
  fits_free.work (fun h _ => fits_free.loseRegistration (fits_lost h)) fun h _ p num _ ha =>
    fits_setGeometry h (geometryInRange_of_agrees ha) p num

/-- Settles O59: the three are kept together, since the count's range rests on a geometry in range. -/
theorem stepKeepsTrackCountAndConfirms : Obligations.StepKeepsTrackCountAndConfirms := by
  intro s t h hstep
  rw [← fits_iff] at h ⊢
  exact fits_work.step h hstep

end Sys2Proof.Machine


/-! What taking a fault does (R24, R151 to R157): one equation for each of its parts, the messages it queues where there
is room, and the obligation about it. -/

namespace Sys2Proof.Machine

/-! ## Messages to several ports -/

theorem txQueue_postTo_of_room {ps : List Port} {f : Frame} {s : State} (hnd : ps.Nodup)
    (h : ∀ p ∈ ps, txHasRoom p s = true) (q : Port) :
    txQueue q (postTo ps f s) = txQueue q s ++ if q ∈ ps then [f] else [] := by
  rw [postTo_of_room ps f s hnd h, txQueue_foldAppended q f ps hnd]

theorem Roomy.postTo {n : Nat} {s : State} (h : Roomy (n + 1) s) {ps : List Port} (hnd : ps.Nodup) (f : Frame) :
    Roomy n (postTo ps f s) := by
  rw [postTo_of_room ps f s hnd fun p _ => h.hasRoom p]
  exact Roomy.foldAppended f ps hnd h

theorem Roomy.post {n : Nat} {s : State} (h : Roomy (n + 1) s) (p : Port) (f : Frame) : Roomy n (post p f s) := by
  rw [post_of_roomy h]
  exact h.appended p f

theorem mem_allPorts (p : Port) : p ∈ allPorts := by cases p <;> decide

theorem mem_stateSubscribers {p : Port} {s : State} : p ∈ stateSubscribers s ↔ (subscription p s).state = true := by
  simp [stateSubscribers, mem_allPorts]

theorem mem_logSubscribers {c : LogClass} {p : Port} {s : State} :
    p ∈ logSubscribers c s ↔
      (match c with | .stop => (subscription p s).stop | .reject => (subscription p s).reject) = true := by
  cases c <;> simp [logSubscribers, mem_allPorts]

/-- What is queued is a matter of the link unit alone. -/
theorem link_post_congr (p : Port) (f : Frame) {s t : State} (h : s.link = t.link) :
    (post p f s).link = (post p f t).link := by
  have hroom : txHasRoom p s = txHasRoom p t := by rw [txHasRoom, txHasRoom, txQueue, txQueue, portState, portState, h]
  cases hr : txHasRoom p t with
  | true => rw [post_of_room hr, post_of_room (hroom.trans hr)]; simp [setPortState, txQueue, portState, h]
  | false => rw [post_of_full hr, post_of_full (hroom.trans hr)]; simp [h]

theorem link_postTo_congr (ps : List Port) (f : Frame) {s t : State} (h : s.link = t.link) :
    (postTo ps f s).link = (postTo ps f t).link := by
  induction ps generalizing s t with
  | nil => exact h
  | cons p ps ih => exact ih (link_post_congr p f h)

/-! ## The parts of a fault -/

/-- A kind count one higher, where it is below its limit (R151 step 2). -/
def countedOne (n : Nat) : Nat := if n < 65535 then n + 1 else n

/-- A log after one fault more of its class (R157). -/
def loggedOne (f : FaultRecord) : Option FaultLog → FaultLog
  | none => { record := f, next := 0 }
  | some l => { l with next := if l.next < 255 then l.next + 1 else l.next }

theorem countFault_eq (k : FaultKind) (s : State) :
    countFault k s = s.setFault { s.fault with
      counts := s.fault.counts.set (kindIndex k) (countedOne s.fault.counts[kindIndex k]) } := by
  unfold countFault countedOne
  by_cases h : s.fault.counts[kindIndex k] < 65535
  · have h' : s.fault.counts[kindIndex k] < Config.countLimit := h
    simp only [h, h', if_true]
  · have h' : ¬s.fault.counts[kindIndex k] < Config.countLimit := h
    simp only [h, h', if_false]
    have hset : s.fault.counts.set (kindIndex k) s.fault.counts[kindIndex k] = s.fault.counts :=
      Vector.set_getElem_self _
    rw [hset]
    rfl

theorem steerFault_eq (k : FaultKind) (s : State) :
    steerFault k s = s.setFault { s.fault with
      alarm := s.fault.alarm || (decide (steeringOf k s = .alarm) && !s.fault.maskAlarm)
      slow := s.fault.slow || (decide (steeringOf k s = .slow) && !s.fault.maskSlow) } := by
  unfold steerFault
  cases steeringOf k s with
  | none => simp; rfl
  | alarm =>
    by_cases hm : s.fault.maskAlarm = true
    · simp only [hm, if_true, Bool.not_true, Bool.and_false, Bool.or_false, reduceCtorEq, decide_false, Bool.false_and]
      rw [← hm]
      rfl
    · simp [hm]
  | slow =>
    by_cases hm : s.fault.maskSlow = true
    · simp only [hm, if_true, Bool.not_true, Bool.and_false, Bool.or_false, reduceCtorEq, decide_false, Bool.false_and]
      rw [← hm]
      rfl
    · simp [hm]

theorem fault_enterLog (c : LogClass) (f : FaultRecord) (s : State) :
    (enterLog c f s).fault = (setLog c (some (loggedOne f (logOf c s))) s).fault := by
  unfold enterLog
  cases h : logOf c s with
  | none => simp [loggedOne]
  | some l => rfl

theorem enterLog_of_held {c : LogClass} {f : FaultRecord} {s : State} {l : FaultLog} (h : logOf c s = some l) :
    (enterLog c f s).link = s.link := by
  simp [enterLog, h]

theorem link_enterLog_of_empty {c : LogClass} {f : FaultRecord} {s : State} (h : logOf c s = none) :
    (enterLog c f s).link = (postTo (logSubscribers c s) (alertFrame c f) s).link := by
  simp only [enterLog, h]
  exact link_postTo_congr _ _ (by simp)

theorem fault_setStopLatch (s : State) : (setStopLatch s).fault = { s.fault with stopLatch := true } := by
  unfold setStopLatch
  cases h : s.fault.stopLatch with
  | true => rw [if_pos rfl, ← h]
  | false => simp

theorem run_changeGate (g : GateState) (s : State) : (changeGate g s).run = { s.run with gate := g } := by
  unfold changeGate
  split
  · next h => rw [← h]
  · simp

theorem run_setStopLatch (s : State) :
    (setStopLatch s).run = { s.run with gate := if s.fault.stopLatch = false then .halt else s.run.gate } := by
  unfold setStopLatch
  cases h : s.fault.stopLatch with
  | true => rfl
  | false => simp [run_changeGate]

/-- A taken fault counted and steered, before its action (R151 steps 2 and 3). -/
def countedAndSteered (k : FaultKind) (s : State) : State := steerFault k (countFault k s)

theorem raise_of_off {f : FaultRecord} {s : State} (h : actionOf f.kind s = .off) : raise f s = s := by
  simp [raise, h]

theorem raise_of_not_off {f : FaultRecord} {s : State} (h : actionOf f.kind s ≠ .off) :
    raise f s = logAndStop (actionOf f.kind s) f (countedAndSteered f.kind s) := by
  unfold raise countedAndSteered
  split
  · exact absurd ‹_› h
  · rfl

theorem countedAndSteered_eq (k : FaultKind) (s : State) :
    countedAndSteered k s = s.setFault { s.fault with
      counts := s.fault.counts.set (kindIndex k) (countedOne s.fault.counts[kindIndex k])
      alarm := s.fault.alarm || (decide (steeringOf k s = .alarm) && !s.fault.maskAlarm)
      slow := s.fault.slow || (decide (steeringOf k s = .slow) && !s.fault.maskSlow) } := by
  rw [countedAndSteered, steerFault_eq, countFault_eq]
  rfl

/-- What the action of a taken fault leaves of the fault unit, its log and its latch apart (R151 steps 4 and 5). -/
theorem fault_logAndStop (a : Action) (f : FaultRecord) (s : State) :
    (logAndStop a f s).fault = { s.fault with
      stopLatch := s.fault.stopLatch || decide (a = .stop)
      stopLog := if a = .stop then some (loggedOne f s.fault.stopLog) else s.fault.stopLog
      rejectLog := if a = .reject then some (loggedOne f s.fault.rejectLog) else s.fault.rejectLog } := by
  cases a with
  | off => simp [logAndStop]
  | note => simp [logAndStop]
  | reject => simp [logAndStop, fault_enterLog, setLog, logOf]
  | stop => simp [logAndStop, fault_setStopLatch, fault_enterLog, setLog, logOf]

theorem run_logAndStop (a : Action) (f : FaultRecord) (s : State) :
    (logAndStop a f s).run = { s.run with
      gate := if a = .stop ∧ s.fault.stopLatch = false then .halt else s.run.gate } := by
  cases a with
  | off => simp [logAndStop]
  | note => simp [logAndStop]
  | reject => simp [logAndStop]
  | stop => simp [logAndStop, run_setStopLatch, fault_enterLog, setLog]

theorem fault_raise {f : FaultRecord} {s : State} (h : actionOf f.kind s ≠ .off) :
    (raise f s).fault = { s.fault with
      counts := s.fault.counts.set (kindIndex f.kind) (countedOne s.fault.counts[kindIndex f.kind])
      alarm := s.fault.alarm || (decide (steeringOf f.kind s = .alarm) && !s.fault.maskAlarm)
      slow := s.fault.slow || (decide (steeringOf f.kind s = .slow) && !s.fault.maskSlow)
      stopLatch := s.fault.stopLatch || decide (actionOf f.kind s = .stop)
      stopLog := if actionOf f.kind s = .stop then some (loggedOne f s.fault.stopLog) else s.fault.stopLog
      rejectLog := if actionOf f.kind s = .reject then some (loggedOne f s.fault.rejectLog)
        else s.fault.rejectLog } := by
  rw [raise_of_not_off h, fault_logAndStop, countedAndSteered_eq]
  rfl

theorem run_raise (f : FaultRecord) (s : State) :
    (raise f s).run = { s.run with
      gate := if actionOf f.kind s = .stop ∧ s.fault.stopLatch = false then .halt else s.run.gate } := by
  by_cases h : actionOf f.kind s = .off
  · simp [raise_of_off h, h]
  · rw [raise_of_not_off h, run_logAndStop, countedAndSteered_eq]
    rfl

/-- The kind counts after a fault (R151 step 2, R160). -/
theorem counts_raise {f : FaultRecord} {s : State} (h : actionOf f.kind s ≠ .off) (k : FaultKind) :
    (raise f s).fault.counts[kindIndex k] =
      if k = f.kind then countedOne s.fault.counts[kindIndex k] else s.fault.counts[kindIndex k] := by
  rw [fault_raise h]
  by_cases hk : k = f.kind
  · subst hk
    simp
  · have hne : (kindIndex f.kind).val ≠ (kindIndex k).val := fun e => hk (Quiet.kindIndex_injective (Fin.ext e)).symm
    simp [hk, hne]

/-! ## The messages of a fault -/

theorem Roomy.enterLog {n : Nat} {s : State} (h : Roomy (n + 1) s) (c : LogClass) (f : FaultRecord) :
    Roomy n (enterLog c f s) := by
  cases hl : logOf c s with
  | none => exact (h.postTo (nodup_logSubscribers c s) _).of_link (link_enterLog_of_empty hl)
  | some l => exact (h.mono (Nat.le_succ n)).of_link (enterLog_of_held hl)

theorem Roomy.changeGate {n : Nat} {s : State} (h : Roomy (n + 1) s) (g : GateState) : Roomy n (changeGate g s) := by
  by_cases hg : s.run.gate = g
  · rw [changeGate_of_same hg]
    exact h.mono (Nat.le_succ n)
  · rw [changeGate_of_ne hg]
    exact Roomy.postTo (s := s.setRun { s.run with gate := g }) (h.of_link rfl) (nodup_stateSubscribers _) _

theorem Roomy.setStopLatch {n : Nat} {s : State} (h : Roomy (n + 1) s) : Roomy n (setStopLatch s) := by
  unfold Machine.setStopLatch
  split
  · exact h.mono (Nat.le_succ n)
  · exact Roomy.changeGate (s := s.setFault { s.fault with stopLatch := true }) (h.of_link rfl) _

/-- A fault queues at most two messages to a port, its ALERT and the STATE notice of HALT. -/
theorem Roomy.raise {n : Nat} {s : State} (h : Roomy (n + 2) s) (f : FaultRecord) : Roomy n (raise f s) := by
  by_cases ha : actionOf f.kind s = .off
  · rw [raise_of_off ha]
    exact h.mono (by omega)
  · rw [raise_of_not_off ha]
    have hr : Roomy (n + 2) (countedAndSteered f.kind s) := h.of_link (by rw [countedAndSteered_eq]; rfl)
    cases actionOf f.kind s with
    | off => exact hr.mono (by omega)
    | note => exact hr.mono (by omega)
    | reject => exact Roomy.mono (Roomy.enterLog (n := n + 1) hr .reject f) (Nat.le_succ n)
    | stop => exact (Roomy.enterLog (n := n + 1) hr .stop f).setStopLatch

theorem txQueue_enterLog {n : Nat} {s : State} (h : Roomy (n + 1) s) (c : LogClass) (f : FaultRecord) (p : Port) :
    txQueue p (enterLog c f s) =
      txQueue p s ++ if logOf c s = none ∧ p ∈ logSubscribers c s then [alertFrame c f] else [] := by
  cases hl : logOf c s with
  | none =>
    have hlink : txQueue p (enterLog c f s) = txQueue p (postTo (logSubscribers c s) (alertFrame c f) s) := by
      simp only [txQueue, portState, link_enterLog_of_empty hl]
    rw [hlink, txQueue_postTo_of_room (nodup_logSubscribers c s) fun q _ => h.hasRoom q]
    simp
  | some l => simp [txQueue, portState, enterLog_of_held hl]

theorem txQueue_changeGate {n : Nat} {s : State} (h : Roomy (n + 1) s) (g : GateState) (p : Port) :
    txQueue p (changeGate g s) = txQueue p s ++
      if s.run.gate ≠ g ∧ (subscription p s).state = true then [stateFrame (.gate g)] else [] := by
  by_cases hg : s.run.gate = g
  · simp [changeGate_of_same hg, hg]
  · have hr : Roomy (n + 1) (s.setRun { s.run with gate := g }) := h.of_link rfl
    rw [changeGate_of_ne hg, postState,
      txQueue_postTo_of_room (nodup_stateSubscribers _) fun q _ => hr.hasRoom q]
    simp only [mem_stateSubscribers, hg, ne_eq, not_false_eq_true, true_and]
    rfl

theorem txQueue_setStopLatch {n : Nat} {s : State} (h : Roomy (n + 1) s) (p : Port) :
    txQueue p (setStopLatch s) = txQueue p s ++
      if s.fault.stopLatch = false ∧ s.run.gate ≠ .halt ∧ (subscription p s).state = true then
        [stateFrame (.gate .halt)] else [] := by
  unfold setStopLatch
  cases hl : s.fault.stopLatch with
  | true => simp
  | false =>
    have hr : Roomy (n + 1) (s.setFault { s.fault with stopLatch := true }) := h.of_link rfl
    simp only [Bool.false_eq_true, if_false, txQueue_changeGate hr, true_and]
    rfl

/-- The messages that a fault queues to a port with room for them (R24, R157, R162). -/
theorem txQueue_raise {n : Nat} {s : State} (h : Roomy (n + 2) s) (f : FaultRecord) (p : Port) :
    txQueue p (raise f s) = txQueue p s ++
      match actionOf f.kind s with
      | .stop =>
        (if s.fault.stopLog = none ∧ (subscription p s).stop = true then [alertFrame .stop f] else []) ++
          (if s.fault.stopLatch = false ∧ s.run.gate ≠ .halt ∧ (subscription p s).state = true then
            [stateFrame (.gate .halt)] else [])
      | .reject => if s.fault.rejectLog = none ∧ (subscription p s).reject = true then [alertFrame .reject f] else []
      | .note => []
      | .off => [] := by
  by_cases ha : actionOf f.kind s = .off
  · simp [raise_of_off ha, ha]
  · rw [raise_of_not_off ha]
    have hc := countedAndSteered_eq f.kind s
    generalize countedAndSteered f.kind s = u at hc
    have hr : Roomy (n + 2) u := h.of_link (by rw [hc]; rfl)
    have hq : txQueue p u = txQueue p s := by rw [hc]; rfl
    have hs : subscription p u = subscription p s := by rw [hc]; rfl
    cases actionOf f.kind s with
    | off => simp [logAndStop, hq]
    | note => simp [logAndStop, hq]
    | reject =>
      have hl : logOf .reject u = s.fault.rejectLog := by rw [hc]; rfl
      simp only [logAndStop, txQueue_enterLog (n := n + 1) hr, hq, hl, mem_logSubscribers, hs]
    | stop =>
      have hl : logOf .stop u = s.fault.stopLog := by rw [hc]; rfl
      have hlatch : (enterLog .stop f u).fault.stopLatch = s.fault.stopLatch := by
        rw [fault_enterLog, hc]; rfl
      have hrun : (enterLog .stop f u).run = s.run := by
        have := (enterLog_keeps .stop f u).2.2.2.2.1
        rw [this, hc]; rfl
      have hsub : subscription p (enterLog .stop f u) = subscription p s := by
        simp only [subscription, fault_enterLog, hc]
        rfl
      simp only [logAndStop, txQueue_setStopLatch (Roomy.enterLog (n := n + 1) hr .stop f), hlatch, hrun, hsub,
        txQueue_enterLog (n := n + 1) hr, hq, hl, mem_logSubscribers, hs, List.append_assoc]

/-- Settles O14: each part of a fault by its own equation, and the messages by the action. -/
theorem faultIsTakenByItsActionAndSteering : Obligations.FaultIsTakenByItsActionAndSteering := by
  intro f s
  refine ⟨raise_of_off, fun h => ?_, fun hr p => txQueue_raise (n := 0) hr f p⟩
  refine ⟨fun k => ?_, ?_, ?_, ?_, run_raise f s, fun c => ?_, ?_, ?_⟩
  · rw [counts_raise h, countedOne]
    by_cases hk : k = f.kind <;> simp [hk]
  · rw [fault_raise h]
  · rw [fault_raise h]
  · rw [fault_raise h]
  · cases c with
    | stop =>
      simp only [logOf, fault_raise h]
      split
      · cases s.fault.stopLog <;> rfl
      · rfl
    | reject =>
      simp only [logOf, fault_raise h]
      split
      · cases s.fault.rejectLog <;> rfl
      · rfl
  · rw [fault_raise h]
  · rw [fault_raise h]

end Sys2Proof.Machine


/-! Steps, the checks that every request makes first, and the claim (R27 to R30, R39, R169). -/

namespace Sys2Proof.Machine

/-! ## Steps and the reset state -/

/-- Settles O1. -/
theorem stepTakesTheFrontCommand : Obligations.StepTakesTheFrontCommand := fun _ _ _ => rfl

/-- Settles O2: every arm of exec is an event or a message, which answers its end. -/
theorem everyCommandAnswersANextState : Obligations.EveryCommandAnswersANextState := by
  intro c s
  cases c <;> exact ⟨_, rfl⟩

/-- Settles O23. -/
theorem powerOnBringsTheResetState : Obligations.PowerOnBringsTheResetState := fun _ => rfl

theorem recordsAccounted_reset : RecordsAccounted State.reset := by
  refine ⟨List.nodup_nil, by decide, fun key => ?_, fun key => ?_, fun key => ?_, by decide, by decide, ?_⟩
  all_goals simp [State.reset, Store.powerOn, trackRecords, pieces]

theorem baysMatchTable_reset : BaysMatchTable State.reset := by
  refine ⟨by decide, fun h n => ?_⟩
  simp [State.reset, BundleUnit.powerOn]

theorem queueInOrder_reset : QueueInOrder State.reset := by
  refine ⟨by decide, by decide, by decide, fun _ => by decide⟩

theorem ordersMatchPieces_reset : OrdersMatchPieces State.reset := by
  refine ⟨by decide, fun q x hx => ?_⟩
  simp [pieceAt, State.reset] at hx

theorem countersInRange_reset : CountersInRange State.reset := by
  refine ⟨by decide, by decide, by decide, by decide, ?_, ?_, ?_, ?_⟩
  · simp [State.reset, Registration.powerOn]
  · intro k
    cases k <;> decide
  · intro c
    cases c <;> simp [logOf, State.reset, FaultUnit.powerOn]
  · simp [State.reset, BundleUnit.powerOn]

theorem withinCapacity_reset : WithinCapacity State.reset := by
  refine ⟨fun p => ?_, by decide, by decide, by decide, by decide⟩
  cases p <;> decide

/-- Settles O52. -/
theorem invariantsHoldAtReset : Obligations.InvariantsHoldAtReset := by
  refine ⟨by simp [StopHalts, State.reset, FaultUnit.powerOn], fun _ => rfl, fun h => absurd rfl h, withinCapacity_reset,
    countersInRange_reset, ?_, rfl, ⟨rfl, rfl, rfl, rfl⟩, ⟨by decide, by decide⟩, baysMatchTable_reset,
    recordsAccounted_reset, rfl, queueInOrder_reset, ⟨by decide, by decide⟩, ?_, ordersMatchPieces_reset⟩
  · intro k
    cases k <;> decide
  · exact ⟨⟨[], [], rfl, by simp, by simp, rfl⟩, Nat.zero_le _⟩

/-! ## The first check of a request -/

/-- A request that is refused by a check that does not look at the state. -/
theorem exec_refused {n : Nat} {c : Instr} {p : Port} {num : Byte} {r : Reason} {s : State} (hr : Roomy (n + 1) s)
    (effect : State → State) (hc : exec c s = answerMessage p effect s) (he : ∀ u, effect u = refuse p num r u) :
    exec c s = .next (replied p (refuseFrame num r) s) := by
  rw [hc]
  exact answerMessage_reply hr p _ _ (he _)

theorem isHolder_eq_false_iff {p : Port} {s : State} :
    isHolder p s = false ↔ ∀ c, s.run.claim = some c → c.holder ≠ p := by
  cases h : s.run.claim <;> simp [isHolder, h]

theorem isHolder_of_claim {p : Port} {n : Nat} {s : State} (h : s.run.claim = some { holder := p, elapsed := n }) :
    isHolder p s = true := by
  simp [isHolder, h]

theorem isHolder_silent_of_claim {p q : Port} {n : Nat} {s : State}
    (h : s.run.claim = some { holder := p, elapsed := n }) : isHolder p (silent q s) = true := by
  rw [isHolder_silent, isHolder_of_claim h]

/-- A request that only the holder may make, from another port. -/
theorem exec_refused_notHolder {n : Nat} {c : Instr} {p : Port} {num : Byte} {s : State} (hr : Roomy (n + 1) s)
    (h : isHolder p s = false) (effect : State → State) (hc : exec c s = answerMessage p effect s)
    (he : ∀ u, isHolder p u = false → effect u = refuse p num .notHolder u) :
    exec c s = .next (replied p (refuseFrame num .notHolder) s) := by
  rw [hc]
  exact answerMessage_reply hr p _ _ (he _ (by rw [isHolder_silent, h]))

/-- Settles O9: each request's first check. -/
theorem requestsNeedTheirPortOrTheClaim : Obligations.RequestsNeedTheirPortOrTheClaim := by
  intro p num b s hr
  refine ⟨fun hp => ?_, fun hp => ?_, fun hclaim => ?_⟩
  · simp only [List.forall_mem_cons]
    refine ⟨?_, ?_, ?_, ?_, ?_, ?_, ?_, ?_, ?_, fun _ h => absurd h List.not_mem_nil⟩
    all_goals exact exec_refused (n := 0) hr _ rfl fun u => if_pos hp
  · simp only [List.forall_mem_cons]
    refine ⟨?_, ?_, ?_, ?_, ?_, ?_, fun _ h => absurd h List.not_mem_nil⟩
    all_goals exact exec_refused (n := 0) hr _ rfl fun u => if_pos hp
  · have h := isHolder_eq_false_iff.mpr hclaim
    simp only [List.forall_mem_cons]
    refine ⟨?_, ?_, ?_, ?_, ?_, ?_, ?_, fun _ h => absurd h List.not_mem_nil⟩
    all_goals exact exec_refused_notHolder (n := 0) hr h _ rfl fun u hu => if_pos hu

/-! ## Events -/

/-- An event whose effect leaves no dropped message. -/
theorem answerEvent_of_roomy {n : Nat} {s t : State} {effect : State → State} (hr : Roomy n t) (he : effect s = t) :
    answerEvent effect s = .next t := by
  rw [answerEvent, he, settle_of_roomy hr]

/-- An event whose effect ends with one message. -/
theorem answerEvent_post {n : Nat} {s t : State} {p : Port} {f : Frame} {effect : State → State}
    (hr : Roomy (n + 1) t) (he : effect s = post p f t) : answerEvent effect s = .next (appended p f t) :=
  answerEvent_of_roomy (hr.appended p f) (he.trans (post_of_roomy hr p f))

/-! ## Stray reports -/

theorem Roomy.strayReport {n : Nat} {s : State} (h : Roomy (n + 2) s) (p : Port) : Roomy n (strayReport p s) :=
  h.raise _

/-- A report whose effect is to be stray. -/
theorem exec_stray {n : Nat} {c : Instr} {p : Port} {s : State} (hr : Roomy (n + 2) s) (effect : State → State)
    (hc : exec c s = answerMessage p effect s) (he : effect (silent p s) = strayReport p (silent p s)) :
    exec c s = .next (strayReport p (silent p s)) := by
  rw [hc, answerMessage, beginMessage_eq_silent, he, settle_of_roomy ((hr.silent p).strayReport p)]

/-- Settles O10: each report's check of its port and its length. -/
theorem misplacedReportIsStray : Obligations.MisplacedReportIsStray := by
  intro p num b s hr
  refine ⟨fun hp => ?_, fun hp => ⟨?_, ?_⟩, fun h => ?_, fun h => ?_, fun h => ⟨?_, ?_⟩⟩
  · exact exec_stray (n := 0) hr (Machine.takeWrapFault p b) rfl (if_pos (.inl hp))
  · exact exec_stray (n := 0) hr (Machine.takeTied p b) rfl (if_pos (.inl hp))
  · exact exec_stray (n := 0) hr (Machine.takeJam p b) rfl (if_pos (.inl hp))
  · simp only [List.forall_mem_cons]
    refine ⟨?_, ?_, ?_, ?_, fun _ h => absurd h List.not_mem_nil⟩
    all_goals exact exec_stray (n := 0) hr _ rfl (if_pos h)
  · exact exec_stray (n := 0) hr (Machine.takeCodeRead p b) rfl (if_pos h)
  · exact exec_stray (n := 0) hr (Machine.takeNoRead p b) rfl (if_pos h)
  · exact exec_stray (n := 0) hr (Machine.takePurged p b) rfl (if_pos h)

/-! ## The claim -/

/-- A message of a port whose claim is taken, renewed or released by it starts no timer anew. -/
theorem silent_setClaim {p : Port} {c : Option Claim} (h : c = none ∨ c = some { holder := p, elapsed := 0 })
    (s : State) :
    silent p (s.setRun { s.run with claim := c }) = (silent p s).setRun { (silent p s).run with claim := c } := by
  unfold silent restartClaimTimer
  rcases h with rfl | rfl
  · cases hc : s.run.claim with
    | none => simp [hc]; rfl
    | some d => by_cases hd : d.holder = p <;> simp [hc, hd] <;> rfl
  · cases hc : s.run.claim with
    | none => simp [hc]; rfl
    | some d => by_cases hd : d.holder = p <;> simp [hc, hd] <;> rfl

theorem exec_claim_of_none {n : Nat} {p : Port} {num : Byte} {s : State} (hr : Roomy (n + 1) s)
    (h : s.run.claim = none) : exec (.claim p num []) s =
      .next (replied p (acceptFrame num []) (s.setRun { s.run with claim := some { holder := p, elapsed := 0 } })) := by
  have hc : (silent p s).run.claim = none := by rw [claim_silent_none h, h]
  refine answerMessage_effect (effect := takeClaim p num []) hr (State.setRun_link ..) p _ ?_
  rw [silent_setClaim (.inr rfl)]
  simp [takeClaim, hc, accept]

theorem exec_claim_of_own {n m : Nat} {p : Port} {num : Byte} {s : State} (hr : Roomy (n + 1) s)
    (h : s.run.claim = some { holder := p, elapsed := m }) : exec (.claim p num []) s =
      .next (replied p (acceptFrame num []) (s.setRun { s.run with claim := some { holder := p, elapsed := 0 } })) := by
  have hc : (silent p s).run = { s.run with claim := some { holder := p, elapsed := 0 } } := claim_silent_holder h
  refine answerMessage_effect (effect := takeClaim p num []) hr (State.setRun_link ..) p _ ?_
  have hself : silent p (s.setRun { s.run with claim := some { holder := p, elapsed := 0 } }) = silent p s := by
    rw [silent_setClaim (.inr rfl), hc]
    show (silent p s).setRun { s.run with claim := some { holder := p, elapsed := 0 } } = silent p s
    rw [← hc]
    rfl
  rw [hself]
  simp [takeClaim, hc, accept]

theorem exec_claim_of_other {n m : Nat} {p q : Port} {num : Byte} {s : State} (hr : Roomy (n + 1) s)
    (h : s.run.claim = some { holder := q, elapsed := m }) (hpq : p ≠ q) :
    exec (.claim p num []) s = .next (replied p (refuseClaimHeldFrame num q) s) := by
  refine answerMessage_reply (effect := takeClaim p num []) hr p _ ?_
  simp [takeClaim, claim_silent_other h hpq, h, Ne.symm hpq]

theorem exec_release_of_own {n m : Nat} {p : Port} {num : Byte} {s : State} (hr : Roomy (n + 1) s)
    (h : s.run.claim = some { holder := p, elapsed := m }) : exec (.release p num []) s =
      .next (replied p (acceptFrame num []) (s.setRun { s.run with claim := none })) := by
  refine answerMessage_effect (effect := takeRelease p num []) hr (State.setRun_link ..) p _ ?_
  rw [silent_setClaim (.inl rfl)]
  simp [takeRelease, isHolder_silent_of_claim h, accept]

theorem exec_release_of_not_holder {n : Nat} {p : Port} {num : Byte} {s : State} (hr : Roomy (n + 1) s)
    (h : isHolder p s = false) :
    exec (.release p num []) s = .next (replied p (refuseFrame num .notHolder) s) := by
  refine answerMessage_reply (effect := takeRelease p num []) hr p _ ?_
  simp [takeRelease, isHolder_silent, h, refuse]

theorem exec_claimExpiry_of_held {n m : Nat} {q : Port} {s : State} (hr : Roomy (n + 1) s)
    (h : s.run.claim = some { holder := q, elapsed := m }) : exec .claimExpiry s =
      .next (appended q claimExpiredFrame (s.setRun { s.run with claim := none })) := by
  refine answerEvent_post (effect := expireClaim) (hr.of_link (State.setRun_link ..)) ?_
  rw [expireClaim, h]

/-- Settles O11: CLAIM, RELEASE and the expiry by the holder of the claim. -/
theorem claimIsTakenReleasedAndExpires : Obligations.ClaimIsTakenReleasedAndExpires := by
  intro p q num n s hr
  refine ⟨fun b hb => ?_, fun h => ⟨exec_claim_of_none (n := 0) hr h, ?_, ?_⟩, fun h => ⟨?_, fun hpq => ⟨?_, ?_⟩, ?_⟩⟩
  · simp only [List.forall_mem_cons]
    refine ⟨?_, ?_, fun _ h => absurd h List.not_mem_nil⟩
    all_goals exact exec_refused (n := 0) hr _ rfl fun u => if_pos hb
  · exact exec_release_of_not_holder (n := 0) hr (isHolder_eq_false_iff.mpr (by simp [h]))
  · exact answerEvent_of_roomy (effect := expireClaim) hr (by rw [expireClaim, h])
  · rintro rfl
    exact ⟨exec_claim_of_own (n := 0) hr h, exec_release_of_own (n := 0) hr h⟩
  · exact exec_claim_of_other (n := 0) hr h hpq
  · exact exec_release_of_not_holder (n := 0) hr (isHolder_eq_false_iff.mpr (by simp [h, Ne.symm hpq]))
  · exact exec_claimExpiry_of_held (n := 0) hr h

end Sys2Proof.Machine


/-! The gate's requests, CHAIN CLEAR and the setup-valid condition (R16, R20 to R25, R36). -/

namespace Sys2Proof.Machine

/-! ## The checks of a geometry -/

theorem geometryInRange_iff (g : Geometry) : geometryInRange g = true ↔ ItemsFit g := by
  unfold geometryInRange ItemsFit
  cases g.verify <;>
    simp only [Bool.and_eq_true, decide_eq_true_eq, List.contains_eq_mem, List.mem_cons, List.not_mem_nil, or_false,
      Option.mem_def, reduceCtorEq, false_implies, implies_true, Option.some.injEq, forall_eq', and_assoc, true_and]

theorem mem_allStations (i : Fin 12) : i ∈ allStations := by
  revert i
  decide

theorem stationAgrees_iff (g : Geometry) (i : Fin 12) (e : Station) :
    (stationAgrees g e && e.alternate ≠ some i) = true ↔ EntryFits g i e := by
  simp only [stationAgrees, EntryFits, Bool.and_eq_true, decide_eq_true_eq, Nat.succ_le_iff]
  tauto

theorem entryAgrees_iff (g : Geometry) (i : Fin 12) (s : State) :
    entryAgrees g i s = true ↔ ∀ e ∈ stationAt i s, EntryFits g i e := by
  unfold entryAgrees
  cases h : stationAt i s with
  | none => simp
  | some e =>
    rw [stationAgrees_iff]
    simp only [Option.mem_def, Option.some.injEq, forall_eq']

theorem geometryAgrees_iff (g : Geometry) (s : State) : geometryAgrees g s = true ↔ GeometryFits g s := by
  simp only [geometryAgrees, GeometryFits, Bool.and_eq_true, geometryInRange_iff, List.all_eq_true, entryAgrees_iff,
    decide_eq_true_eq, mem_allStations, true_implies, and_assoc]

theorem someStation_iff (s : State) : someStation s = true ↔ ∃ i e, stationAt i s = some e := by
  simp only [someStation, List.any_eq_true, mem_allStations, true_and, Option.isSome_iff_exists]

theorem setupValid_iff (s : State) : setupValid s = true ↔
    ∃ g, s.setup.geometry = some g ∧ GeometryFits g s ∧ ∃ i e, stationAt i s = some e := by
  unfold setupValid
  cases h : s.setup.geometry with
  | none => simp
  | some g => rw [Bool.and_eq_true, geometryAgrees_iff, someStation_iff]; simp only [Option.some.injEq, exists_eq_left']

/-! ## The gate's requests -/

/-- What a taken message leaves, the setup-valid condition reads. -/
theorem setupValid_congr {s t : State} (hset : t.setup = s.setup) (hbundles : t.bundles = s.bundles)
    (hcarrier : t.carrier = s.carrier) : setupValid t = setupValid s := by
  simp only [setupValid, geometryAgrees, someStation, entryAgrees, stationAt, hset, hbundles, hcarrier]

theorem setupValid_silent (p : Port) (s : State) : setupValid (silent p s) = setupValid s :=
  setupValid_congr (by simp) (by simp) (by simp)

theorem runReady_iff (s : State) : runReady s = true ↔
    setupValid s = true ∧ s.reg.state = .registered ∧ s.carrier.mode = .run ∧
      (s.store.jobState = .loading ∨ s.store.jobState = .ended) := by
  simp only [runReady, Bool.and_eq_true, decide_eq_true_eq, and_assoc]

theorem runReady_silent (p : Port) (s : State) : runReady (silent p s) = runReady s := by
  rw [Bool.eq_iff_iff, runReady_iff, runReady_iff, setupValid_silent]
  simp

theorem gate_silent (p : Port) (s : State) : (silent p s).run.gate = s.run.gate := by simp

section
variable {n : Nat} {num : Byte} {s : State}

theorem takeRun_of_ready {u : State} (hhalt : u.run.gate ≠ .halt) (hopen : u.run.gate ≠ .opened)
    (h : runReady u = true) : takeRun .line num [] u = changeGate .opened (accept .line num u) := by
  simp [takeRun, hhalt, hopen, h]

theorem exec_run_of_halt (hr : Roomy (n + 1) s) (h : s.run.gate = .halt) :
    exec (.run .line num []) s = .next (replied .line (refuseFrame num .wrongState) s) :=
  answerMessage_reply hr _ _ (takeRun .line num []) (by simp [takeRun, h, refuse])

theorem exec_run_of_opened (hr : Roomy (n + 1) s) (h : s.run.gate = .opened) :
    exec (.run .line num []) s = .next (replied .line (acceptFrame num []) s) :=
  answerMessage_reply hr _ _ (takeRun .line num []) (by simp [takeRun, h, accept])

/-- A reply and a change of the gate that a request makes. -/
theorem answerMessage_changeGate {f : Frame} {g : GateState} {effect : State → State} (hr : Roomy (n + 2) s)
    (hg : s.run.gate ≠ g)
    (he : effect (silent .line s) = changeGate g (post .line f (silent .line s))) :
    answerMessage .line effect s =
      .next (announced (.gate g) (replied .line f (s.setRun { s.run with gate := g }))) := by
  refine answerMessage_announce hr (State.setRun_link ..) _ _ _ _ ?_
  rw [he, changeGate_post (by rwa [gate_silent]), ← silent_setGate]

theorem exec_run_of_ready (hr : Roomy (n + 2) s) (h : s.run.gate = .closed ∨ s.run.gate = .drain)
    (hready : runReady s = true) :
    exec (.run .line num []) s = .next (announced (.gate .opened)
      (replied .line (acceptFrame num []) (s.setRun { s.run with gate := .opened }))) := by
  have hopen : s.run.gate ≠ .opened := by rcases h with h | h <;> simp [h]
  have hhalt : s.run.gate ≠ .halt := by rcases h with h | h <;> simp [h]
  refine answerMessage_changeGate (effect := takeRun .line num []) hr hopen ?_
  exact takeRun_of_ready (by simpa using hhalt) (by simpa using hopen) (by rwa [runReady_silent])

theorem exec_run_of_not_ready (hr : Roomy (n + 1) s) (h : s.run.gate = .closed ∨ s.run.gate = .drain)
    (hready : runReady s = false) :
    exec (.run .line num []) s = .next (replied .line (refuseFrame num .wrongState) s) := by
  have hopen : s.run.gate ≠ .opened := by rcases h with h | h <;> simp [h]
  exact answerMessage_reply hr _ _ (takeRun .line num []) (by simp [takeRun, hopen, runReady_silent, hready, refuse])

theorem exec_drain_of_halt (hr : Roomy (n + 1) s) (h : s.run.gate = .halt) :
    exec (.drain .line num []) s = .next (replied .line (refuseFrame num .wrongState) s) :=
  answerMessage_reply hr _ _ (takeDrain .line num []) (by simp [takeDrain, h, refuse])

theorem exec_drain_of_drain (hr : Roomy (n + 1) s) (h : s.run.gate = .drain) :
    exec (.drain .line num []) s = .next (replied .line (acceptFrame num []) s) := by
  refine answerMessage_reply hr _ _ (takeDrain .line num []) ?_
  have hg : (accept .line num (silent .line s)).run.gate = .drain := by simp [h]
  simp only [takeDrain, gate_silent, h, ne_eq, not_true_eq_false, if_false, reduceCtorEq, false_and]
  exact changeGate_of_same hg

theorem exec_drain_of_invalid (hr : Roomy (n + 1) s) (h : s.run.gate = .closed) (hvalid : setupValid s = false) :
    exec (.drain .line num []) s = .next (replied .line (refuseFrame num .wrongState) s) :=
  answerMessage_reply hr _ _ (takeDrain .line num []) (by simp [takeDrain, h, setupValid_silent, hvalid, refuse])

theorem exec_drain_of_valid (hr : Roomy (n + 2) s)
    (h : s.run.gate = .opened ∨ (s.run.gate = .closed ∧ setupValid s = true)) :
    exec (.drain .line num []) s = .next (announced (.gate .drain)
      (replied .line (acceptFrame num []) (s.setRun { s.run with gate := .drain }))) := by
  have hne : s.run.gate ≠ .drain := by rcases h with h | ⟨h, -⟩ <;> simp [h]
  refine answerMessage_changeGate (effect := takeDrain .line num []) hr hne ?_
  rcases h with h | ⟨h, hvalid⟩
  · simp [takeDrain, h, accept]
  · simp [takeDrain, h, setupValid_silent, hvalid, accept]

/-! ## STOP CLEAR and CHAIN CLEAR -/

theorem exec_stopClear_of_clear (hr : Roomy (n + 1) s) (h : s.fault.stopLatch = false) :
    exec (.stopClear .line num []) s = .next (replied .line (acceptFrame num []) s) :=
  answerMessage_reply hr _ _ (takeStopClear .line num []) (by simp [takeStopClear, h, accept])

theorem exec_stopClear_of_not_ready (hr : Roomy (n + 1) s) (h : s.fault.stopLatch = true)
    (hready : s.reg.chainClearPending = true ∨ s.carrier.mode ≠ .run) :
    exec (.stopClear .line num []) s = .next (replied .line (refuseFrame num .wrongState) s) :=
  answerMessage_reply hr _ _ (takeStopClear .line num []) (by simp [takeStopClear, h, hready, refuse])

theorem exec_stopClear_of_ready (hr : Roomy (n + 2) s) (h : s.fault.stopLatch = true) (hgate : s.run.gate = .halt)
    (hchain : s.reg.chainClearPending = false) (hmode : s.carrier.mode = .run) :
    exec (.stopClear .line num []) s = .next (announced (.gate .closed) (replied .line (acceptFrame num [])
      ((s.setFault { s.fault with stopLatch := false }).setRun { s.run with gate := .closed }))) := by
  refine answerMessage_announce hr (by exact rfl) _ _ _ (takeStopClear .line num []) ?_
  have hne : (silent .line (s.setFault { s.fault with stopLatch := false })).run.gate ≠ .closed := by simp [hgate]
  simp only [takeStopClear, silent_keeps, h, hchain, hmode, ne_eq, not_true_eq_false, if_false, reduceCtorEq,
    Bool.false_eq_true, or_self, accept]
  rw [← silent_setFault, changeGate_post hne]
  exact congrArg (fun u => postState _ (post _ _ u)) (silent_setGate ..).symm

theorem exec_chainClear_of_pending (hr : Roomy (n + 2) s) (h : s.reg.chainClearPending = true) :
    exec (.chainClear .line num []) s = .next (announced (.chainClear false) (replied .line (acceptFrame num [])
      (s.setReg { s.reg with chainClearPending := false }))) := by
  refine answerMessage_announce hr (by exact rfl) _ _ _ (takeChainClear .line num []) ?_
  rw [silent_setReg]
  simp [takeChainClear, h, accept]

theorem exec_chainClear_of_clear (hr : Roomy (n + 1) s) (h : s.reg.chainClearPending = false) :
    exec (.chainClear .line num []) s = .next (replied .line (acceptFrame num []) s) :=
  answerMessage_reply hr _ _ (takeChainClear .line num []) (by simp [takeChainClear, h, accept])

end

/-- Settles O13: each request by the gate state. -/
theorem runDrainAndTheClearsAreTakenByTheGateState : Obligations.RunDrainAndTheClearsAreTakenByTheGateState := by
  intro num s hr
  have hr1 : Roomy 1 s := hr.mono (by omega)
  refine ⟨fun b hb => ?_, setupValid_iff s, exec_hold_of_halt (n := 0) hr1, exec_hold_of_closed (n := 0) hr1,
    exec_hold_of_admitting (n := 0) hr, exec_run_of_halt (n := 0) hr1, exec_run_of_opened (n := 0) hr1,
    fun h => ⟨fun hready => exec_run_of_ready (n := 0) hr h ((runReady_iff s).mpr hready), fun hready => ?_⟩,
    exec_drain_of_halt (n := 0) hr1, exec_drain_of_drain (n := 0) hr1, exec_drain_of_invalid (n := 0) hr1,
    exec_drain_of_valid (n := 0) hr, exec_stopClear_of_clear (n := 0) hr1, exec_stopClear_of_not_ready (n := 0) hr1,
    exec_stopClear_of_ready (n := 0) hr, exec_chainClear_of_pending (n := 0) hr,
    exec_chainClear_of_clear (n := 0) hr1⟩
  · simp only [List.forall_mem_cons]
    refine ⟨?_, ?_, ?_, ?_, ?_, fun _ h => absurd h List.not_mem_nil⟩
    all_goals exact exec_refused (n := 0) hr1 _ rfl fun u => (if_neg (by simp)).trans (if_pos hb)
  · exact exec_run_of_not_ready (n := 0) hr1 h
      (Bool.eq_false_iff.mpr fun hr => hready ((runReady_iff s).mp hr))

end Sys2Proof.Machine


/-! The fault unit's requests: the action table, the lines, the logs, the counts and the subscriptions (R152 to R161). -/

namespace Sys2Proof.Machine

section
variable {n m : Nat} {p : Port} {num : Byte} {b : List Byte} {s : State}

/-! ## SET ACTION -/

theorem field_zero_of_cons (x : Byte) (b : List Byte) : field (x :: b) 0 1 = x.toNat := by
  simp [field, ofBytes]

theorem field_succ_of_cons (x : Byte) (b : List Byte) (off size : Nat) :
    field (x :: b) (off + 1) size = field b off size := by
  simp [field]

theorem field_of_three (x y z : Byte) :
    field [x, y, z] 0 1 = x.toNat ∧ field [x, y, z] 1 1 = y.toNat ∧ field [x, y, z] 2 1 = z.toNat := by
  simp [field, ofBytes]

theorem parseAction_of_codes {x y z : Byte} {k : FaultKind} {a : Action} {t : Steering}
    (hk : kindOfNumber x.toNat = some k) (ha : actionOfCode y.toNat = some a) (ht : steeringOfCode z.toNat = some t) :
    parseAction [x, y, z] = if actionAllowed k a then some (k, a, t) else none := by
  obtain ⟨hx, hy, hz⟩ := field_of_three x y z
  simp only [parseAction, hx, hy, hz, hk, ha, ht]

theorem parseAction_of_no_code {x y z : Byte}
    (h : kindOfNumber x.toNat = none ∨ actionOfCode y.toNat = none ∨ steeringOfCode z.toNat = none) :
    parseAction [x, y, z] = none := by
  obtain ⟨hx, hy, hz⟩ := field_of_three x y z
  simp only [parseAction, hx, hy, hz]
  split
  · next hk ha ht => simp [hk, ha, ht] at h
  · rfl

theorem exec_setAction_of_length_ne (hr : Roomy (n + 1) s) (hc : s.run.claim = some { holder := p, elapsed := m })
    (h : b.length ≠ 3) : exec (.setAction p num b) s = .next (replied p (refuseFrame num .badLength) s) :=
  answerMessage_reply hr _ _ (takeSetAction p num b) (by simp [takeSetAction, isHolder_silent_of_claim hc, h, refuse])

theorem exec_setAction_of_none {x y z : Byte} (hr : Roomy (n + 1) s)
    (hc : s.run.claim = some { holder := p, elapsed := m }) (h : parseAction [x, y, z] = none) :
    exec (.setAction p num [x, y, z]) s = .next (replied p (refuseFrame num .outOfRange) s) :=
  answerMessage_reply hr _ _ (takeSetAction p num [x, y, z])
    (by simp [takeSetAction, isHolder_silent_of_claim hc, h, refuse])

theorem exec_setAction_of_some {x y z : Byte} {k : FaultKind} {a : Action} {t : Steering} (hr : Roomy (n + 1) s)
    (hc : s.run.claim = some { holder := p, elapsed := m }) (h : parseAction [x, y, z] = some (k, a, t)) :
    exec (.setAction p num [x, y, z]) s = .next (replied p (acceptFrame num [])
      (s.setFault { s.fault with actions := s.fault.actions.set (kindIndex k) (a, t) })) := by
  refine answerMessage_effect hr (by exact rfl) _ _ (takeSetAction p num [x, y, z]) ?_
  rw [silent_setFault]
  simp [takeSetAction, isHolder_silent_of_claim hc, h, accept]

/-! ## SET LINE MASK, ALERT CLEAR and SUBSCRIBE -/

theorem exec_setLineMask_of_length_ne (hr : Roomy (n + 1) s) (hc : s.run.claim = some { holder := p, elapsed := m })
    (h : b.length ≠ 1) : exec (.setLineMask p num b) s = .next (replied p (refuseFrame num .badLength) s) := by
  refine answerMessage_reply hr _ _ (takeSetLineMask p num b) ?_
  unfold takeSetLineMask
  rw [if_neg (by simp [isHolder_silent_of_claim hc])]
  split
  · simp at h
  · rfl

theorem exec_setLineMask {x : Byte} (hr : Roomy (n + 1) s) (hc : s.run.claim = some { holder := p, elapsed := m }) :
    exec (.setLineMask p num [x]) s = .next (replied p (acceptFrame num []) (s.setFault { s.fault with
      maskAlarm := x.getLsbD 0, maskSlow := x.getLsbD 1,
      alarm := s.fault.alarm && !x.getLsbD 0, slow := s.fault.slow && !x.getLsbD 1 })) := by
  refine answerMessage_effect hr (by exact rfl) _ _ (takeSetLineMask p num [x]) ?_
  rw [silent_setFault]
  simp [takeSetLineMask, isHolder_silent_of_claim hc, setMask, accept]

theorem exec_alertClear (hr : Roomy (n + 1) s) : exec (.alertClear .line num []) s =
    .next (replied .line (acceptFrame num []) (s.setFault { s.fault with alarm := false, slow := false })) := by
  refine answerMessage_effect hr (by exact rfl) _ _ (takeAlertClear .line num []) ?_
  rw [silent_setFault]
  simp [takeAlertClear, accept]

theorem exec_subscribe_of_length_ne (hr : Roomy (n + 1) s) (h : b.length ≠ 1) :
    exec (.subscribe p num b) s = .next (replied p (refuseFrame num .badLength) s) := by
  refine answerMessage_reply hr _ _ (takeSubscribe p num b) ?_
  unfold takeSubscribe
  split
  · simp at h
  · rfl

theorem exec_subscribe_of_lt {x : Byte} (hr : Roomy (n + 1) s) (h : x.toNat < 8) :
    exec (.subscribe p num [x]) s = .next (replied p (acceptFrame num []) (s.setFault { s.fault with
      subs := portSet s.fault.subs p
        { stop := x.getLsbD 0, reject := x.getLsbD 1, state := x.getLsbD 2 } })) := by
  refine answerMessage_effect hr (by exact rfl) _ _ (takeSubscribe p num [x]) ?_
  rw [silent_setFault]
  simp [takeSubscribe, parseSubscription, h, accept]

theorem exec_subscribe_of_ge {x : Byte} (hr : Roomy (n + 1) s) (h : 8 ≤ x.toNat) :
    exec (.subscribe p num [x]) s = .next (replied p (refuseFrame num .outOfRange) s) :=
  answerMessage_reply hr _ _ (takeSubscribe p num [x])
    (by simp [takeSubscribe, parseSubscription, Nat.not_lt.mpr h, refuse])

/-! ## CLEAR LOG and the counts -/

/-- The ports that may clear a log (R159). -/
theorem mayClearLog_silent (h : p = .line ∨ s.run.claim = some { holder := p, elapsed := m }) :
    ¬(p ≠ .line ∧ isHolder p (silent p s) = false) := by
  rintro ⟨hp, hh⟩
  rcases h with h | h
  · exact hp h
  · simp [isHolder_silent_of_claim h] at hh

theorem exec_clearLog_of_class {c : Byte} {k : LogClass} (hr : Roomy (n + 1) s)
    (h : p = .line ∨ s.run.claim = some { holder := p, elapsed := m }) (hk : logClassOfCode c.toNat = some k) :
    exec (.clearLog p num [c]) s = .next (replied p (acceptFrame num []) (setLog k none s)) := by
  refine answerMessage_effect hr (by simp) _ _ (takeClearLog p num [c]) ?_
  have hset : silent p (setLog k none s) = setLog k none (silent p s) := by
    cases k <;> simp only [setLog, silent_setFault, silent_keeps]
  rw [hset, takeClearLog, if_neg (mayClearLog_silent h)]
  simp [field_singleton, hk, accept]

theorem exec_clearLog_of_length_ne (hr : Roomy (n + 1) s)
    (h : p = .line ∨ s.run.claim = some { holder := p, elapsed := m }) (hb : b.length ≠ 1) :
    exec (.clearLog p num b) s = .next (replied p (refuseFrame num .badLength) s) :=
  answerMessage_reply hr _ _ (takeClearLog p num b) ((if_neg (mayClearLog_silent h)).trans (if_pos hb))

theorem exec_clearLog_of_no_class {c : Byte} (hr : Roomy (n + 1) s)
    (h : p = .line ∨ s.run.claim = some { holder := p, elapsed := m }) (hc : logClassOfCode c.toNat = none) :
    exec (.clearLog p num [c]) s = .next (replied p (refuseFrame num .outOfRange) s) := by
  refine answerMessage_reply hr _ _ (takeClearLog p num [c]) ((if_neg (mayClearLog_silent h)).trans ?_)
  simp [field_singleton, hc, refuse]

theorem exec_readCounts (hr : Roomy (n + 1) s) :
    exec (.readCounts p num []) s = .next (replied p (acceptFrame num (countsBytes s)) s) := by
  refine answerMessage_reply hr _ _ (takeReadCounts p num []) ?_
  have hc : countsBytes (silent p s) = countsBytes s := by
    simp only [countsBytes, actionOf, steeringOf, silent_keeps]
  simp [takeReadCounts, hc, acceptWith]

theorem exec_clearCounts (hr : Roomy (n + 1) s) : exec (.clearCounts p num []) s =
    .next (replied p (acceptFrame num []) (s.setFault { s.fault with counts := Vector.replicate 22 0 })) := by
  refine answerMessage_effect hr (by exact rfl) _ _ (takeClearCounts p num []) ?_
  rw [silent_setFault]
  simp [takeClearCounts, accept]

end

/-- Settles O15: each request by its payload and the codes in it. -/
theorem actionsLinesAndSubscriptionsAreSet : Obligations.ActionsLinesAndSubscriptionsAreSet := by
  intro p num x y z n k a t s hr
  refine ⟨fun b => ⟨exec_subscribe_of_length_ne (n := 0) hr,
    fun hc => ⟨exec_setAction_of_length_ne (n := 0) hr hc, exec_setLineMask_of_length_ne (n := 0) hr hc⟩⟩,
    fun hc => ⟨fun hk ha ht => ⟨fun hallowed => ?_, fun hallowed => ?_⟩,
      fun h => exec_setAction_of_none (n := 0) hr hc (parseAction_of_no_code h)⟩,
    exec_subscribe_of_lt (n := 0) hr, exec_subscribe_of_ge (n := 0) hr, exec_setLineMask (n := 0) hr,
    exec_alertClear (n := 0) hr, fun c bs => ?_⟩
  · exact exec_setAction_of_some (n := 0) hr hc (by rw [parseAction_of_codes hk ha ht, if_pos hallowed])
  · exact exec_setAction_of_none (n := 0) hr hc (by rw [parseAction_of_codes hk ha ht, if_neg (by simp [hallowed])])
  · exact exec_refused (n := 0) hr (takeAlertClear .line num (c :: bs)) rfl fun u =>
      (if_neg (by simp)).trans (if_pos (by simp))

/-- Settles O17: CLEAR LOG by the port and the class, and the counts. -/
theorem logsAndCountsAreReadAndCleared : Obligations.LogsAndCountsAreReadAndCleared := by
  intro p num n s hr
  refine ⟨fun h => ⟨?_, ?_, fun b => exec_clearLog_of_length_ne (n := 0) hr h, fun c h0 h1 => ?_⟩, fun b hb => ?_,
    fun hp hclaim b => ?_, exec_readCounts (n := 0) hr, exec_clearCounts (n := 0) hr⟩
  · exact exec_clearLog_of_class (n := 0) (c := 0) hr h (logClassOfCode_logClassCode .stop)
  · exact exec_clearLog_of_class (n := 0) (c := 1) hr h (logClassOfCode_logClassCode .reject)
  · exact exec_clearLog_of_no_class (n := 0) hr h (logClassOfCode_toNat_of_ne h0 h1)
  · simp only [List.forall_mem_cons]
    refine ⟨?_, ?_, fun _ h => absurd h List.not_mem_nil⟩
    all_goals exact exec_refused (n := 0) hr _ rfl fun u => if_pos hb
  · exact exec_refused_notHolder (n := 0) hr (isHolder_eq_false_iff.mpr hclaim) (takeClearLog p num b) rfl
      fun u hu => if_pos ⟨hp, hu⟩

end Sys2Proof.Machine


/-! The reads (R59, R90, R112, R148, R173): the length of a STATUS, and what a read request answers. -/

namespace Sys2Proof.Machine

/-! ## The length of a STATUS -/

@[simp] theorem length_be (k n : Nat) : (be k n).length = k := by
  induction k generalizing n with
  | zero => rfl
  | succ k ih => simp [be, ih]

theorem length_stationBytes (s : State) (i : Fin 12) : (stationBytes s i).length = 10 := by
  unfold stationBytes
  split <;> simp [freeBytes]

theorem length_flatMap_stationBytes (s : State) : (allStations.flatMap (stationBytes s)).length = 120 := by
  simp [allStations, length_stationBytes]

theorem length_statusBytes (s : State) : (statusBytes s).length = 187 := by
  have h := length_flatMap_stationBytes s
  simp [statusBytes, statusRegistration, statusWork, statusTrack, geometryBytes, h]

/-! ## Reads beside a taken message -/

theorem holderNumber_silent (p : Port) (s : State) :
    ((silent p s).run.claim.map fun c => portNumber c.holder) = s.run.claim.map fun c => portNumber c.holder := by
  unfold silent restartClaimTimer
  cases h : s.run.claim with
  | none => simp [h]
  | some c => by_cases hc : c.holder = p <;> simp [h, hc]

theorem pieces_silent (p : Port) (s : State) : pieces (silent p s) = pieces s := by simp [pieces]

theorem statusBytes_silent (p : Port) (s : State) : statusBytes (silent p s) = statusBytes s := by
  have hstation : stationBytes (silent p s) = stationBytes s := by
    funext i
    simp only [stationBytes, stationAt, silent_keeps]
  have hfree : freeBays (silent p s) = freeBays s := by simp only [freeBays, geometryItems, silent_keeps]; rfl
  have hroom : textRoom (silent p s) = textRoom s := by simp only [textRoom, silent_keeps]
  simp only [statusBytes, statusRegistration, statusWork, statusTrack, hstation, hfree, hroom, setupValid_silent,
    holderNumber_silent, pieces_silent, geometryItems, silent_keeps]

theorem queueBytes_silent (p : Port) (i : Nat) (r : Record) (s : State) :
    queueBytes i r (silent p s) = queueBytes i r s := by
  simp only [queueBytes, backlogOutcome, silent_keeps]

theorem orderBytes_silent (p : Port) (i : Nat) (o : Order) (s : State) :
    orderBytes i o (silent p s) = orderBytes i o s := by
  simp only [orderBytes, orderPosition, orderOwner, silent_keeps]

theorem field_whole (b : List Byte) : field b 0 b.length = ofBytes b := by
  simp [field]

section
variable {n : Nat} {p : Port} {num q : Byte} {b : List Byte} {s : State}

theorem exec_status (hr : Roomy (n + 1) s) : exec (.status p num []) s =
    .next (replied p (acceptFrame num (statusBytes s)) (s.setFreeTaken (s.freeTaken + 108))) := by
  refine answerMessage_effect hr (by exact rfl) _ _ (takeStatus p num []) ?_
  rw [silent_setFreeTaken]
  simp [takeStatus, statusBytes_silent, acceptWith]

theorem exec_readTrack_of_none (hr : Roomy (n + 1) s) (h : s.track.length ≤ q.toNat) :
    exec (.readTrack p num [q]) s = .next (replied p (refuseFrame num .outOfRange) s) :=
  answerMessage_reply hr _ _ (takeReadTrack p num [q])
    (by simp [takeReadTrack, field_singleton, entryAt, List.getElem?_eq_none h, refuse])

theorem exec_readTrack_of_some {e : TrackEntry} (hr : Roomy (n + 1) s) (h : s.track[q.toNat]? = some e) :
    exec (.readTrack p num [q]) s = .next (replied p (acceptFrame num (entryBytes q.toNat e)) s) :=
  answerMessage_reply hr _ _ (takeReadTrack p num [q])
    (by simp [takeReadTrack, field_singleton, entryAt, h, acceptWith])

theorem exec_readQueue_of_none (hr : Roomy (n + 1) s) (hb : b.length = 2)
    (h : s.store.queue.length + s.store.lane.length ≤ ofBytes b) :
    exec (.readQueue p num b) s = .next (replied p (refuseFrame num .outOfRange) s) := by
  refine answerMessage_reply hr _ _ (takeReadQueue p num b) ?_
  have hnone : (s.store.queue ++ s.store.lane)[ofBytes b]? = none := List.getElem?_eq_none (by simpa using h)
  have hfield : field b 0 2 = ofBytes b := hb ▸ field_whole b
  simp only [takeReadQueue, hb, ne_eq, not_true_eq_false, if_false, hfield, silent_keeps, hnone]
  rfl

theorem exec_readQueue_of_some {r : Record} (hr : Roomy (n + 1) s) (hb : b.length = 2)
    (h : (s.store.queue ++ s.store.lane)[ofBytes b]? = some r) :
    exec (.readQueue p num b) s = .next (replied p (acceptFrame num (queueBytes (ofBytes b) r s)) s) := by
  refine answerMessage_reply hr _ _ (takeReadQueue p num b) ?_
  have hfield : field b 0 2 = ofBytes b := hb ▸ field_whole b
  simp only [takeReadQueue, hb, ne_eq, not_true_eq_false, if_false, hfield, silent_keeps, h, queueBytes_silent]
  rfl

theorem exec_readBundle_of_none (hr : Roomy (n + 1) s) (h : s.bundles.table.length ≤ q.toNat) :
    exec (.readBundle p num [q]) s = .next (replied p (refuseFrame num .outOfRange) s) :=
  answerMessage_reply hr _ _ (takeReadBundle p num [q])
    (by simp [takeReadBundle, field_singleton, List.getElem?_eq_none h, refuse])

theorem exec_readBundle_of_some {e : Bundle} (hr : Roomy (n + 1) s) (h : s.bundles.table[q.toNat]? = some e) :
    exec (.readBundle p num [q]) s = .next (replied p (acceptFrame num (bundleBytes q.toNat e)) s) :=
  answerMessage_reply hr _ _ (takeReadBundle p num [q]) (by simp [takeReadBundle, field_singleton, h, acceptWith])

theorem exec_readOrders_of_none (hr : Roomy (n + 1) s) (h : s.carrier.queue.length ≤ q.toNat) :
    exec (.readOrders p num [q]) s = .next (replied p (refuseFrame num .outOfRange) s) :=
  answerMessage_reply hr _ _ (takeReadOrders p num [q])
    (by simp [takeReadOrders, field_singleton, List.getElem?_eq_none h, refuse])

theorem exec_readOrders_of_some {o : Order} (hr : Roomy (n + 1) s) (h : s.carrier.queue[q.toNat]? = some o) :
    exec (.readOrders p num [q]) s = .next (replied p (acceptFrame num (orderBytes q.toNat o s)) s) :=
  answerMessage_reply hr _ _ (takeReadOrders p num [q])
    (by simp [takeReadOrders, field_singleton, h, orderBytes_silent, acceptWith])

end

/-- Settles O18: the length of a STATUS, and each read by its payload and the entry it asks for. -/
theorem statusAndReadsAnswerAndChangeNothing : Obligations.StatusAndReadsAnswerAndChangeNothing := by
  refine ⟨fun p num s hr => ⟨length_statusBytes s, exec_status (n := 0) hr, fun c b => ?_⟩, fun p num b s hr => ?_⟩
  · exact exec_refused (n := 0) hr (takeStatus p num (c :: b)) rfl fun u => if_pos (by simp)
  · refine ⟨fun h => ?_, fun q => exec_readTrack_of_none (n := 0) hr, fun q e => exec_readTrack_of_some (n := 0) hr,
      fun h => ?_, exec_readQueue_of_none (n := 0) hr, fun hb r => exec_readQueue_of_some (n := 0) hr hb,
      fun h => ?_, fun q => exec_readBundle_of_none (n := 0) hr, fun q e => exec_readBundle_of_some (n := 0) hr,
      fun h => ?_, fun q => exec_readOrders_of_none (n := 0) hr, fun q o => exec_readOrders_of_some (n := 0) hr⟩
    · exact exec_refused (n := 0) hr (takeReadTrack p num b) rfl fun u => if_pos h
    · exact exec_refused (n := 0) hr (takeReadQueue p num b) rfl fun u => if_pos h
    · exact exec_refused (n := 0) hr (takeReadBundle p num b) rfl fun u => if_pos h
    · exact exec_refused (n := 0) hr (takeReadOrders p num b) rfl fun u => if_pos h

end Sys2Proof.Machine


/-! The setup store's entries and the stations (R30, R34, R35, R37, R87 to R89). -/

namespace Sys2Proof.Machine

/-! ## When the setup may change -/

theorem setupOpen_iff (s : State) :
    setupOpen s = true ↔ (s.run.gate = .closed ∨ s.run.gate = .halt) ∧ pieces s = [] := by
  simp only [setupOpen, trackClear, Bool.and_eq_true, decide_eq_true_eq, List.isEmpty_iff]

theorem setupOpen_eq_false_iff (s : State) :
    setupOpen s = false ↔ ¬((s.run.gate = .closed ∨ s.run.gate = .halt) ∧ pieces s = []) := by
  rw [← setupOpen_iff, Bool.not_eq_true]

theorem setupOpen_silent (p : Port) (s : State) : setupOpen (silent p s) = setupOpen s := by
  rw [Bool.eq_iff_iff, setupOpen_iff, setupOpen_iff, gate_silent, pieces_silent]

/-! ## Station entries -/

theorem stationIndex_val (i : Fin 12) : stationIndex i.val = some i := by
  simp [stationIndex]

theorem stationIndex_of_ge {n : Nat} (h : 12 ≤ n) : stationIndex n = none := by
  simp [stationIndex, Nat.not_lt.mpr h]

theorem toNat_station (i : Fin 12) : (BitVec.ofNat 8 i.val).toNat = i.val := by
  have := i.isLt
  simp only [BitVec.toNat_ofNat]
  omega

theorem silent_writeStation (p : Port) (i : Fin 12) (e : Option Station) (s : State) :
    silent p (writeStation i e s) = writeStation i e (silent p s) := by
  simp only [writeStation, setCallOutstanding, setStationEntry, silent_setCallOutstanding, silent_setSetup,
    silent_keeps, State.setSetup_callOutstanding]

/-- The fields of a SET STATION lie in their ranges under a geometry (R34). -/
def StationFieldsFit (g : Geometry) (f : StationFields) : Prop :=
  f.index < 12 ∧ (1 ≤ f.position ∧ f.position < g.applicator) ∧ f.item ≤ 15 ∧
    (f.alternate = 255 ∨ (f.alternate < 12 ∧ f.alternate ≠ f.index)) ∧
    (1 ≤ f.callPhase ∧ f.callPhase < g.pitch) ∧ 1 ≤ f.callWidth ∧
    f.callPhase + f.callWidth ≤ f.detectPhase ∧ f.detectPhase < g.pitch

/-- The entry that a SET STATION writes (R34). -/
def writtenStation (f : StationFields) : Station :=
  { position := f.position, item := f.item, alternate := stationIndex f.alternate, callPhase := f.callPhase,
    callWidth := f.callWidth, detectPhase := f.detectPhase, on := true }

theorem checkedStation_of_fit {g : Geometry} {f : StationFields} {i : Fin 12} (h : StationFieldsFit g f)
    (hi : i.val = f.index) : checkedStation g f = some (i, writtenStation f) := by
  obtain ⟨-, hpos, hitem, halt, hcall, hwidth, hends, hdetect⟩ := h
  have hagrees : (stationAgrees g (writtenStation f) &&
      (f.alternate == 255 || (f.alternate < 12 && f.alternate ≠ f.index))) = true := by
    simp only [stationAgrees, Bool.and_eq_true, Bool.or_eq_true, decide_eq_true_eq, beq_iff_eq]
    exact ⟨⟨⟨⟨⟨⟨hpos, hitem⟩, hcall⟩, hwidth⟩, hends⟩, hdetect⟩, halt⟩
  rw [checkedStation, ← hi, stationIndex_val]
  rw [← hi] at hagrees
  exact if_pos hagrees

theorem checkedStation_of_not_fit {g : Geometry} {f : StationFields} (h : ¬StationFieldsFit g f) :
    checkedStation g f = none := by
  unfold checkedStation
  by_cases hi : f.index < 12
  · simp only [stationIndex, hi, dite_true]
    refine if_neg fun hagrees => h ?_
    simp only [stationAgrees, Bool.and_eq_true, Bool.or_eq_true, decide_eq_true_eq, beq_iff_eq] at hagrees
    obtain ⟨⟨⟨⟨⟨⟨hpos, hitem⟩, hcall⟩, hwidth⟩, hends⟩, hdetect⟩, halt⟩ := hagrees
    exact ⟨hi, hpos, hitem, halt, hcall, hwidth, hends, hdetect⟩
  · simp [stationIndex, hi]

theorem alternate_writtenStation {g : Geometry} {f : StationFields} (h : StationFieldsFit g f) :
    (writtenStation f).alternate.map Fin.val = if f.alternate = 255 then none else some f.alternate := by
  obtain ⟨-, -, -, halt, -⟩ := h
  rcases halt with h255 | ⟨hlt, -⟩
  · simp [writtenStation, h255, stationIndex]
  · have hne : f.alternate ≠ 255 := by omega
    simp [writtenStation, hne, stationIndex, hlt]

section
variable {n m : Nat} {p : Port} {num : Byte} {b : List Byte} {f : StationFields} {g : Geometry} {s : State}

theorem takeSetStation_of_none {u : State} (hh : isHolder p u = true) (h : b.length ≠ 10) :
    takeSetStation p num b u = refuse p num .badLength u := by
  simp [takeSetStation, hh, parseStation, h]

theorem takeSetStation_of_some {u : State} (hh : isHolder p u = true) (h : parseStation b = some f) :
    takeSetStation p num b u = judgeStation p num f u := by
  simp [takeSetStation, hh, h]

theorem exec_setStation_of_length_ne (hr : Roomy (n + 1) s) (hc : s.run.claim = some { holder := p, elapsed := m })
    (h : b.length ≠ 10) : exec (.setStation p num b) s = .next (replied p (refuseFrame num .badLength) s) :=
  answerMessage_reply hr _ _ (takeSetStation p num b) (takeSetStation_of_none (isHolder_silent_of_claim hc) h)

theorem exec_setStation_of_not_open (hr : Roomy (n + 1) s) (hc : s.run.claim = some { holder := p, elapsed := m })
    (hb : parseStation b = some f) (h : setupOpen s = false ∨ s.setup.geometry = none) :
    exec (.setStation p num b) s = .next (replied p (refuseFrame num .wrongState) s) := by
  refine answerMessage_reply hr _ _ (takeSetStation p num b) ?_
  rw [takeSetStation_of_some (isHolder_silent_of_claim hc) hb]
  rcases h with h | h
  · cases hg : s.setup.geometry <;> simp [judgeStation, hg, setupOpen_silent, h, refuse]
  · simp [judgeStation, h, refuse]

theorem exec_setStation_of_not_fit (hr : Roomy (n + 1) s) (hc : s.run.claim = some { holder := p, elapsed := m })
    (hb : parseStation b = some f) (hopen : setupOpen s = true) (hg : s.setup.geometry = some g)
    (h : ¬StationFieldsFit g f) :
    exec (.setStation p num b) s = .next (replied p (refuseFrame num .outOfRange) s) := by
  refine answerMessage_reply hr _ _ (takeSetStation p num b) ?_
  rw [takeSetStation_of_some (isHolder_silent_of_claim hc) hb]
  simp [judgeStation, hg, setupOpen_silent, hopen, checkedStation_of_not_fit h, refuse]

theorem exec_setStation_of_fit {i : Fin 12} (hr : Roomy (n + 1) s)
    (hc : s.run.claim = some { holder := p, elapsed := m }) (hb : parseStation b = some f)
    (hopen : setupOpen s = true) (hg : s.setup.geometry = some g) (h : StationFieldsFit g f) (hi : i.val = f.index) :
    exec (.setStation p num b) s =
      .next (replied p (acceptFrame num []) (writeStation i (some (writtenStation f)) s)) := by
  refine answerMessage_effect hr (by exact rfl) _ _ (takeSetStation p num b) ?_
  rw [takeSetStation_of_some (isHolder_silent_of_claim hc) hb, silent_writeStation]
  simp [judgeStation, hg, setupOpen_silent, hopen, checkedStation_of_fit h hi, accept]

/-! ## CLEAR STATION -/

theorem exec_clearStation_of_length_ne (hr : Roomy (n + 1) s) (hc : s.run.claim = some { holder := p, elapsed := m })
    (h : b.length ≠ 1) : exec (.clearStation p num b) s = .next (replied p (refuseFrame num .badLength) s) :=
  answerMessage_reply hr _ _ (takeClearStation p num b)
    (by simp [takeClearStation, isHolder_silent_of_claim hc, h, refuse])

theorem exec_clearStation_of_not_open (hr : Roomy (n + 1) s) (hc : s.run.claim = some { holder := p, elapsed := m })
    (hb : b.length = 1) (h : setupOpen s = false) :
    exec (.clearStation p num b) s = .next (replied p (refuseFrame num .wrongState) s) :=
  answerMessage_reply hr _ _ (takeClearStation p num b)
    (by simp [takeClearStation, isHolder_silent_of_claim hc, hb, setupOpen_silent, h, refuse])

theorem exec_clearStation_of_ge {x : Byte} (hr : Roomy (n + 1) s)
    (hc : s.run.claim = some { holder := p, elapsed := m }) (hopen : setupOpen s = true) (hx : 12 ≤ x.toNat) :
    exec (.clearStation p num [x]) s = .next (replied p (refuseFrame num .outOfRange) s) :=
  answerMessage_reply hr _ _ (takeClearStation p num [x])
    (by simp [takeClearStation, isHolder_silent_of_claim hc, setupOpen_silent, hopen, field_singleton,
      stationIndex_of_ge hx, refuse])

theorem exec_clearStation_of_index {i : Fin 12} (hr : Roomy (n + 1) s)
    (hc : s.run.claim = some { holder := p, elapsed := m }) (hopen : setupOpen s = true) :
    exec (.clearStation p num [BitVec.ofNat 8 i.val]) s =
      .next (replied p (acceptFrame num []) (writeStation i none s)) := by
  refine answerMessage_effect hr (by exact rfl) _ _ (takeClearStation p num [BitVec.ofNat 8 i.val]) ?_
  have hfield : field [BitVec.ofNat 8 i.val] 0 1 = i.val := by rw [field_singleton, toNat_station]
  rw [silent_writeStation]
  simp [takeClearStation, isHolder_silent_of_claim hc, setupOpen_silent, hopen, hfield, stationIndex_val, accept]

/-! ## SET LOCKOUT -/

theorem parseIndices_of_odd (h : b.length % 2 = 1) : parseIndices b = none := by
  induction b using parseIndices.induct with
  | case1 => simp at h
  | case2 a => rfl
  | case3 a c rest ih =>
    rw [parseIndices, ih (by simp only [List.length_cons] at h; omega)]
    rfl

theorem mem_insertOnce {k l : Nat} {rest : List Nat} : k ∈ insertOnce l rest ↔ k = l ∨ k ∈ rest := by
  induction rest with
  | nil => simp [insertOnce]
  | cons x rest ih =>
    unfold insertOnce
    split
    · simp
    · split
      · next h => subst h; simp
      · simp only [List.mem_cons, ih]
        tauto

theorem mem_indexSet {k : Nat} {l : List Nat} : k ∈ indexSet l ↔ k ∈ l := by
  induction l with
  | nil => simp [indexSet]
  | cons x rest ih =>
    rw [List.mem_cons, ← ih]
    exact mem_insertOnce

theorem lockable_iff {k : Nat} :
    lockable s k = true ↔ k < 1024 ∧ ∀ g, s.setup.geometry = some g → k < g.chainLength := by
  unfold lockable
  rw [Bool.and_eq_true]
  refine and_congr decide_eq_true_iff ?_
  cases s.setup.geometry <;> simp

theorem lockable_silent (q : Port) : lockable (silent q s) = lockable s := by
  funext k
  simp only [lockable, silent_keeps]

/-- The indices of a SET LOCKOUT pass its check (R37). -/
theorem lockout_check_iff {l : List Nat} : (Config.lockoutCapacity < l.length ∨ l.all (lockable s) = false) ↔
    ¬(l.length ≤ 32 ∧ ∀ m ∈ l, m < 1024 ∧ ∀ g, s.setup.geometry = some g → m < g.chainLength) := by
  have hall : l.all (lockable s) = true ↔
      ∀ m ∈ l, m < 1024 ∧ ∀ g, s.setup.geometry = some g → m < g.chainLength := by
    rw [List.all_eq_true]
    exact forall₂_congr fun m _ => lockable_iff
  rw [← hall, not_and_or, Bool.not_eq_true, Nat.not_le]
  rfl

theorem exec_setLockout_of_odd (hr : Roomy (n + 1) s) (hc : s.run.claim = some { holder := p, elapsed := m })
    (h : b.length % 2 = 1) : exec (.setLockout p num b) s = .next (replied p (refuseFrame num .badLength) s) :=
  answerMessage_reply hr _ _ (takeSetLockout p num b)
    (by simp [takeSetLockout, isHolder_silent_of_claim hc, parseIndices_of_odd h, refuse])

theorem takeSetLockout_of_some {u : State} {l : List Nat} (hh : isHolder p u = true) (hl : parseIndices b = some l) :
    takeSetLockout p num b u =
      if Config.lockoutCapacity < l.length ∨ l.all (lockable u) = false then refuse p num .outOfRange u
      else accept p num (u.setEntry { u.entry with lockout := indexSet l }) := by
  simp [takeSetLockout, hh, hl]

theorem exec_setLockout_of_bad {l : List Nat} (hr : Roomy (n + 1) s)
    (hc : s.run.claim = some { holder := p, elapsed := m }) (hl : parseIndices b = some l)
    (h : Config.lockoutCapacity < l.length ∨ l.all (lockable s) = false) :
    exec (.setLockout p num b) s = .next (replied p (refuseFrame num .outOfRange) s) := by
  refine answerMessage_reply hr _ _ (takeSetLockout p num b) ?_
  rw [takeSetLockout_of_some (isHolder_silent_of_claim hc) hl, if_pos (by rwa [lockable_silent])]
  rfl

theorem exec_setLockout_of_good {l : List Nat} (hr : Roomy (n + 1) s)
    (hc : s.run.claim = some { holder := p, elapsed := m }) (hl : parseIndices b = some l)
    (h : ¬(Config.lockoutCapacity < l.length ∨ l.all (lockable s) = false)) :
    exec (.setLockout p num b) s =
      .next (replied p (acceptFrame num []) (s.setEntry { s.entry with lockout := indexSet l })) := by
  refine answerMessage_effect hr (by exact rfl) _ _ (takeSetLockout p num b) ?_
  rw [takeSetLockout_of_some (isHolder_silent_of_claim hc) hl, if_neg (by rwa [lockable_silent]), silent_setEntry]
  simp [accept]

end

/-- Settles O20: SET STATION, CLEAR STATION and SET LOCKOUT, each by its checks in order. -/
theorem stationsAndLockoutAreWritten : Obligations.StationsAndLockoutAreWritten := by
  intro p num b f i n s hr hc
  refine ⟨exec_setStation_of_length_ne (n := 0) hr hc, fun hb => ⟨fun h => ?_, fun g hopen hg => ⟨fun h => ?_,
    fun h hi => ⟨writtenStation f, ?_, rfl, rfl, rfl, rfl, rfl, rfl, alternate_writtenStation (g := g) h⟩⟩⟩,
    exec_clearStation_of_length_ne (n := 0) hr hc, fun hb h => ?_, fun hopen => ⟨fun x hx => ?_, ?_⟩,
    exec_setLockout_of_odd (n := 0) hr hc, fun l hl => ⟨fun h => ?_, fun h => ?_, fun m => mem_indexSet⟩⟩
  · exact exec_setStation_of_not_open (n := 0) hr hc hb (h.imp_left (setupOpen_eq_false_iff s).mpr)
  · exact exec_setStation_of_not_fit (n := 0) hr hc hb ((setupOpen_iff s).mpr hopen) hg h
  · exact exec_setStation_of_fit (n := 0) hr hc hb ((setupOpen_iff s).mpr hopen) hg h hi
  · exact exec_clearStation_of_not_open (n := 0) hr hc hb ((setupOpen_eq_false_iff s).mpr h)
  · exact exec_clearStation_of_ge (n := 0) hr hc ((setupOpen_iff s).mpr hopen) hx
  · exact exec_clearStation_of_index (n := 0) hr hc ((setupOpen_iff s).mpr hopen)
  · exact exec_setLockout_of_bad (n := 0) hr hc hl (lockout_check_iff.mpr h)
  · exact exec_setLockout_of_good (n := 0) hr hc hl fun hbad => lockout_check_iff.mp hbad h

/-! ## STATION ON and STATION OFF -/

theorem mapEntries_length (f : Nat → TrackEntry → TrackEntry) (q : Nat) (l : List TrackEntry) :
    (mapEntries f q l).length = l.length := by
  induction l generalizing q with
  | nil => rfl
  | cons t rest ih => simp [mapEntries, ih]

theorem getElem?_mapEntries (f : Nat → TrackEntry → TrackEntry) (q k : Nat) (l : List TrackEntry) :
    (mapEntries f q l)[k]? = l[k]?.map (f (q + k)) := by
  induction l generalizing q k with
  | nil => rfl
  | cons t rest ih =>
    cases k with
    | zero => rfl
    | succ k =>
      simp only [mapEntries, List.getElem?_cons_succ, ih]
      rw [show q + 1 + k = q + (k + 1) by omega]

theorem stationAt_setStationEntry (i k : Fin 12) (e : Option Station) (s : State) :
    stationAt k (setStationEntry i e s) = if k = i then e else stationAt k s := by
  by_cases h : k = i
  · subst h; simp [stationAt, setStationEntry]
  · have hne : i.val ≠ k.val := fun e => h (Fin.ext e).symm
    simp [stationAt, setStationEntry, h, hne]

section
variable {n : Nat} {num : Byte} {b : List Byte} {i : Fin 12} {e : Station} {s : State}

theorem stationAt_silent (p : Port) (i : Fin 12) (s : State) : stationAt i (silent p s) = stationAt i s := by
  simp [stationAt]

theorem stationRequest_of_entry (effect : Fin 12 → Station → State → State) {u : State} (h : stationAt i u = some e) :
    stationRequest .line num [BitVec.ofNat 8 i.val] effect u = accept .line num (effect i e u) := by
  have hfield : field [BitVec.ofNat 8 i.val] 0 1 = i.val := by rw [field_singleton, toNat_station]
  simp [stationRequest, hfield, stationIndex_val, h]

theorem stationRequest_of_empty (effect : Fin 12 → Station → State → State) {u : State} (h : stationAt i u = none) :
    stationRequest .line num [BitVec.ofNat 8 i.val] effect u = refuse .line num .wrongState u := by
  have hfield : field [BitVec.ofNat 8 i.val] 0 1 = i.val := by rw [field_singleton, toNat_station]
  simp [stationRequest, hfield, stationIndex_val, h]

theorem stationRequest_of_ge (effect : Fin 12 → Station → State → State) {x : Byte} (h : 12 ≤ x.toNat) (u : State) :
    stationRequest .line num [x] effect u = refuse .line num .outOfRange u := by
  simp [stationRequest, field_singleton, stationIndex_of_ge h]

theorem stationRequest_of_length_ne (effect : Fin 12 → Station → State → State) (h : b.length ≠ 1) (u : State) :
    stationRequest .line num b effect u = refuse .line num .badLength u := by
  simp [stationRequest, h]

theorem silent_setStationEntry (p : Port) (x : Option Station) :
    silent p (setStationEntry i x s) = setStationEntry i x (silent p s) := by
  simp only [setStationEntry, silent_setSetup, silent_keeps]

/-- The track after a STATION OFF (R88). -/
def replannedTrack (i : Fin 12) (e : Station) (s : State) : List TrackEntry :=
  mapEntries (replanEntry i e (setStationEntry i (some { e with on := false }) s)) 0 s.track

theorem replanEntry_silent (p : Port) :
    replanEntry i e (silent p s) = replanEntry i e s := by
  funext q t
  cases t with
  | piece x =>
    have hdue : replanDue i e q x (silent p s) = replanDue i e q x s := by simp only [replanDue, silent_keeps]
    have hahead : alternateAhead e q (silent p s) = alternateAhead e q s := by
      simp only [alternateAhead, stationAt_silent]
    simp only [replanEntry, hdue, hahead]
  | empty => rfl
  | locked => rfl
  | stray => rfl
  | gated => rfl

theorem switchOff_silent (p : Port) : switchOff i e (silent p s) =
    silent p ((setStationEntry i (some { e with on := false }) s).setTrack (replannedTrack i e s)) := by
  rw [silent_setTrack, silent_setStationEntry, switchOff, replan, ← silent_setStationEntry, replanEntry_silent]
  simp [replannedTrack, silent_setStationEntry]

/-- The replan moves a piece to the alternate ahead of it (R88). -/
theorem replannedTrack_moved {q : Nat} {x : Piece} {a : Fin 12} {ea : Station} (ht : s.track[q]? = some (.piece x))
    (hdue : replanDue i e q x s = true) (halt : e.alternate = some a) (hai : a ≠ i)
    (hea : stationAt a s = some ea) (hon : ea.on = true) (hitem : ea.item = e.item) (hq : q < ea.position) :
    (replannedTrack i e s)[q]? = some (.piece (movePlan i a x)) := by
  have hahead : alternateAhead e q (setStationEntry i (some { e with on := false }) s) = some a := by
    simp [alternateAhead, halt, stationAt_setStationEntry, hai, hea, hon, hitem, hq]
  have hdue' : replanDue i e q x (setStationEntry i (some { e with on := false }) s) = true := hdue
  rw [replannedTrack, getElem?_mapEntries, ht, Nat.zero_add]
  simp only [Option.map_some, replanEntry, hdue', if_true, hahead]

/-- The replan leaves an entry that is no piece to be moved (R88). -/
theorem replannedTrack_kept {q : Nat} {t : TrackEntry} (ht : s.track[q]? = some t)
    (h : ∀ x, t = .piece x → replanDue i e q x s = false ∨
      ∀ a ea, e.alternate = some a → stationAt a s = some ea →
        a = i ∨ ea.on = false ∨ ea.item ≠ e.item ∨ ea.position ≤ q) :
    (replannedTrack i e s)[q]? = some t := by
  rw [replannedTrack, getElem?_mapEntries, ht, Nat.zero_add, Option.map_some]
  cases t with
  | piece x =>
    congr 1
    have hdue : replanDue i e q x (setStationEntry i (some { e with on := false }) s) = replanDue i e q x s := rfl
    simp only [replanEntry, hdue]
    rcases h x rfl with h | h
    · simp [h]
    · have hahead : alternateAhead e q (setStationEntry i (some { e with on := false }) s) = none := by
        unfold alternateAhead
        cases halt : e.alternate with
        | none => rfl
        | some a =>
          simp only [stationAt_setStationEntry]
          by_cases hai : a = i
          · simp [hai]
          · cases hea : stationAt a s with
            | none => simp [hai]
            | some ea =>
              have := h a ea halt hea
              simp only [hai, if_false, false_or] at this ⊢
              refine if_neg ?_
              simp only [Bool.and_eq_true, decide_eq_true_eq]
              rcases this with h | h | h
              · simp [h]
              · simp [h]
              · exact fun hlt => absurd hlt.2 (Nat.not_lt.mpr h)
      split <;> simp [hahead]
  | empty => rfl
  | locked => rfl
  | stray => rfl
  | gated => rfl

theorem replanDue_iff {q : Nat} {x : Piece} : replanDue i e q x s = true ↔
    q ≤ e.position ∧ planPending i x = true ∧ ¬(q = e.position ∧ s.callOutstanding[i] = true) := by
  simp only [replanDue, Bool.and_eq_true, Bool.not_eq_true', decide_eq_true_eq, Bool.and_eq_false_iff,
    decide_eq_false_iff_not, not_and_or, and_assoc, Bool.not_eq_true]

end

/-- Settles O21: the checks, the switch, and the replan entry by entry. -/
theorem stationsAreSwitchedAndPiecesReplanned : Obligations.StationsAreSwitchedAndPiecesReplanned := by
  intro num i s hr
  refine ⟨fun b hb => ?_, fun x hx => ?_, fun hnone => ?_, fun e he => ⟨?_, replannedTrack i e s, ?_,
    mapEntries_length _ _ _, fun q t ht => ⟨?_, fun h => replannedTrack_kept ht fun x hx => ?_⟩⟩⟩
  · simp only [List.forall_mem_cons]
    refine ⟨?_, ?_, fun _ h => absurd h List.not_mem_nil⟩
    all_goals exact exec_refused (n := 0) hr _ rfl (stationRequest_of_length_ne _ hb)
  · simp only [List.forall_mem_cons]
    refine ⟨?_, ?_, fun _ h => absurd h List.not_mem_nil⟩
    all_goals exact exec_refused (n := 0) hr _ rfl (stationRequest_of_ge _ hx)
  · have hnone' : stationAt i (silent .line s) = none := by rwa [stationAt_silent]
    simp only [List.forall_mem_cons]
    refine ⟨?_, ?_, fun _ h => absurd h List.not_mem_nil⟩
    · exact answerMessage_reply (n := 0) hr _ _ (takeStationOn .line num _) (stationRequest_of_empty _ hnone')
    · exact answerMessage_reply (n := 0) hr _ _ (takeStationOff .line num _) (stationRequest_of_empty _ hnone')
  · have he' : stationAt i (silent .line s) = some e := by rwa [stationAt_silent]
    refine answerMessage_effect (n := 0) hr (by exact rfl) _ _ (takeStationOn .line num _) ?_
    rw [takeStationOn, stationRequest_of_entry _ he']
    exact congrArg (accept .line num) (silent_setStationEntry ..).symm
  · have he' : stationAt i (silent .line s) = some e := by rwa [stationAt_silent]
    refine answerMessage_effect (n := 0) hr (by exact rfl) _ _ (takeStationOff .line num _) ?_
    rw [takeStationOff, stationRequest_of_entry _ he', switchOff_silent]
    rfl
  · rintro x a ea rfl hq hpending hcall halt hai hea hon hitem hahead
    exact replannedTrack_moved ht (replanDue_iff.mpr ⟨hq, hpending, hcall⟩) halt hai hea hon hitem hahead
  · rw [← Bool.not_eq_true, replanDue_iff]
    rcases h x hx with h | h | h | h
    · exact .inl fun hd => absurd hd.1 (Nat.not_le.mpr h)
    · exact .inl fun hd => absurd hd.2.1 (by simp [h])
    · exact .inl fun hd => hd.2.2 h
    · exact .inr h

end Sys2Proof.Machine


/-! RESTART (R30, R38, R39, R174). -/

namespace Sys2Proof.Machine

/-! ## Ports -/

theorem portState_appended_same (p : Port) (f : Frame) (s : State) :
    portState p (appended p f s) = { portState p s with tx := txQueue p s ++ [f] } := by
  simp [appended]

theorem portState_appended_other {p q : Port} (f : Frame) (s : State) (h : q ≠ p) :
    portState q (appended p f s) = portState q s :=
  portState_setPortState_other _ _ h

/-- A message appended for several ports reaches the queue of each of them and nothing else of a port. -/
theorem portState_foldAppended (q : Port) (f : Frame) (ps : List Port) (hnd : ps.Nodup) (s : State) :
    portState q (ps.foldl (fun s p => appended p f s) s) =
      { portState q s with tx := txQueue q s ++ if q ∈ ps then [f] else [] } := by
  induction ps generalizing s with
  | nil => simp [txQueue]
  | cons p ps ih =>
    obtain ⟨hp, hps⟩ := List.nodup_cons.mp hnd
    rw [List.foldl_cons, ih hps]
    by_cases hq : q = p
    · subst hq; simp [hp, portState_appended_same]
    · simp [txQueue_appended_other f s hq, portState_appended_other f s hq, hq]

theorem portState_silent (p q : Port) (s : State) :
    portState q (silent p s) = if q = p then { portState p s with receiver := .idle } else portState q s := by
  have hl : (silent p s).link = (setPortState p { portState p s with receiver := .idle } s).link :=
    restartClaimTimer_link _ _
  have hport : portState q (silent p s) = portState q (setPortState p { portState p s with receiver := .idle } s) := by
    simp only [portState, hl]
  rw [hport]
  by_cases h : q = p
  · subst h; simp
  · simp [h, portState_setPortState_other _ _ h]

theorem nodup_allPorts : allPorts.Nodup := by decide

/-! ## RESTART -/

theorem portState_restartedState (q : Port) (s : State) :
    portState q (restartedState s) = restartedPort (portState q s) := by
  cases q <;> rfl

theorem roomy_restartedState (s : State) : Roomy 2 (restartedState s) := by
  refine ⟨rfl, fun p => ?_⟩
  rw [txQueue, portState_restartedState]
  exact Nat.le_of_ble_eq_true rfl

/-- The state that an accepted RESTART leaves. -/
def restartAnswer (p : Port) (num : Byte) (u : State) : State :=
  allPorts.foldl (fun s q => appended q (stateFrame .restart) s) (appended p (acceptFrame num []) (restartedState u))

theorem exec_restart {n : Nat} {p : Port} {num : Byte} {s : State}
    (h : s.run.claim = some { holder := p, elapsed := n }) :
    exec (.restart p num []) s = .next (restartAnswer p num (silent p s)) := by
  have hroom := roomy_restartedState (silent p s)
  have hroom' := Roomy.appended (n := 1) hroom p (acceptFrame num [])
  have htake : takeRestart p num [] (silent p s) = restartAnswer p num (silent p s) := by
    rw [restartAnswer, ← postTo_of_room _ _ _ nodup_allPorts fun q _ => hroom'.hasRoom q]
    simp [takeRestart, isHolder_silent_of_claim h, accept, post_of_roomy (n := 1) hroom]
  have hdone : Roomy 0 (restartAnswer p num (silent p s)) := Roomy.foldAppended _ _ nodup_allPorts hroom'
  show answerMessage p (takeRestart p num []) s = _
  rw [answerMessage, beginMessage_eq_silent, htake, settle_of_roomy hdone]

/-- An accepted RESTART changes the link unit last. -/
theorem restartAnswer_changes_link_only (p : Port) (num : Byte) (u : State) :
    restartAnswer p num u = (restartedState u).setLink (restartAnswer p num u).link := by
  rw [restartAnswer, foldAppended_changes_link_only, appended_changes_link_only]
  rfl

theorem portState_restartAnswer (p q : Port) (num : Byte) (u : State) : portState q (restartAnswer p num u) = {
    speed := (portState q u).speed
    receiver := .idle
    tx := if q = p then [acceptFrame num [], stateFrame .restart] else [stateFrame .restart] } := by
  rw [restartAnswer, portState_foldAppended _ _ _ nodup_allPorts, if_pos (mem_allPorts q)]
  by_cases h : q = p
  · subst h
    rw [portState_appended_same, txQueue_appended_same, txQueue, portState_restartedState, if_pos rfl]
    rfl
  · rw [portState_appended_other _ _ h, txQueue_appended_other _ _ h, txQueue, portState_restartedState, if_neg h]
    rfl

/-- Settles O22: the state after RESTART, with its ACCEPT and its notices. -/
theorem restartKeepsTheSetup : Obligations.RestartKeepsTheSetup := by
  intro p num n s h
  refine ⟨fun hr b hb => ?_, restartAnswer p num (silent p s), exec_restart h, ?_⟩
  · refine answerMessage_reply (n := 0) hr _ _ (takeRestart p num b) ?_
    simp [takeRestart, isHolder_silent_of_claim h, hb, refuse]
  · have hrun : (silent p s).run.claim = some { holder := p, elapsed := 0 } := by rw [claim_silent_holder h]
    have hports : ∀ q, portState q (restartAnswer p num (silent p s)) = {
        speed := (portState q s).speed
        receiver := .idle
        tx := if q = p then [acceptFrame num [], stateFrame .restart] else [stateFrame .restart] } := fun q => by
      rw [portState_restartAnswer, portState_silent]
      split <;> simp_all
    have hlast := restartAnswer_changes_link_only p num (silent p s)
    generalize restartAnswer p num (silent p s) = t at hlast hports
    have htrack : t.track = restartedTrack s.setup := by rw [hlast]; simp [restartedState]
    refine ⟨?_, ?_, ?_, ?_, ?_, ?_, ?_, ?_, ?_, ?_, ?_, ?_, ?_, fun g hg => ?_, fun hg => ?_, hports⟩
    · rw [hlast]; simp [restartedState]
    · rw [hlast]; simp [restartedState]
    · rw [hlast]; simp [restartedState, restartedFaults]
    · rw [hlast]; simp [restartedState, hrun]
    · rw [hlast]; rfl
    · rw [hlast]; rfl
    · rw [hlast]; rfl
    · rw [hlast]; rfl
    · rw [hlast]; rfl
    · rw [hlast]; rfl
    · rw [hlast]; rfl
    · rw [hlast]; rfl
    · rw [hlast]; simp [restartedState, powerOnState]
    · simp [htrack, restartedTrack, hg, emptyPositions]
    · simp [htrack, restartedTrack, hg]

end Sys2Proof.Machine


/-! The receiver: characters, completed, damaged and late messages (R166 to R169). -/

namespace Sys2Proof.Machine

/-! ## The receiver's state -/

theorem txQueue_setReceiver (p q : Port) (x : Receiver) (s : State) :
    txQueue q (setReceiver p x s) = txQueue q s := by
  by_cases h : q = p
  · subst h; simp [setReceiver, txQueue]
  · simp [setReceiver, txQueue, portState_setPortState_other _ _ h]

theorem Roomy.setReceiver {n : Nat} {s : State} (h : Roomy n s) (p : Port) (x : Receiver) :
    Roomy n (setReceiver p x s) :=
  ⟨h.1, fun q => by rw [txQueue_setReceiver]; exact h.2 q⟩

theorem Roomy.linkError {n : Nat} {s : State} (h : Roomy (n + 2) s) (p : Port) : Roomy n (linkError p s) := h.raise _

section
variable {n : Nat} {p : Port} {b : Byte} {chars : List Byte} {gap : Nat} {s : State}

theorem takeCharacter_of_bad_stop (m : Bool) :
    takeCharacter p { data := b, marker := m, stopGood := false } s = linkError p (setReceiver p .idle s) := rfl

theorem takeCharacter_idle_marked (h : (portState p s).receiver = .idle) :
    takeCharacter p { data := b, marker := true, stopGood := true } s = setReceiver p (.inMessage [b] 0) s := by
  simp [takeCharacter, h]

theorem takeCharacter_idle_unmarked (h : (portState p s).receiver = .idle) :
    takeCharacter p { data := b, marker := false, stopGood := true } s = s := by
  simp [takeCharacter, h]

theorem takeCharacter_inMessage_marked (h : (portState p s).receiver = .inMessage chars gap) :
    takeCharacter p { data := b, marker := true, stopGood := true } s =
      linkError p (setReceiver p (.inMessage [b] 0) s) := by
  simp [takeCharacter, h, abandonMessage]

theorem takeCharacter_inMessage_unmarked (h : (portState p s).receiver = .inMessage chars gap) :
    takeCharacter p { data := b, marker := false, stopGood := true } s = continueMessage p chars b s := by
  simp [takeCharacter, h]

theorem expectsCheck_of_length_lt (h : chars.length < 3) : expectsCheck chars = false := by
  match chars, h with
  | [], _ => rfl
  | [_], _ => rfl
  | [_, _], _ => rfl

theorem continueMessage_of_long (hlen : chars.length = 2) (hb : 240 < b.toNat) :
    continueMessage p chars b s = linkError p (setReceiver p .idle s) := by
  have hb' : Config.payloadLimit < b.toNat := hb
  simp [continueMessage, expectsCheck_of_length_lt (chars := chars) (by omega), hlen, hb', abandonMessage]

/-- A character that neither completes the message nor gives it too long a payload is taken in it. -/
theorem continueMessage_of_open (hopen : expectsCheck chars = false) (hb : chars.length = 2 → b.toNat ≤ 240) :
    continueMessage p chars b s = setReceiver p (.inMessage (chars ++ [b]) 0) s := by
  have hb' : ¬(chars.length = 2 ∧ Config.payloadLimit < b.toNat) := fun h => Nat.not_lt.mpr (hb h.1) h.2
  simp [continueMessage, hopen, hb']

end

/-- Settles O4: each character by the receiver's state and its place in the message. -/
theorem receiverTakesEachCharacter : Obligations.ReceiverTakesEachCharacter := by
  intro p b s hr
  have herr : ∀ x, Roomy 0 (linkError p (setReceiver p x s)) := fun x => (hr.setReceiver p x).linkError p
  have hset : ∀ x, Roomy 2 (setReceiver p x s) := hr.setReceiver p
  refine ⟨fun m => answerEvent_of_roomy (herr _) (takeCharacter_of_bad_stop m),
    fun h => ⟨answerEvent_of_roomy (hset _) (takeCharacter_idle_marked h),
      answerEvent_of_roomy hr (takeCharacter_idle_unmarked h)⟩,
    fun chars gap h => ⟨answerEvent_of_roomy (herr _) (takeCharacter_inMessage_marked h), fun hlen hb => ?_,
      fun hlen hb => ?_, fun kind num n payload hchars hlen => ?_⟩⟩
  · exact answerEvent_of_roomy (herr _) ((takeCharacter_inMessage_unmarked h).trans (continueMessage_of_long hlen hb))
  · exact answerEvent_of_roomy (hset _)
      ((takeCharacter_inMessage_unmarked h).trans (continueMessage_of_open (expectsCheck_of_length_lt hlen) hb))
  · subst hchars
    have hopen : expectsCheck (kind :: num :: n :: payload) = false := decide_eq_false (Nat.ne_of_lt hlen)
    exact answerEvent_of_roomy (hset _)
      ((takeCharacter_inMessage_unmarked h).trans (continueMessage_of_open hopen (by simp)))

/-! ## Completed messages -/

/-- A message is taken and has its effect in the block that owns it. -/
def IsMessage (c : Instr) (p : Port) : Prop := ∀ s, exec c s = answerMessage p (routeMessage c) s

/-- What the kind table gives is a message of its port. -/
theorem isMessage_commandOfMessage (p : Port) (kind num : Byte) (payload : List Byte) :
    IsMessage (commandOfMessage p kind num payload) p := by
  intro s
  unfold commandOfMessage
  split <;> rfl

theorem completeMessage_of_good {p : Port} {kind num n check : Byte} {payload : List Byte} {s : State}
    (h : check = crc8 (kind :: num :: n :: payload)) : completeMessage p (kind :: num :: n :: payload) check s =
      routeMessage (commandOfMessage p kind num payload) (beginMessage p s) := if_pos h.symm

theorem completeMessage_of_bad {p : Port} {kind num n check : Byte} {payload : List Byte} {s : State}
    (h : check ≠ crc8 (kind :: num :: n :: payload)) :
    completeMessage p (kind :: num :: n :: payload) check s = failCheck p kind num s := if_neg (Ne.symm h)

/-- Settles O5: the check byte completes the message, good or damaged. -/
theorem completedMessageIsItsCommand : Obligations.CompletedMessageIsItsCommand := by
  intro p kind num n payload gap s hlen hrecv check
  have hcheck : expectsCheck (kind :: num :: n :: payload) = true := decide_eq_true hlen
  have htake : takeCharacter p { data := check, marker := false, stopGood := true } s =
      completeMessage p (kind :: num :: n :: payload) check s := by
    rw [takeCharacter_inMessage_unmarked hrecv, continueMessage, if_pos hcheck]
  show answerEvent (takeCharacter p _) s = _
  rw [answerEvent, htake]
  split
  · next h =>
    rw [completeMessage_of_good h, isMessage_commandOfMessage]
    rfl
  · next h =>
    rw [completeMessage_of_bad h]
    rfl

/-! ## Damaged, unknown and late messages -/

/-- Settles O6: the failed check by the kind, the unknown kind, and the gap's expiry by the receiver. -/
theorem damagedUnknownAndLateMessages : Obligations.DamagedUnknownAndLateMessages := by
  intro p kind num s hr
  have hidle : Roomy 1 (linkError p (setReceiver p .idle s)) := (hr.setReceiver p .idle).linkError p
  refine ⟨?_, ?_, fun chars gap h => ?_, fun h => ?_⟩
  · show answerEvent (failCheck p kind num) s = _
    unfold failCheck abandonMessage
    cases isRequestKind kind with
    | true => exact answerEvent_post (n := 0) hidle rfl
    | false => exact answerEvent_of_roomy hidle rfl
  · exact exec_refused (n := 2) hr (takeUnknownKind p num) rfl fun u => rfl
  · exact answerEvent_of_roomy (effect := expireGap p) hidle (by simp [expireGap, h, abandonMessage])
  · exact answerEvent_of_roomy (effect := expireGap p) hr (by simp [expireGap, h])

end Sys2Proof.Machine


/-! What is queued stays queued, and what the checks of the bundles and of the job do (R44, R137 to R141). -/

namespace Sys2Proof.Machine

/-! ## The parts of a job's completion -/

/-- A completed job's JOB COMPLETE is queued. -/
def jobNotified (s : State) : State :=
  post .address (jobCompleteFrame s.store.jobNumber (s.store.jobState = .aborting)) s

/-- A completed job's JOB COMPLETE is queued and its load mark cleared. -/
def jobUnmarked (s : State) : State := (jobNotified s).setStore { (jobNotified s).store with loadMark := 0 }

theorem completeJob_eq (s : State) :
    completeJob s = closeGate (endEpisodes (changeJob .noJob none (jobUnmarked s))) := rfl

/-! ## Queues that grow -/

/-- Every transmit queue of `s` stands at the front of that of `t`. -/
def Grows (s t : State) : Prop := ∀ p, txQueue p s <+: txQueue p t

namespace Grows

variable {s t u : State}

theorem refl (s : State) : Grows s s := fun _ => List.prefix_rfl

theorem trans (h : Grows s t) (h' : Grows t u) : Grows s u := fun p => (h p).trans (h' p)

theorem of_link (h : t.link = s.link) : Grows s t := fun p => by
  simp only [txQueue, portState, h]
  exact List.prefix_rfl

/-- What does not touch the link unit before the messages. -/
theorem from_link (h : Grows t u) (hl : t.link = s.link) : Grows s u := (of_link hl).trans h

/-- What does not touch the link unit after the messages. -/
theorem to_link (h : Grows s t) (hl : u.link = t.link) : Grows s u := h.trans (of_link hl)

theorem post (p : Port) (f : Frame) (s : State) : Grows s (post p f s) := fun q => by
  by_cases hq : q = p
  · subst hq
    cases hr : txHasRoom q s with
    | true => rw [txQueue_post_same hr]; exact List.prefix_append _ _
    | false => rw [post_of_full hr]; exact List.prefix_rfl
  · rw [txQueue_post_other f s hq]

theorem postTo (ps : List Port) (f : Frame) (s : State) : Grows s (postTo ps f s) := by
  induction ps generalizing s with
  | nil => exact refl s
  | cons p ps ih => exact (post p f s).trans (ih _)

theorem postState (c : StateChange) (s : State) : Grows s (postState c s) := postTo _ _ _

theorem changeGate (g : GateState) (s : State) : Grows s (changeGate g s) := by
  unfold Machine.changeGate
  split
  · exact refl s
  · exact (postState _ _).from_link (by exact rfl)

theorem closeGate (s : State) : Grows s (closeGate s) := by
  unfold Machine.closeGate
  split
  · exact changeGate _ s
  · exact changeGate _ s
  · exact refl s
  · exact refl s

theorem enterLog (c : LogClass) (f : FaultRecord) (s : State) : Grows s (enterLog c f s) := by
  unfold Machine.enterLog
  split
  · exact (postTo _ _ _).from_link (by simp)
  · exact of_link (by simp)

theorem setStopLatch (s : State) : Grows s (setStopLatch s) := by
  unfold Machine.setStopLatch
  split
  · exact refl s
  · exact (changeGate _ _).from_link (by exact rfl)

theorem raise (f : FaultRecord) (s : State) : Grows s (raise f s) := by
  by_cases ha : actionOf f.kind s = .off
  · rw [raise_of_off ha]
    exact refl s
  · rw [raise_of_not_off ha]
    have hc : Grows s (countedAndSteered f.kind s) := of_link (by rw [countedAndSteered_eq]; rfl)
    refine hc.trans ?_
    unfold logAndStop
    split
    · exact refl _
    · exact refl _
    · exact enterLog _ _ _
    · exact (enterLog _ _ _).trans (setStopLatch _)

theorem foldOverflows (ps : List Port) (s : State) : Grows s (ps.foldl (fun s p => raiseOverflow p s) s) := by
  induction ps generalizing s with
  | nil => exact refl s
  | cons p ps ih => exact (raise _ s).trans (ih _)

theorem takeOverflows (s : State) : Grows s (takeOverflows s) :=
  Grows.trans (t := s.setLink { s.link with dropped := [] }) (fun _ => List.prefix_rfl) (foldOverflows _ _)

theorem settle (s : State) : Grows s (settle s) := (takeOverflows s).trans (takeOverflows _)

theorem changeJob (j : JobState) (n : Option Nat) (s : State) : Grows s (changeJob j n s) :=
  (postState _ _).from_link (by exact rfl)

theorem completeJob (s : State) : Grows s (completeJob s) := by
  rw [completeJob_eq]
  exact (post _ _ s).trans ((((changeJob .noJob none _).to_link (by exact rfl)).from_link (by exact rfl)).trans
    (closeGate _))

theorem completionCheck (s : State) : Grows s (completionCheck s) := by
  unfold Machine.completionCheck
  split
  · exact completeJob s
  · exact refl s

theorem closeBundle (b : Bundle) (s : State) : Grows s (closeBundle b s) := by
  unfold Machine.closeBundle
  split
  · exact ((post _ _ _).trans (completionCheck _)).from_link (by simp)
  · exact (post .delivery (breakFrame b.number b.bay b.delivered) s).to_link (by simp)

theorem closeCheck (n : Nat) (s : State) : Grows s (closeCheck n s) := by
  unfold Machine.closeCheck
  split
  · exact refl s
  · split
    · exact closeBundle _ s
    · exact refl s

end Grows

theorem Grows.exists_append {s t : State} (h : Grows s t) (p : Port) : ∃ more, txQueue p t = txQueue p s ++ more := by
  obtain ⟨more, hmore⟩ := h p
  exact ⟨more, hmore.symm⟩

/-- A message queued on the way stands behind those that were there before. -/
theorem Queued.of_grows {p : Port} {f : Frame} {s u v t : State} (h : Grows s u)
    (hv : txQueue p v = txQueue p u ++ [f]) (h' : Grows v t) : Queued p f s t := by
  obtain ⟨before, hbefore⟩ := h.exists_append p
  obtain ⟨more, hmore⟩ := h'.exists_append p
  exact ⟨before, more, by rw [hmore, hv, hbefore]; simp⟩

/-! ## The job's completion -/

theorem completionReady_iff (s : State) : completionReady s = true ↔
    (s.store.jobState = .ended ∨ s.store.jobState = .aborting) ∧ NothingHeld s := by
  simp only [completionReady, jobFinishing, trackClear, NothingHeld, Bool.and_eq_true, decide_eq_true_eq,
    List.isEmpty_iff, and_assoc]

theorem completionCheck_of_ready {s : State} (h : completionReady s = true) : completionCheck s = completeJob s :=
  if_pos h

theorem completionCheck_of_not_ready {s : State} (h : ¬completionReady s = true) : completionCheck s = s := if_neg h

theorem run_closeGate (s : State) :
    (closeGate s).run = { s.run with gate := if s.run.gate = .halt then .halt else .closed } := by
  unfold closeGate
  cases h : s.run.gate with
  | closed => simp only [reduceCtorEq, if_false]; rw [← h]
  | opened => simp [run_changeGate]
  | drain => simp [run_changeGate]
  | halt => simp only [if_true]; rw [← h]

theorem store_completeJob (s : State) : (completeJob s).store = { s.store with
    jobState := .noJob, jobNumber := none, loadMark := 0 } := by
  simp [completeJob, changeJob]

theorem entry_completeJob (s : State) :
    (completeJob s).entry = { s.entry with starving := false, itemUnavailable := false } := by
  simp [completeJob, endEpisodes]

theorem run_completeJob (s : State) :
    (completeJob s).run = { s.run with gate := if s.run.gate = .halt then .halt else .closed } := by
  simp [completeJob, run_closeGate]

theorem Roomy.changeJob {n : Nat} {s : State} (h : Roomy (n + 1) s) (j : JobState) (k : Option Nat) :
    Roomy n (changeJob j k s) :=
  Roomy.postTo (s := s.setStore { s.store with jobState := j, jobNumber := k }) (h.of_link rfl)
    (nodup_stateSubscribers _) _

theorem Roomy.closeGate {n : Nat} {s : State} (h : Roomy (n + 1) s) : Roomy n (closeGate s) := by
  unfold Machine.closeGate
  split
  · exact h.changeGate _
  · exact h.changeGate _
  · exact h.mono (Nat.le_succ n)
  · exact h.mono (Nat.le_succ n)

theorem Roomy.jobUnmarked {n : Nat} {s : State} (h : Roomy (n + 1) s) : Roomy n (jobUnmarked s) :=
  Roomy.of_link (h.post .address _) rfl

theorem Roomy.completeJob {n : Nat} {s : State} (h : Roomy (n + 3) s) : Roomy n (completeJob s) :=
  Roomy.closeGate (Roomy.of_link (Roomy.changeJob (n := n + 1) h.jobUnmarked .noJob none) rfl)

theorem Roomy.completionCheck {n : Nat} {s : State} (h : Roomy (n + 3) s) : Roomy n (completionCheck s) := by
  unfold Machine.completionCheck
  split
  · exact h.completeJob
  · exact h.mono (by omega)

theorem txQueue_postState {n : Nat} {s : State} (h : Roomy (n + 1) s) (c : StateChange) (p : Port) :
    txQueue p (postState c s) =
      txQueue p s ++ if (subscription p s).state = true then [stateFrame c] else [] := by
  rw [postState, txQueue_postTo_of_room (nodup_stateSubscribers s) fun q _ => h.hasRoom q]
  simp only [mem_stateSubscribers]

theorem txQueue_post {n : Nat} {s : State} (h : Roomy (n + 1) s) (q p : Port) (f : Frame) :
    txQueue p (post q f s) = txQueue p s ++ if p = q then [f] else [] := by
  by_cases hp : p = q
  · subst hp; rw [txQueue_post_same (h.hasRoom p), if_pos rfl]
  · rw [txQueue_post_other f s hp, if_neg hp, List.append_nil]

theorem txQueue_changeJob {n : Nat} {s : State} (h : Roomy (n + 1) s) (j : JobState) (k : Option Nat) (p : Port) :
    txQueue p (changeJob j k s) =
      txQueue p s ++ if (subscription p s).state = true then [stateFrame (.job j k)] else [] :=
  txQueue_postState (s := s.setStore { s.store with jobState := j, jobNumber := k }) (h.of_link rfl) _ p

theorem txQueue_closeGate {n : Nat} {s : State} (h : Roomy (n + 1) s) (p : Port) :
    txQueue p (closeGate s) = txQueue p s ++
      if (s.run.gate = .opened ∨ s.run.gate = .drain) ∧ (subscription p s).state = true then
        [stateFrame (.gate .closed)] else [] := by
  unfold closeGate
  cases hg : s.run.gate with
  | closed => simp
  | opened => simp [txQueue_changeGate h, hg]
  | drain => simp [txQueue_changeGate h, hg]
  | halt => simp

/-- The messages of a job's completion (R26, R44). -/
theorem txQueue_completeJob {n : Nat} {s : State} (h : Roomy (n + 3) s) (p : Port) :
    txQueue p (completeJob s) =
      txQueue p s ++ completionNotices (decide (s.store.jobState = .aborting)) p s := by
  have h1 : Roomy (n + 2) (jobUnmarked s) := Roomy.jobUnmarked (n := n + 2) h
  have h2 : Roomy (n + 1) (endEpisodes (changeJob .noJob none (jobUnmarked s))) :=
    Roomy.of_link (Roomy.changeJob (n := n + 1) h1 .noJob none) rfl
  have hq1 : txQueue p (jobUnmarked s) = txQueue p s ++
      if p = .address then [jobCompleteFrame s.store.jobNumber (s.store.jobState = .aborting)] else [] :=
    txQueue_post (n := n + 2) h .address p _
  have hsub1 : subscription p (jobUnmarked s) = subscription p s := by simp [subscription, jobUnmarked, jobNotified]
  have hsub2 : subscription p (endEpisodes (changeJob .noJob none (jobUnmarked s))) = subscription p s := by
    simp [subscription, jobUnmarked, jobNotified]
  have hrun : (endEpisodes (changeJob .noJob none (jobUnmarked s))).run = s.run := by simp [jobUnmarked, jobNotified]
  have hq2 : txQueue p (endEpisodes (changeJob .noJob none (jobUnmarked s))) =
      txQueue p (jobUnmarked s) ++ if (subscription p s).state = true then [stateFrame (.job .noJob none)] else [] :=
    (txQueue_changeJob (n := n + 1) h1 .noJob none p).trans (by rw [hsub1])
  rw [completeJob_eq, txQueue_closeGate h2, hq2, hq1, hsub2, hrun, completionNotices]
  by_cases hs : (subscription p s).state = true
  · by_cases hg : s.run.gate = .opened ∨ s.run.gate = .drain <;> simp [hs, hg]
  · simp [hs]

end Sys2Proof.Machine


/-! The bundle unit: the close check, the sealing, the ties and the jams (R137 to R147), and the ends of a job (R41, R42,
R44). -/

namespace Sys2Proof.Machine

/-! ## The checks -/

/-- A change of a bundle's entry that clears no short flag and brings no bundle back to FILLING. -/
structure BundleKept (f : Bundle → Bundle) : Prop where
  number : ∀ b, (f b).number = b.number
  short : ∀ b, b.short = true → (f b).short = true
  state : ∀ b, (f b).state = .filling → b.state = .filling

/-- Every entry of the table at `t` stood in it at `s`, with no short flag cleared and none brought back to FILLING. -/
def TableKept (s t : State) : Prop :=
  ∀ x ∈ t.bundles.table, ∃ y ∈ s.bundles.table,
    y.number = x.number ∧ (y.short = true → x.short = true) ∧ (x.state = .filling → y.state = .filling)

theorem TableKept.of_bundles {s t : State} (h : t.bundles = s.bundles) : TableKept s t := fun x hx =>
  ⟨x, h ▸ hx, rfl, id, id⟩

theorem TableKept.trans {s t u : State} (h : TableKept s t) (h' : TableKept t u) : TableKept s u := fun x hx => by
  obtain ⟨y, hy, hnumber, hshort, hstate⟩ := h' x hx
  obtain ⟨z, hz, znumber, zshort, zstate⟩ := h y hy
  exact ⟨z, hz, znumber.trans hnumber, hshort ∘ zshort, zstate ∘ hstate⟩

theorem bundleNumbers_updateBundle {f : Bundle → Bundle} (hf : ∀ b, (f b).number = b.number) (n : Nat) (s : State) :
    bundleNumbers (updateBundle n f s) = bundleNumbers s := by
  simp only [bundleNumbers, updateBundle, State.setBundles_bundles, List.map_map]
  exact List.map_congr_left fun b _ => by by_cases h : b.number = n <;> simp [h, hf]

/-- What the completion check, the close checks and the sealing do: the records stay where they are, no bundle comes, the
messages are queued, and the job is as before or completed. -/
structure Checked (s t : State) : Prop where
  queue : t.store.queue = s.store.queue
  lane : t.store.lane = s.store.lane
  map : t.store.map = s.store.map
  text : t.store.textUsed = s.store.textUsed
  backlog : t.store.backlog = s.store.backlog
  track : t.track = s.track
  grows : Grows s t
  numbers : (bundleNumbers t).Sublist (bundleNumbers s)
  table : TableKept s t
  job : (t.store.jobState = s.store.jobState ∧ t.store.jobNumber = s.store.jobNumber ∧
      t.store.loadMark = s.store.loadMark ∧ t.run = s.run ∧ t.entry = s.entry) ∨
    (t.store.jobState = .noJob ∧ t.run.gate ≠ .opened ∧ t.run.gate ≠ .drain ∧ heldRecords s = [])

namespace Checked

variable {s t u : State}

theorem heldRecords (h : Checked s t) : heldRecords t = heldRecords s :=
  Quiet.heldRecords_congr h.queue h.lane h.track

theorem refl (s : State) : Checked s s :=
  ⟨rfl, rfl, rfl, rfl, rfl, rfl, Grows.refl s, List.Sublist.refl _, .of_bundles rfl, .inl ⟨rfl, rfl, rfl, rfl, rfl⟩⟩

theorem trans (h : Checked s t) (h' : Checked t u) : Checked s u where
  queue := h'.queue.trans h.queue
  lane := h'.lane.trans h.lane
  map := h'.map.trans h.map
  text := h'.text.trans h.text
  backlog := h'.backlog.trans h.backlog
  track := h'.track.trans h.track
  grows := h.grows.trans h'.grows
  numbers := h'.numbers.trans h.numbers
  table := h.table.trans h'.table
  job := by
    rcases h'.job with ⟨hstate, hnumber, hmark, hrun, hentry⟩ | ⟨hstate, ho, hd, hheld⟩
    · rcases h.job with ⟨gstate, gnumber, gmark, grun, gentry⟩ | ⟨gstate, go, gd, gheld⟩
      · exact .inl ⟨hstate.trans gstate, hnumber.trans gnumber, hmark.trans gmark, hrun.trans grun,
          hentry.trans gentry⟩
      · exact .inr ⟨hstate.trans gstate, by rwa [hrun], by rwa [hrun], gheld⟩
    · exact .inr ⟨hstate, ho, hd, h.heldRecords ▸ hheld⟩

theorem post (p : Port) (f : Frame) (s : State) : Checked s (post p f s) where
  queue := by simp
  lane := by simp
  map := by simp
  text := by simp
  backlog := by simp
  track := by simp
  grows := Grows.post p f s
  numbers := by simp [bundleNumbers]
  table := .of_bundles (by simp)
  job := by simp

theorem updateBundle {f : Bundle → Bundle} (hf : BundleKept f) (n : Nat) (s : State) :
    Checked s (updateBundle n f s) where
  queue := rfl
  lane := rfl
  map := rfl
  text := rfl
  backlog := rfl
  track := rfl
  grows := Grows.of_link rfl
  numbers := by rw [bundleNumbers_updateBundle hf.number]
  table := fun x hx => by
    simp only [Machine.updateBundle, State.setBundles_bundles, List.mem_map] at hx
    obtain ⟨y, hy, rfl⟩ := hx
    refine ⟨y, hy, ?_⟩
    split
    · exact ⟨(hf.number y).symm, hf.short y, hf.state y⟩
    · exact ⟨rfl, id, id⟩
  job := .inl ⟨rfl, rfl, rfl, rfl, rfl⟩

theorem removeBundle (n : Nat) (s : State) : Checked s (removeBundle n s) where
  queue := rfl
  lane := rfl
  map := rfl
  text := rfl
  backlog := rfl
  track := rfl
  grows := Grows.of_link rfl
  numbers := List.filter_sublist.map _
  table := fun x hx => ⟨x, (List.mem_filter.mp hx).1, rfl, id, id⟩
  job := .inl ⟨rfl, rfl, rfl, rfl, rfl⟩

theorem completionCheck (s : State) : Checked s (completionCheck s) := by
  by_cases h : completionReady s = true
  · rw [completionCheck_of_ready h]
    have hstore := store_completeJob s
    have hrun := run_completeJob s
    refine ⟨by rw [hstore], by rw [hstore], by rw [hstore], by rw [hstore], by rw [hstore], by simp,
      Grows.completeJob s, by simp [bundleNumbers], .of_bundles (by simp), .inr ⟨by rw [hstore], ?_, ?_, ?_⟩⟩
    · rw [hrun]; by_cases hg : s.run.gate = .halt <;> simp [hg]
    · rw [hrun]; by_cases hg : s.run.gate = .halt <;> simp [hg]
    · exact Quiet.heldRecords_of_ready h
  · rw [completionCheck_of_not_ready h]
    exact refl s

theorem closeBundle (b : Bundle) (s : State) : Checked s (closeBundle b s) := by
  unfold Machine.closeBundle
  split
  · exact (removeBundle _ s).trans ((post _ _ _).trans (completionCheck _))
  · exact (post _ _ s).trans (updateBundle (by exact ⟨fun _ => rfl, fun _ => by simp, fun _ => by simp⟩) _ _)

theorem closeCheck (n : Nat) (s : State) : Checked s (closeCheck n s) := by
  unfold Machine.closeCheck
  split
  · exact refl s
  · split
    · exact closeBundle _ s
    · exact refl s

theorem closeChecks (ns : List Nat) (s : State) : Checked s (closeChecks ns s) := by
  unfold Machine.closeChecks
  induction ns generalizing s with
  | nil => exact refl s
  | cons n ns ih => exact (closeCheck n s).trans (ih _)

theorem sealBundle (n : Nat) (s : State) : Checked s (sealBundle n s) := by
  unfold Machine.sealBundle
  split
  · exact refl s
  · split
    · exact (updateBundle (by exact ⟨fun _ => rfl, fun _ => by simp, fun _ => by simp⟩) _ s).trans (closeCheck n _)
    · exact refl s

theorem sealBundles (ns : List Nat) (s : State) : Checked s (sealBundles ns s) := by
  unfold Machine.sealBundles
  induction ns generalizing s with
  | nil => exact refl s
  | cons n ns ih => exact (sealBundle n s).trans (ih _)

theorem setShorts (ns : List Nat) (s : State) : Checked s (ns.foldl (fun s n => setShort n s) s) := by
  induction ns generalizing s with
  | nil => exact refl s
  | cons n ns ih => exact (updateBundle (by exact ⟨fun _ => rfl, fun _ => by simp, fun _ => by simp⟩) n s).trans (ih _)

/-- While a record is held no job completes. -/
theorem job_of_held (h : Checked s t) (hs : s.store.queue ≠ [] ∨ s.store.lane ≠ [] ∨ pieces s ≠ []) :
    t.store.jobState = s.store.jobState ∧ t.store.jobNumber = s.store.jobNumber ∧
      t.store.loadMark = s.store.loadMark ∧ t.run = s.run ∧ t.entry = s.entry := by
  rcases h.job with hsame | ⟨-, -, -, hheld⟩
  · exact hsame
  · simp only [Machine.heldRecords, trackRecords, List.append_eq_nil_iff, List.map_eq_nil_iff,
      List.reverse_eq_nil_iff] at hheld
    obtain ⟨⟨hq, hl⟩, hp⟩ := hheld
    simp [hq, hl, hp] at hs

end Checked

/-! ## The close check -/

theorem findBundle_number {n : Nat} {x : Bundle} {s : State} (h : findBundle n s = some x) : x.number = n := by
  simpa using List.find?_some h

theorem closeReady_iff (x : Bundle) (s : State) : closeReady x s = true ↔
    x.state = .sealed ∧ (∀ r ∈ s.store.queue, r.bundle ≠ x.number) ∧ x.inFlight = 0 ∧ x.inLane = 0 := by
  simp only [closeReady, Bool.and_eq_true, decide_eq_true_eq, List.all_eq_true, and_assoc]

theorem closeCheck_of_ready {n : Nat} {x : Bundle} {s : State} (h : findBundle n s = some x)
    (hr : closeReady x s = true) : closeCheck n s = closeBundle x s := by
  simp [closeCheck, h, hr]

theorem closeCheck_of_not_ready {n : Nat} {x : Bundle} {s : State} (h : findBundle n s = some x)
    (hr : ¬closeReady x s = true) : closeCheck n s = s := by
  simp [closeCheck, h, hr]

theorem closeCheck_of_none {n : Nat} {s : State} (h : findBundle n s = none) : closeCheck n s = s := by
  simp [closeCheck, h]

/-- A ready bundle with something delivered or suspect is broken (R141). -/
theorem closeBundle_of_some {x : Bundle} {s : State} (h : ¬(x.delivered = 0 ∧ x.suspects = 0)) :
    closeBundle x s = updateBundle x.number (fun b => { b with state := .closing, tieTimer := some 0 })
      (post .delivery (breakFrame x.number x.bay x.delivered) s) := if_neg h

/-- A ready bundle with nothing delivered or suspect is emptied (R141). -/
theorem closeBundle_of_none {x : Bundle} {s : State} (hd : x.delivered = 0) (hs : x.suspects = 0) :
    closeBundle x s = completionCheck (post .address (bundleEmptyFrame x.number) (removeBundle x.number s)) :=
  if_pos ⟨hd, hs⟩

theorem bays_removeBundle (n : Nat) (h : Fin 16) (s : State) :
    (removeBundle n s).bundles.bays[h] = if s.bundles.bays[h] = some n then none else s.bundles.bays[h] := by
  simp [removeBundle, getElem_mapVector]

/-- Settles O46: the close check by whether the bundle is ready, and whether anything of it was delivered or suspect. -/
theorem readyBundleIsBrokenOrEmptied : Obligations.ReadyBundleIsBrokenOrEmptied := by
  intro n x s hx
  obtain rfl := findBundle_number hx
  refine ⟨fun h => closeCheck_of_not_ready hx fun hr => ?_, fun hsealed hqueue hflight hlane => ?_⟩
  · obtain ⟨hsealed, hqueue, hflight, hlane⟩ := (closeReady_iff x s).mp hr
    rcases h with h | ⟨r, hr, hb⟩ | h | h
    · exact h hsealed
    · exact hqueue r hr hb
    · exact h hflight
    · exact h hlane
  · have hready := (closeReady_iff x s).mpr ⟨hsealed, hqueue, hflight, hlane⟩
    rw [closeCheck_of_ready hx hready]
    refine ⟨fun h => ?_, fun hd hs => ?_⟩
    · rw [closeBundle_of_some (by omega)]
      refine ⟨by simp [updateBundle], fun hroom => ?_⟩
      exact txQueue_post_same (s := s) hroom
    · rw [closeBundle_of_none hd hs]
      refine ⟨by simp [removeBundle], fun h => ?_, fun hroom => ?_⟩
      · have hb : (completionCheck (post .address (bundleEmptyFrame x.number) (removeBundle x.number s))).bundles =
            (removeBundle x.number s).bundles := by simp
        rw [hb, bays_removeBundle]
      · have hroom' : txHasRoom .address (removeBundle x.number s) = true := hroom
        obtain ⟨more, hmore⟩ := (Grows.completionCheck
          (post .address (bundleEmptyFrame x.number) (removeBundle x.number s))).exists_append .address
        refine ⟨more, ?_⟩
        rw [hmore, txQueue_post_same hroom', List.append_assoc]
        rfl

end Sys2Proof.Machine


/-! Ties, their expiry and jams (R143 to R147). -/

namespace Sys2Proof.Machine

/-! ## Completion at the end of an event -/

/-- What the notices of a completion are read from. -/
theorem completionNotices_congr {s t : State} (b : Bool) (p : Port) (hn : t.store.jobNumber = s.store.jobNumber)
    (hs : subscription p t = subscription p s) (hg : t.run.gate = s.run.gate) :
    completionNotices b p t = completionNotices b p s := by
  simp only [completionNotices, hn, hs, hg]

theorem subscription_silent (p q : Port) (s : State) : subscription q (silent p s) = subscription q s := by
  simp [subscription]

/-- The job of `s` is completed by the check of a state that has its job to finish, and nothing held. -/
theorem jobCompleted_of_check_of_halt {s u : State} (h : NothingHeld u) (hj : u.store.jobState = .ended ∨
    u.store.jobState = .aborting) (hg : u.run.gate = .halt ↔ s.run.gate = .halt) :
    JobCompleted s (completionCheck u) := by
  rw [completionCheck_of_ready ((completionReady_iff u).mpr ⟨hj, h⟩)]
  have hgate : (completeJob u).run.gate = if s.run.gate = .halt then .halt else .closed := by
    rw [run_completeJob]
    exact if_congr hg rfl rfl
  refine ⟨by rw [store_completeJob], by rw [store_completeJob], by rw [store_completeJob], by rw [entry_completeJob],
    by rw [entry_completeJob], ?_, fun _ => hgate⟩
  rw [hgate]
  split
  · exact .inr rfl
  · exact .inl rfl

theorem jobCompleted_of_check {s u : State} (h : NothingHeld u) (hj : u.store.jobState = .ended ∨
    u.store.jobState = .aborting) (hg : u.run.gate = s.run.gate) : JobCompleted s (completionCheck u) :=
  jobCompleted_of_check_of_halt h hj (by rw [hg])

/-! ## TIED -/

theorem takeTied_of_known {b : List Byte} {x : Bundle} {s : State} (hb : b.length = 6) (hn : field b 0 3 ≠ 0)
    (hx : findBundle (field b 0 3) s = some x) : takeTied .delivery b s =
      if x.state = .closing then
        if x.delivered ≤ field b 3 3 ∧ field b 3 3 ≤ x.delivered + x.suspects then finishTie x s
        else deliveryFault (.port .delivery) (some (field b 0 3)) s
      else strayReport .delivery s := by
  simp [takeTied, judgeTie, hb, hn, hx]

theorem takeTied_of_unknown {b : List Byte} {s : State}
    (h : b.length ≠ 6 ∨ field b 0 3 = 0 ∨ findBundle (field b 0 3) s = none) :
    takeTied .delivery b s = strayReport .delivery s := by
  unfold takeTied
  split
  · rfl
  · next hcheck =>
    simp only [not_or, not_not] at hcheck
    obtain ⟨-, hb, hn⟩ := hcheck
    have hx : findBundle (field b 0 3) s = none := by simpa [hb, hn] using h
    simp [judgeTie, hx]

theorem findBundle_silent (p : Port) (n : Nat) (s : State) : findBundle n (silent p s) = findBundle n s := by
  simp [findBundle]

theorem plainFault_silent (k : FaultKind) (src : Source) (p : Port) (s : State) :
    plainFault k src (silent p s) = plainFault k src s := by
  simp [plainFault]

/-- A bundle's entry with its bay leaves the table, and BUNDLE DONE is queued, before the completion check (R143). -/
def tied (x : Bundle) (s : State) : State :=
  post .address (bundleDoneFrame x.number x.delivered x.offSequence) (removeBundle x.number s)

theorem finishTie_eq (x : Bundle) (s : State) : finishTie x s = completionCheck (tied x s) := rfl

theorem table_tied (x : Bundle) (s : State) :
    (tied x s).bundles.table = s.bundles.table.filter fun y => y.number ≠ x.number := by
  simp [tied, removeBundle]

theorem txQueue_tied {n : Nat} {s : State} (h : Roomy (n + 1) s) (x : Bundle) (p : Port) :
    txQueue p (tied x s) =
      txQueue p s ++ if p = .address then [bundleDoneFrame x.number x.delivered x.offSequence] else [] :=
  txQueue_post (s := removeBundle x.number s) (h.of_link rfl) .address p _

theorem exec_tied_of_closing {b : List Byte} {num : Byte} {x : Bundle} {s : State} (hr : Roomy 5 s)
    (hb : b.length = 6) (hn : field b 0 3 ≠ 0) (hx : findBundle (field b 0 3) s = some x)
    (hclosing : x.state = .closing) (hlow : x.delivered ≤ field b 3 3)
    (hhigh : field b 3 3 ≤ x.delivered + x.suspects) :
    exec (.tied .delivery num b) s = .next (completionCheck (tied x (silent .delivery s))) := by
  have htake : takeTied .delivery b (silent .delivery s) = completionCheck (tied x (silent .delivery s)) := by
    rw [takeTied_of_known hb hn (by rwa [findBundle_silent]), if_pos hclosing, if_pos ⟨hlow, hhigh⟩, finishTie_eq]
  have hroom : Roomy 4 (tied x (silent .delivery s)) :=
    Roomy.post (n := 4) (s := removeBundle x.number (silent .delivery s)) (Roomy.of_link (hr.silent .delivery) rfl) _ _
  show answerMessage .delivery (takeTied .delivery b) s = _
  rw [answerMessage, beginMessage_eq_silent, htake, settle_of_roomy (Roomy.completionCheck (n := 1) hroom)]

/-- What an accepted TIED does (R143), with the completion of a finished job by the last bundle (R44). -/
theorem tied_of_closing {x : Bundle} {s : State} (hr : Roomy 5 s) : ∃ more,
    let t := completionCheck (tied x (silent .delivery s))
    t.bundles.table = s.bundles.table.filter (fun y => y.number ≠ x.number) ∧
    (∀ h : Fin 16, t.bundles.bays[h] = if s.bundles.bays[h] = some x.number then none else s.bundles.bays[h]) ∧
    txQueue .address t = txQueue .address s ++ bundleDoneFrame x.number x.delivered x.offSequence :: more ∧
    t.store.queue = s.store.queue ∧ t.store.lane = s.store.lane ∧ t.track = s.track ∧ t.fault = s.fault ∧
    (s.bundles.table = [x] → s.store.queue = [] → s.store.lane = [] → pieces s = [] →
      s.store.jobState = .ended ∨ s.store.jobState = .aborting → JobCompleted s t ∧
      ∀ p, txQueue p t = txQueue p s ++
        (if p = .address then [bundleDoneFrame x.number x.delivered x.offSequence] else []) ++
        completionNotices (decide (s.store.jobState = .aborting)) p s) := by
  have hu : Roomy 5 (silent .delivery s) := hr.silent .delivery
  have hroom : Roomy 4 (tied x (silent .delivery s)) :=
    Roomy.post (n := 4) (s := removeBundle x.number (silent .delivery s)) (hu.of_link rfl) _ _
  have hq (p : Port) : txQueue p (tied x (silent .delivery s)) =
      txQueue p s ++ if p = .address then [bundleDoneFrame x.number x.delivered x.offSequence] else [] := by
    rw [txQueue_tied (n := 4) hu, txQueue_silent]
  have hc := Checked.completionCheck (tied x (silent .delivery s))
  obtain ⟨more, hmore⟩ := hc.grows.exists_append .address
  have hstore : (tied x (silent .delivery s)).store = s.store := by simp [tied, removeBundle]
  have htrack : (tied x (silent .delivery s)).track = s.track := by simp [tied, removeBundle]
  have hrun : (tied x (silent .delivery s)).run.gate = s.run.gate := by simp [tied, removeBundle]
  refine ⟨more, ?_, fun h => ?_, ?_, ?_, ?_, ?_, ?_, fun htable hqueue hlane hpieces hjob => ?_⟩
  · rw [(completionCheck_keeps _).2.2.2.2.2.2.2.2.2.2.1, table_tied]; simp
  · rw [(completionCheck_keeps _).2.2.2.2.2.2.2.2.2.2.1]
    have hb : (tied x (silent .delivery s)).bundles = (removeBundle x.number (silent .delivery s)).bundles := by
      simp [tied]
    rw [hb, bays_removeBundle]; simp
  · rw [hmore, hq]; simp
  · rw [hc.queue, hstore]
  · rw [hc.lane, hstore]
  · rw [hc.track, htrack]
  · simp [tied, removeBundle]
  · have hheld : NothingHeld (tied x (silent .delivery s)) := by
      refine ⟨by rw [hstore, hqueue], by rw [hstore, hlane], by rw [pieces, htrack]; exact hpieces, ?_⟩
      rw [table_tied]; simp [htable]
    have hj : (tied x (silent .delivery s)).store.jobState = .ended ∨
        (tied x (silent .delivery s)).store.jobState = .aborting := by rwa [hstore]
    refine ⟨jobCompleted_of_check hheld hj hrun, fun p => ?_⟩
    rw [completionCheck_of_ready ((completionReady_iff _).mpr ⟨hj, hheld⟩), txQueue_completeJob (n := 1) hroom, hq,
      hstore]
    rw [completionNotices_congr (s := s) _ p (by rw [hstore]) (by simp [subscription, tied, removeBundle]) hrun]

/-! ## The expiry and JAM -/

theorem jammedBundle_of_bay {h : Fin 16} {s : State} (hb : h.val < (geometryItems s).bays) :
    jammedBundle h.val s = s.bundles.bays[h] := by
  simp [jammedBundle, hb]

theorem jammedBundle_of_ge {n : Nat} {s : State} (hb : (geometryItems s).bays ≤ n) : jammedBundle n s = none := by
  simp [jammedBundle, Nat.not_lt.mpr hb]

theorem jammedBundle_silent (p : Port) (n : Nat) (s : State) : jammedBundle n (silent p s) = jammedBundle n s := by
  simp only [jammedBundle, geometryItems, silent_keeps]
  rfl

theorem takeJam_of_one (c : Byte) (s : State) :
    takeJam .delivery [c] s = deliveryFault (.port .delivery) (jammedBundle c.toNat s) s := by
  simp [takeJam, field_singleton]

theorem deliveryFault_silent (src : Source) (b : Option Nat) (p : Port) (s : State) :
    deliveryFault src b (silent p s) = raise { plainFault .deliveryFault src s with bundle := b } (silent p s) := by
  rw [deliveryFault, plainFault_silent]

/-- A report of the delivery that is answered with a fault. -/
theorem answerMessage_fault {n : Nat} {p : Port} {f : FaultRecord} {s : State} {effect : State → State}
    (hr : Roomy (n + 2) s) (he : effect (silent p s) = raise f (silent p s)) :
    answerMessage p effect s = .next (raise f (silent p s)) := by
  rw [answerMessage, beginMessage_eq_silent, he, settle_of_roomy ((hr.silent p).raise f)]

/-- Settles O45: TIED by its bundle's entry and its count, the expiry by the timer, JAM by its code. -/
theorem tiesExpiriesAndJamsAreTaken : Obligations.TiesExpiriesAndJamsAreTaken := by
  refine ⟨fun num b x s hr => ⟨fun hb hn hx => ⟨fun hclosing hlow hhigh => ?_, fun hclosing hrange => ?_,
      fun hstate => ?_⟩, fun h => ?_⟩,
    fun num c n elapsed x s hr => ⟨fun hx htimer => ?_, fun hx htimer => ?_, fun b hb => ?_, fun h hc hbay => ?_,
      fun hbay => ?_⟩⟩
  · obtain ⟨more, hall⟩ := tied_of_closing (x := x) hr
    rw [← findBundle_number hx]
    exact ⟨_, more, exec_tied_of_closing hr hb hn hx hclosing hlow hhigh, hall⟩
  · refine answerMessage_fault (n := 3) hr ?_
    rw [takeTied_of_known hb hn (by rwa [findBundle_silent]), if_pos hclosing, if_neg (by omega),
      deliveryFault_silent]
  · refine exec_stray (n := 3) hr (takeTied .delivery b) rfl ?_
    rw [takeTied_of_known hb hn (by rwa [findBundle_silent]), if_neg hstate]
  · exact exec_stray (n := 3) hr (takeTied .delivery b) rfl
      (takeTied_of_unknown (by rwa [findBundle_silent]))
  · have hroom : Roomy 2 (updateBundle n (fun b => { b with tieTimer := none }) s) := hr.of_link rfl
    refine answerEvent_of_roomy (n := 0) (effect := expireTieTimer n) (hroom.raise _) ?_
    simp only [expireTieTimer, hx, tieTimerRuns, htimer, Option.isSome_some, if_true, deliveryFault]
    rfl
  · exact answerEvent_of_roomy (effect := expireTieTimer n) hr (by simp [expireTieTimer, hx, tieTimerRuns, htimer])
  · exact exec_stray (n := 0) hr (takeJam .delivery b) rfl (if_pos (.inr hb))
  · refine answerMessage_fault (n := 0) hr ?_
    rw [takeJam_of_one, deliveryFault_silent, jammedBundle_silent, ← hc, jammedBundle_of_bay hbay]
  · refine answerMessage_fault (n := 0) hr ?_
    rw [takeJam_of_one, deliveryFault_silent, jammedBundle_silent, jammedBundle_of_ge hbay]
    rfl

end Sys2Proof.Machine


/-! The job: JOB OPEN, JOB END and the completion check (R41, R42, R44). -/

namespace Sys2Proof.Machine

/-! ## The gate at the end of an event -/

theorem gate_raise (f : FaultRecord) (s : State) :
    (raise f s).run.gate = s.run.gate ∨ (raise f s).run.gate = .halt := by
  rw [run_raise]
  split
  · exact .inr rfl
  · exact .inl rfl

theorem gate_foldOverflows (ps : List Port) (s : State) :
    (ps.foldl (fun s p => raiseOverflow p s) s).run.gate = s.run.gate ∨
      (ps.foldl (fun s p => raiseOverflow p s) s).run.gate = .halt := by
  induction ps generalizing s with
  | nil => exact .inl rfl
  | cons p ps ih =>
    rcases ih (raiseOverflow p s) with h | h
    · rcases gate_raise (plainFault .linkOverflow (.port p) s) s with h' | h'
      · exact .inl (h.trans h')
      · exact .inr (h.trans h')
    · exact .inr h

theorem gate_takeOverflows (s : State) :
    (takeOverflows s).run.gate = s.run.gate ∨ (takeOverflows s).run.gate = .halt :=
  gate_foldOverflows s.link.dropped (s.setLink { s.link with dropped := [] })

/-- The end of an event leaves the gate or brings HALT. -/
theorem gate_settle (s : State) : (settle s).run.gate = s.run.gate ∨ (settle s).run.gate = .halt := by
  rcases gate_takeOverflows (takeOverflows s) with h | h
  · rcases gate_takeOverflows s with h' | h'
    · exact .inl (h.trans h')
    · exact .inr (h.trans h')
  · exact .inr h

/-- A completed job stays completed at the end of the event. -/
theorem JobCompleted.settle {s t : State} (h : JobCompleted s t) (hr : Roomy 5 s → t.link.dropped = []) :
    JobCompleted s (settle t) := by
  obtain ⟨hstate, hnumber, hmark, hstarving, hitem, hgate, hexact⟩ := h
  have hstore : (Machine.settle t).store = t.store := by simp
  have hentry : (Machine.settle t).entry = t.entry := by simp
  refine ⟨by rw [hstore, hstate], by rw [hstore, hnumber], by rw [hstore, hmark], by rw [hentry, hstarving],
    by rw [hentry, hitem], ?_, fun hroom => ?_⟩
  · rcases gate_settle t with hg | hg
    · rwa [hg]
    · exact .inr hg
  · rw [settle_of_none (hr hroom)]
    exact hexact hroom

/-! ## JOB OPEN -/

section
variable {n : Nat} {num : Byte} {b : List Byte} {s : State}

theorem exec_jobOpen_of_job (hr : Roomy (n + 1) s) (h : s.store.jobState ≠ .noJob) :
    exec (.jobOpen .address num b) s = .next (replied .address (refuseFrame num .wrongState) s) :=
  answerMessage_reply hr _ _ (takeJobOpen .address num b) (by simp [takeJobOpen, h, refuse])

theorem exec_jobOpen_of_length_ne (hr : Roomy (n + 1) s) (h : s.store.jobState = .noJob) (hb : b.length ≠ 2) :
    exec (.jobOpen .address num b) s = .next (replied .address (refuseFrame num .badLength) s) :=
  answerMessage_reply hr _ _ (takeJobOpen .address num b) (by simp [takeJobOpen, h, hb, refuse])

theorem field_of_length {b : List Byte} {k : Nat} (h : b.length = k) : field b 0 k = ofBytes b := h ▸ field_whole b

theorem exec_jobOpen_of_zero (hr : Roomy (n + 1) s) (h : s.store.jobState = .noJob) (hb : b.length = 2)
    (hzero : ofBytes b = 0) :
    exec (.jobOpen .address num b) s = .next (replied .address (refuseFrame num .outOfRange) s) :=
  answerMessage_reply hr _ _ (takeJobOpen .address num b)
    (by simp [takeJobOpen, h, hb, field_of_length hb, hzero, refuse])

/-- The store after a JOB OPEN (R41). -/
def openedStore (x : Store) (job : Nat) : Store :=
  { x with jobState := .loading, jobNumber := some job, loadMark := 0 }

theorem takeJobOpen_of_number {u : State} (h : u.store.jobState = .noJob) (hb : b.length = 2) (hn : ofBytes b ≠ 0) :
    takeJobOpen .address num b u = postState (.job .loading (some (ofBytes b)))
      (accept .address num (u.setStore (openedStore u.store (ofBytes b)))) := by
  simp [takeJobOpen, h, hb, field_of_length hb, hn, openedStore]

theorem exec_jobOpen_of_number (hr : Roomy (n + 2) s) (h : s.store.jobState = .noJob) (hb : b.length = 2)
    (hn : ofBytes b ≠ 0) : exec (.jobOpen .address num b) s =
      .next (announced (.job .loading (some (ofBytes b)))
        (replied .address (acceptFrame num []) (s.setStore (openedStore s.store (ofBytes b))))) := by
  refine answerMessage_announce hr (by exact rfl) _ _ _ (takeJobOpen .address num b) ?_
  rw [silent_setStore, takeJobOpen_of_number (by simpa using h) hb hn]
  simp [accept]

end

/-! ## Sealing -/

/-- A bundle that stands in FILLING after a close check stood there before. -/
theorem mem_closeCheck_of_filling {n : Nat} {y : Bundle} {s : State} (hy : y ∈ (closeCheck n s).bundles.table)
    (hf : y.state = .filling) : y ∈ s.bundles.table := by
  unfold closeCheck at hy
  split at hy
  · exact hy
  · split at hy
    · unfold closeBundle at hy
      split at hy
      · simp only [completionCheck_keeps, post_keeps, removeBundle, State.setBundles_bundles] at hy
        exact (List.mem_filter.mp hy).1
      · simp only [updateBundle, State.setBundles_bundles, post_keeps, List.mem_map] at hy
        obtain ⟨z, hz, rfl⟩ := hy
        split at hf
        · simp at hf
        · next hne => rwa [if_neg hne]
    · exact hy

theorem eq_of_mem_of_nodup {x y : Bundle} {s : State} (hnd : (bundleNumbers s).Nodup) (hx : x ∈ s.bundles.table)
    (hy : y ∈ s.bundles.table) (h : x.number = y.number) : x = y :=
  List.inj_on_of_nodup_map hnd hx hy h

/-- In a table of distinct numbers no entry of a sealed bundle is in FILLING. -/
theorem mem_sealBundle_of_filling {n : Nat} {y : Bundle} {s : State} (hnd : (bundleNumbers s).Nodup)
    (hy : y ∈ (sealBundle n s).bundles.table) (hf : y.state = .filling) : y ∈ s.bundles.table ∧ y.number ≠ n := by
  unfold sealBundle at hy
  split at hy
  · next hnone => exact ⟨hy, findBundle_eq_none_iff.mp hnone y hy⟩
  · next b hb =>
    have hnumber := findBundle_number hb
    split at hy
    · have hmem := mem_closeCheck_of_filling hy hf
      simp only [updateBundle, State.setBundles_bundles, List.mem_map] at hmem
      obtain ⟨z, hz, rfl⟩ := hmem
      split at hf
      · simp at hf
      · next hne => rw [if_neg hne]; exact ⟨hz, hne⟩
    · next hb' =>
      refine ⟨hy, fun hn => hb' ?_⟩
      rw [← eq_of_mem_of_nodup hnd hy (List.mem_of_find?_eq_some hb) (hn.trans hnumber.symm)]
      exact hf

theorem mem_sealBundles_of_filling {ns : List Nat} {y : Bundle} {s : State} (hnd : (bundleNumbers s).Nodup)
    (hy : y ∈ (sealBundles ns s).bundles.table) (hf : y.state = .filling) :
    y ∈ s.bundles.table ∧ y.number ∉ ns := by
  induction ns generalizing s with
  | nil => exact ⟨hy, List.not_mem_nil⟩
  | cons n ns ih =>
    obtain ⟨hmem, hns⟩ := ih ((Checked.sealBundle n s).numbers.nodup hnd) hy
    obtain ⟨hs, hn⟩ := mem_sealBundle_of_filling hnd hmem hf
    exact ⟨hs, fun h => (List.mem_cons.mp h).elim hn hns⟩

/-- With every bundle sealed none is in FILLING. -/
theorem state_of_sealed_all {y : Bundle} {s : State} (hnd : (bundleNumbers s).Nodup)
    (hy : y ∈ (sealBundles (bundleNumbers s) s).bundles.table) : y.state ≠ .filling := fun hf => by
  obtain ⟨hs, hn⟩ := mem_sealBundles_of_filling hnd hy hf
  exact hn (List.mem_map_of_mem hs)

/-! ## JOB END -/

/-- A JOB END accepted and its job ENDED, before the sealing (R42). -/
def jobEnded (num : Byte) (u : State) : State := changeJob .ended u.store.jobNumber (accept .address num u)

theorem endJob_eq (num : Byte) (u : State) : endJob .address num u =
    completionCheck (sealBundles (bundleNumbers (jobEnded num u)) (jobEnded num u)) := by
  simp [endJob, jobEnded, accept]

section
variable {num : Byte} {b : List Byte} {s u : State}

theorem store_jobEnded (num : Byte) (u : State) : (jobEnded num u).store = { u.store with jobState := .ended } := by
  simp [jobEnded, changeJob]

theorem exec_jobEnd_of_not_loading {n : Nat} (hr : Roomy (n + 1) s) (h : s.store.jobState ≠ .loading) :
    exec (.jobEnd .address num b) s = .next (replied .address (refuseFrame num .wrongState) s) :=
  answerMessage_reply hr _ _ (takeJobEnd .address num b) (by simp [takeJobEnd, h, refuse])

theorem exec_jobEnd_of_payload {n : Nat} (hr : Roomy (n + 1) s) (h : s.store.jobState = .loading) (hb : b ≠ []) :
    exec (.jobEnd .address num b) s = .next (replied .address (refuseFrame num .badLength) s) :=
  answerMessage_reply hr _ _ (takeJobEnd .address num b) (by simp [takeJobEnd, h, hb, refuse])

theorem exec_jobEnd (h : s.store.jobState = .loading) : exec (.jobEnd .address num []) s =
    .next (settle (completionCheck (sealBundles (bundleNumbers (jobEnded num (silent .address s)))
      (jobEnded num (silent .address s))))) := by
  show answerMessage .address (takeJobEnd .address num []) s = _
  rw [answerMessage, beginMessage_eq_silent, ← endJob_eq]
  simp [takeJobEnd, h]

theorem bundleNumbers_jobEnded (num : Byte) (u : State) : bundleNumbers (jobEnded num u) = bundleNumbers u := by
  simp [bundleNumbers, jobEnded]

/-- The queues while a JOB END is taken: its ACCEPT, then the STATE notice of the job (log 10). -/
theorem txQueue_jobEnded {n : Nat} (hr : Roomy (n + 2) u) (p : Port) : txQueue p (jobEnded num u) =
    txQueue p u ++ (if p = .address then [acceptFrame num []] else []) ++
      if (subscription p u).state = true then [stateFrame (.job .ended u.store.jobNumber)] else [] := by
  have hr1 : Roomy (n + 1) (accept .address num u) := Roomy.post (n := n + 1) hr _ _
  have hq : txQueue p (accept .address num u) = txQueue p u ++ if p = .address then [acceptFrame num []] else [] :=
    txQueue_post (n := n + 1) hr .address p _
  have hsub : subscription p (accept .address num u) = subscription p u := by simp [subscription]
  rw [jobEnded, txQueue_changeJob hr1, hq, hsub]

theorem Roomy.jobEnded {n : Nat} (hr : Roomy (n + 2) u) : Roomy n (jobEnded num u) :=
  Roomy.changeJob (Roomy.post (n := n + 1) hr _ _) _ _

end

/-- What an accepted JOB END does (R42). -/
theorem jobEnd_effect {num : Byte} {s u : State} (hu : u = silent .address s) (hr : Roomy 2 s) :
    let t := settle (completionCheck (sealBundles (bundleNumbers (jobEnded num u)) (jobEnded num u)))
    (∃ more, txQueue .address t = txQueue .address s ++ acceptFrame num [] :: more) ∧
    t.store.queue = s.store.queue ∧ t.store.lane = s.store.lane ∧ t.track = s.track ∧ t.carrier = s.carrier ∧
    ((bundleNumbers s).Nodup → ∀ x ∈ t.bundles.table, x.state ≠ .filling) ∧
    (s.store.queue ≠ [] ∨ s.store.lane ≠ [] ∨ pieces s ≠ [] →
      t.store.jobState = .ended ∧ t.store.jobNumber = s.store.jobNumber) := by
  have hnumbers : bundleNumbers (jobEnded num u) = bundleNumbers s := by
    rw [bundleNumbers_jobEnded, hu]; simp [bundleNumbers]
  have hstore : (jobEnded num u).store = { s.store with jobState := .ended } := by
    rw [store_jobEnded, hu]; simp
  have htrack : (jobEnded num u).track = s.track := by rw [hu]; simp [jobEnded]
  have hc := (Checked.sealBundles (bundleNumbers (jobEnded num u)) (jobEnded num u)).trans (Checked.completionCheck _)
  have htable := (completionCheck_keeps (sealBundles (bundleNumbers (jobEnded num u)) (jobEnded num u))).2.2.2.2.2.2.2.2.2.2.1
  have hsealed (hnd : (bundleNumbers s).Nodup) := fun x => state_of_sealed_all (y := x) (s := jobEnded num u)
    (by rwa [hnumbers])
  have hcarrier : (completionCheck (sealBundles (bundleNumbers (jobEnded num u)) (jobEnded num u))).carrier =
      s.carrier := by rw [hu]; simp [jobEnded]
  generalize completionCheck (sealBundles (bundleNumbers (jobEnded num u)) (jobEnded num u)) = t at hc htable hcarrier
  have hq := txQueue_jobEnded (num := num) (n := 0) (hu ▸ hr.silent .address) .address
  obtain ⟨more, hmore⟩ := (hc.grows.trans (Grows.settle t)).exists_append .address
  refine ⟨?_, by simp [hc.queue, hstore], by simp [hc.lane, hstore], by simp [hc.track, htrack], by simp [hcarrier],
    fun hnd x hx => ?_, fun hheld => ?_⟩
  · rw [hmore, hq, hu, txQueue_silent]
    exact ⟨_, by simp only [if_true, List.append_assoc]; rfl⟩
  · rw [(settle_keeps t).2.2.2.2.2.2.2.2.2.2.2.2.1, htable] at hx
    exact hsealed hnd x hx
  · have hjob := hc.job_of_held (by rw [hstore, pieces, htrack]; exact hheld)
    rw [hstore] at hjob
    simp [hjob.1, hjob.2.1]

/-- A JOB END with nothing held and no bundle completes the job at once (R42). -/
theorem jobEnd_of_nothing {num : Byte} {s u : State} (hu : u = silent .address s) (h : NothingHeld s) :
    let t := settle (completionCheck (sealBundles (bundleNumbers (jobEnded num u)) (jobEnded num u)))
    JobCompleted s t ∧ (Roomy 5 s → ∀ p, txQueue p t =
      txQueue p s ++ (if p = .address then [acceptFrame num []] else []) ++
        (if (subscription p s).state = true then [stateFrame (.job .ended s.store.jobNumber)] else []) ++
        completionNotices false p s) := by
  obtain ⟨hqueue, hlane, hpieces, htable⟩ := h
  have hstore : (jobEnded num u).store = { s.store with jobState := .ended } := by rw [store_jobEnded, hu]; simp
  have hsealed : sealBundles (bundleNumbers (jobEnded num u)) (jobEnded num u) = jobEnded num u := by
    rw [bundleNumbers_jobEnded, hu]; simp [bundleNumbers, htable, sealBundles]
  have hgate : (jobEnded num u).run.gate = s.run.gate := by rw [hu]; simp [jobEnded]
  have hsub (p : Port) : subscription p (jobEnded num u) = subscription p s := by
    rw [hu]; simp [subscription, jobEnded]
  have hheld : NothingHeld (jobEnded num u) := by
    refine ⟨by rw [hstore, hqueue], by rw [hstore, hlane], ?_, ?_⟩
    · have htrack : (jobEnded num u).track = s.track := by rw [hu]; simp [jobEnded]
      rw [pieces, htrack]; exact hpieces
    · rw [hu]; simpa [jobEnded] using htable
  have hjob : (jobEnded num u).store.jobState = .ended ∨ (jobEnded num u).store.jobState = .aborting := by
    rw [hstore]; exact .inl rfl
  have hroom (hr : Roomy 5 s) : Roomy 3 (jobEnded num u) := Roomy.jobEnded (hu ▸ hr.silent .address)
  rw [hsealed]
  refine ⟨(jobCompleted_of_check hheld hjob hgate).settle fun hr => (hroom hr).completionCheck.1, fun hr p => ?_⟩
  rw [settle_of_roomy (hroom hr).completionCheck,
    completionCheck_of_ready ((completionReady_iff _).mpr ⟨hjob, hheld⟩), txQueue_completeJob (n := 0) (hroom hr),
    txQueue_jobEnded (n := 3) (hu ▸ hr.silent .address), completionNotices_congr (s := s) _ p (by rw [hstore]) (hsub p) hgate,
    hstore, hu, txQueue_silent, subscription_silent]
  simp

/-- Settles O24: JOB OPEN and JOB END by their checks, and the completion check. -/
theorem jobOpensAndEnds : Obligations.JobOpensAndEnds := by
  refine ⟨fun num b s hr => ⟨exec_jobOpen_of_job (n := 1) hr, exec_jobOpen_of_length_ne (n := 1) hr,
    exec_jobOpen_of_zero (n := 1) hr, exec_jobOpen_of_number (n := 0) hr⟩, fun num s hr =>
    ⟨fun h b => exec_jobEnd_of_not_loading (n := 1) hr h, fun h b hb => exec_jobEnd_of_payload (n := 1) hr h hb,
      fun h => ?_⟩, fun s => ⟨fun hheld hjob => ?_, fun h => completionCheck_of_not_ready fun hready => ?_⟩⟩
  · obtain ⟨⟨more, hmore⟩, hqueue, hlane, htrack, hcarrier, hsealed, hjob⟩ :=
      jobEnd_effect (num := num) (s := s) rfl hr
    exact ⟨_, more, exec_jobEnd h, hmore, hqueue, hlane, htrack, hcarrier, hsealed, hjob, jobEnd_of_nothing rfl⟩
  · have hready := (completionReady_iff s).mpr ⟨hjob, hheld⟩
    refine ⟨jobCompleted_of_check hheld hjob rfl, ?_, by simp, by simp, by simp, fun hroom p => ?_⟩
    · rw [completionCheck_of_ready hready, run_completeJob]
    · rw [completionCheck_of_ready hready, txQueue_completeJob (n := 0) hroom]
  · obtain ⟨hjob, hheld⟩ := (completionReady_iff s).mp hready
    rcases h with h | h | h
    · exact h hheld
    · simp [h] at hjob
    · simp [h] at hjob

end Sys2Proof.Machine


/-! The end of a record's life and the releases of the outcome backlog (R55, R57). -/

namespace Sys2Proof.Machine

/-! ## The end of a record's life -/

/-- A record has left its list, the map and the pool, and its bundle has counted its end; its notice is still to come
(R57 steps 1 to 3). -/
def recordOut (x : Place) (e : RecordEnd) (r : Record) (s : State) : State :=
  countBundle r.bundle (countEnd x e) (forgetRecord r (leaveList x r.key s))

theorem endLife_eq (x : Place) (e : RecordEnd) (r : Record) (s : State) : endLife x e r s =
    completionCheck (closeCheck r.bundle (post .address (outcomeFrame r e) (recordOut x e r s))) := rfl

theorem store_recordOut (x : Place) (e : RecordEnd) (r : Record) (s : State) : (recordOut x e r s).store =
    { (leaveList x r.key s).store with
      map := (leaveList x r.key s).store.map.filter fun e => e.1 ≠ r.key
      textUsed := (leaveList x r.key s).store.textUsed - textSize r } := by
  simp [recordOut, forgetRecord]

theorem recordOut_keeps (x : Place) (e : RecordEnd) (r : Record) (s : State) :
    (recordOut x e r s).track = s.track ∧ (recordOut x e r s).link = s.link ∧ (recordOut x e r s).run = s.run ∧
    (recordOut x e r s).entry = s.entry := by
  simp [recordOut]

theorem bundleKept_leavePlace (x : Place) : BundleKept (leavePlace x) := by
  cases x <;> exact ⟨fun _ => rfl, fun _ => id, fun _ => id⟩

theorem bundleKept_countEnd (x : Place) (e : RecordEnd) (v : BitVec 24) : BundleKept (countEnd x e v) := by
  cases e <;> cases x <;> exact ⟨fun _ => rfl, fun _ => id, fun _ => id⟩

theorem bundles_recordOut (x : Place) (e : RecordEnd) (r : Record) (s : State) :
    (recordOut x e r s).bundles = (updateBundle r.bundle (countEnd x e (Config.freeCount s.freeTaken)) s).bundles := by
  simp [recordOut, countBundle, updateBundle]

theorem jobState_recordOut (x : Place) (e : RecordEnd) (r : Record) (s : State) :
    (recordOut x e r s).store.jobState = s.store.jobState := by
  rw [store_recordOut]
  cases x <;> rfl

theorem tableKept_recordOut (x : Place) (e : RecordEnd) (r : Record) (s : State) : TableKept s (recordOut x e r s) :=
  fun b hb => (Checked.updateBundle (bundleKept_countEnd x e (Config.freeCount s.freeTaken)) r.bundle s).table b
    (bundles_recordOut x e r s ▸ hb)

theorem numbers_recordOut (x : Place) (e : RecordEnd) (r : Record) (s : State) :
    bundleNumbers (recordOut x e r s) = bundleNumbers s := by
  rw [bundleNumbers, bundles_recordOut]
  exact bundleNumbers_updateBundle (bundleKept_countEnd x e _).number r.bundle s

/-- What follows the removal of a record that ended its life. -/
theorem checked_endLife (x : Place) (e : RecordEnd) (r : Record) (s : State) :
    Checked (recordOut x e r s) (endLife x e r s) :=
  (Checked.post .address (outcomeFrame r e) _).trans ((Checked.closeCheck r.bundle _).trans (Checked.completionCheck _))

theorem Grows.endLife (x : Place) (e : RecordEnd) (r : Record) (s : State) : Grows s (endLife x e r s) :=
  (checked_endLife x e r s).grows.from_link (recordOut_keeps x e r s).2.1

/-- The outcome notice follows what the address port's queue holds. -/
theorem txQueue_endLife (x : Place) (e : RecordEnd) (r : Record) {s : State} (h : txHasRoom .address s = true) :
    ∃ more, txQueue .address (endLife x e r s) = txQueue .address s ++ outcomeFrame r e :: more := by
  have hlink := (recordOut_keeps x e r s).2.1
  have hq : txQueue .address (recordOut x e r s) = txQueue .address s := by simp only [txQueue, portState, hlink]
  have hroom : txHasRoom .address (recordOut x e r s) = true := by rw [txHasRoom, hq]; exact h
  obtain ⟨more, hmore⟩ := ((Checked.closeCheck r.bundle
    (post .address (outcomeFrame r e) (recordOut x e r s))).trans (Checked.completionCheck _)).grows.exists_append .address
  refine ⟨more, ?_⟩
  rw [endLife_eq, hmore, txQueue_post_same hroom, hq, List.append_assoc]
  rfl

theorem placeOf_eq_none_iff {key : Nat} {s : State} : placeOf key s = none ↔ ∀ e ∈ s.store.map, e.1 ≠ key := by
  simp [placeOf]

/-- A record whose life has ended has no place. -/
theorem placeOf_endLife (x : Place) (e : RecordEnd) (r : Record) (s : State) : placeOf r.key (endLife x e r s) = none := by
  rw [placeOf_eq_none_iff, (checked_endLife x e r s).map, store_recordOut]
  intro a ha
  simpa using (List.mem_filter.mp ha).2

/-- A record's life ended: its map entry, its text and its notice (R57). -/
theorem recordEnded_endLife (x : Place) (e : RecordEnd) (r : Record) (s : State) :
    RecordEnded e r s (endLife x e r s) := by
  refine ⟨placeOf_endLife x e r s, ?_, txQueue_endLife x e r⟩
  rw [(checked_endLife x e r s).text, store_recordOut]
  cases x <;> rfl

/-! ## Releases -/

theorem Queued.mono {p : Port} {f : Frame} {s t u : State} (h : Queued p f s t) (h' : Grows t u) : Queued p f s u := by
  obtain ⟨before, more, hq⟩ := h
  obtain ⟨rest, hrest⟩ := h'.exists_append p
  exact ⟨before, more ++ rest, by rw [hrest, hq]; simp⟩

theorem Queued.front {p : Port} {f : Frame} {s t u : State} (h : Grows s t) (h' : Queued p f t u) : Queued p f s u := by
  obtain ⟨before, more, hq⟩ := h'
  obtain ⟨first, hfirst⟩ := h.exists_append p
  exact ⟨first ++ before, more, by rw [hq, hfirst]; simp⟩

/-- The keys of the waiting records are distinct. -/
def WaitingDistinct (s : State) : Prop := ((s.store.queue ++ s.store.lane).map Record.key).Nodup

/-- What releases of the backlog do: records leave with the notice of their outcome, those that stay keep theirs, and the
job is as before or completed. -/
structure Released (s t : State) : Prop where
  backlog : t.store.backlog <:+ s.store.backlog
  queue : t.store.queue.Sublist s.store.queue
  lane : t.store.lane.Sublist s.store.lane
  map : t.store.map.Sublist s.store.map
  stays : ∀ r ∈ t.store.queue ++ t.store.lane, backlogOutcome r.key t = backlogOutcome r.key s
  leaves : WaitingDistinct s → ∀ r ∈ s.store.queue ++ s.store.lane, r ∉ t.store.queue ++ t.store.lane →
    ∃ o, backlogOutcome r.key s = some o ∧ GivenUp r o s t
  track : t.track = s.track
  grows : Grows s t
  numbers : (bundleNumbers t).Sublist (bundleNumbers s)
  table : TableKept s t
  job : t.store.jobState = s.store.jobState ∧ t.run = s.run ∨
    (t.store.jobState = .noJob ∧ t.run.gate ≠ .opened ∧ t.run.gate ≠ .drain)

theorem WaitingDistinct.sublist {s t : State} (h : WaitingDistinct s) (hq : t.store.queue.Sublist s.store.queue)
    (hl : t.store.lane.Sublist s.store.lane) : WaitingDistinct t :=
  List.Nodup.sublist ((hq.append hl).map _) h

theorem backlogOutcome_congr {s t : State} (h : t.store.backlog = s.store.backlog) (key : Nat) :
    backlogOutcome key t = backlogOutcome key s := by
  simp only [backlogOutcome, h]

theorem Checked.released {s t : State} (h : Checked s t) : Released s t where
  backlog := h.backlog ▸ List.suffix_rfl
  queue := h.queue ▸ List.Sublist.refl _
  lane := h.lane ▸ List.Sublist.refl _
  map := h.map ▸ List.Sublist.refl _
  stays := fun r _ => backlogOutcome_congr h.backlog r.key
  leaves := fun _ r hr hn => absurd (by rwa [h.queue, h.lane]) hn
  track := h.track
  grows := h.grows
  numbers := h.numbers
  table := h.table
  job := h.job.imp (fun h => ⟨h.1, h.2.2.2.1⟩) fun h => ⟨h.1, h.2.1, h.2.2.1⟩

namespace Released

variable {s t u : State}

theorem refl (s : State) : Released s s := (Checked.refl s).released

theorem trans (h : Released s t) (h' : Released t u) : Released s u where
  backlog := h'.backlog.trans h.backlog
  queue := h'.queue.trans h.queue
  lane := h'.lane.trans h.lane
  map := h'.map.trans h.map
  stays := fun r hr => (h'.stays r hr).trans (h.stays r ((h'.queue.append h'.lane).subset hr))
  leaves := fun hd r hr hn => by
    by_cases hmem : r ∈ t.store.queue ++ t.store.lane
    · obtain ⟨o, ho, hgiven⟩ := h'.leaves (hd.sublist h.queue h.lane) r hmem hn
      exact ⟨o, (h.stays r hmem).symm.trans ho, Queued.front h.grows hgiven⟩
    · obtain ⟨o, ho, hgiven⟩ := h.leaves hd r hr hmem
      exact ⟨o, ho, Queued.mono hgiven h'.grows⟩
  track := h'.track.trans h.track
  grows := h.grows.trans h'.grows
  numbers := h'.numbers.trans h.numbers
  table := h.table.trans h'.table
  job := by
    rcases h'.job with ⟨hstate, hrun⟩ | hdone
    · rcases h.job with ⟨gstate, grun⟩ | ⟨gstate, ho, hd⟩
      · exact .inl ⟨hstate.trans gstate, hrun.trans grun⟩
      · exact .inr ⟨hstate.trans gstate, by rwa [hrun], by rwa [hrun]⟩
    · exact .inr hdone

end Released

theorem waitingRecord_mem {key : Nat} {r : Record} {s : State} (h : waitingRecord key s = some r) :
    r ∈ s.store.queue ++ s.store.lane ∧ r.key = key :=
  ⟨List.mem_of_find?_eq_some h, StoreWork.waitingRecord_key h⟩

theorem waitingRecord_eq_none_iff {key : Nat} {s : State} :
    waitingRecord key s = none ↔ ∀ r ∈ s.store.queue ++ s.store.lane, r.key ≠ key := by
  simp [waitingRecord, or_imp, forall_and]

theorem backlogOutcome_cons {key : Nat} {o : BacklogOutcome} {rest : List (Nat × BacklogOutcome)} {s : State}
    (h : s.store.backlog = (key, o) :: rest) (k : Nat) :
    backlogOutcome k s = if key = k then some o else backlogOutcome k (backlogRest rest s) := by
  unfold backlogOutcome
  rw [h, List.find?_cons]
  by_cases hk : key = k
  · simp [hk]
  · simp [hk, backlogRest, beq_false_of_ne hk]

/-- The oldest entry released, where its record waits (R55). -/
theorem releaseOldest_of_waiting {key : Nat} {o : BacklogOutcome} {rest : List (Nat × BacklogOutcome)} {r : Record}
    {s : State} (h : s.store.backlog = (key, o) :: rest) (hr : waitingRecord key s = some r) :
    releaseOldest s = endLife (waitingPlace key (backlogRest rest s)) (backlogEnd o) r (backlogRest rest s) := by
  have hr' : waitingRecord key (backlogRest rest s) = some r := hr
  unfold releaseOldest
  rw [h]
  show (match waitingRecord key (backlogRest rest s) with
    | none => backlogRest rest s
    | some r => endLife (waitingPlace key (backlogRest rest s)) (backlogEnd o) r (backlogRest rest s)) = _
  rw [hr']

theorem releaseOldest_of_gone {key : Nat} {o : BacklogOutcome} {rest : List (Nat × BacklogOutcome)} {s : State}
    (h : s.store.backlog = (key, o) :: rest) (hr : waitingRecord key s = none) :
    releaseOldest s = backlogRest rest s := by
  have hr' : waitingRecord key (backlogRest rest s) = none := hr
  unfold releaseOldest
  rw [h]
  show (match waitingRecord key (backlogRest rest s) with
    | none => backlogRest rest s
    | some r => endLife (waitingPlace key (backlogRest rest s)) (backlogEnd o) r (backlogRest rest s)) = _
  rw [hr']

/-- The lists, the map, the pool and the backlog after the release of the oldest entry (R55). -/
theorem store_release {key : Nat} {o : BacklogOutcome} {rest : List (Nat × BacklogOutcome)} {r : Record}
    {s : State} (h : s.store.backlog = (key, o) :: rest) (hr : waitingRecord key s = some r) :
    (releaseOldest s).store.queue = s.store.queue.filter (fun x => x.key ≠ key) ∧
    (releaseOldest s).store.lane = s.store.lane.filter (fun x => x.key ≠ key) ∧
    (releaseOldest s).store.map = s.store.map.filter (fun e => e.1 ≠ key) ∧
    (releaseOldest s).store.textUsed = s.store.textUsed - textSize r ∧ (releaseOldest s).store.backlog = rest := by
  obtain ⟨-, rfl⟩ := waitingRecord_mem hr
  have hc := checked_endLife (waitingPlace r.key (backlogRest rest s)) (backlogEnd o) r (backlogRest rest s)
  rw [releaseOldest_of_waiting h hr]
  have hstore := store_recordOut (waitingPlace r.key (backlogRest rest s)) (backlogEnd o) r (backlogRest rest s)
  rw [StoreWork.leaveList_waiting] at hstore
  rw [hc.queue, hc.lane, hc.map, hc.text, hc.backlog, hstore]
  exact ⟨rfl, rfl, rfl, rfl, rfl⟩

theorem Grows.releaseOldest (s : State) : Grows s (releaseOldest s) := by
  unfold Machine.releaseOldest
  split
  · exact refl s
  · dsimp only
    split
    · exact of_link rfl
    · exact (endLife _ _ _ _).from_link (by exact rfl)

theorem releaseDue_iff (s : State) :
    releaseDue s = true ↔ s.store.backlog ≠ [] ∧ (txQueue .address s).length < 16 := by
  simp only [releaseDue, Bool.and_eq_true, Bool.not_eq_true', List.isEmpty_eq_false_iff, decide_eq_true_eq]
  rfl

theorem hasRoom_of_lt {s : State} (h : (txQueue .address s).length < 16) : txHasRoom .address s = true :=
  decide_eq_true (lt_of_lt_of_le h (by decide))

theorem eq_of_key_of_distinct {r x : Record} {s : State} (hd : WaitingDistinct s)
    (hr : r ∈ s.store.queue ++ s.store.lane) (hx : x ∈ s.store.queue ++ s.store.lane) (h : r.key = x.key) : r = x :=
  List.inj_on_of_nodup_map hd hr hx h

/-- One release (R55). -/
theorem released_releaseOldest {s : State} (h : releaseDue s = true) : Released s (releaseOldest s) := by
  obtain ⟨hne, hlen⟩ := (releaseDue_iff s).mp h
  obtain ⟨⟨key, o⟩, rest, hb⟩ := List.exists_cons_of_ne_nil hne
  cases hr : waitingRecord key s with
  | none =>
    have hgone := waitingRecord_eq_none_iff.mp hr
    rw [releaseOldest_of_gone hb hr]
    refine ⟨hb ▸ List.suffix_cons _ _, List.Sublist.refl _, List.Sublist.refl _, List.Sublist.refl _, fun r hmem => ?_,
      fun _ r hmem hn => absurd hmem hn, rfl, Grows.of_link rfl, List.Sublist.refl _, .of_bundles rfl, .inl ⟨rfl, rfl⟩⟩
    rw [backlogOutcome_cons hb, if_neg (Ne.symm (hgone r hmem))]
  | some r =>
    obtain ⟨hmemr, hkey⟩ := waitingRecord_mem hr
    obtain ⟨hqueue, hlane, hmap, -, hback⟩ := store_release hb hr
    have hc := checked_endLife (waitingPlace key (backlogRest rest s)) (backlogEnd o) r (backlogRest rest s)
    have hkeys := recordOut_keeps (waitingPlace key (backlogRest rest s)) (backlogEnd o) r (backlogRest rest s)
    refine ⟨hback ▸ hb ▸ List.suffix_cons _ _, hqueue ▸ List.filter_sublist, hlane ▸ List.filter_sublist,
      hmap ▸ List.filter_sublist, fun x hx => ?_, fun hd x hx hn => ⟨o, ?_⟩, ?_, Grows.releaseOldest s, ?_, ?_, ?_⟩
    · have hxkey : key ≠ x.key := by
        rw [hqueue, hlane, ← List.filter_append] at hx
        simpa using Ne.symm (of_decide_eq_true (List.mem_filter.mp hx).2)
      rw [backlogOutcome_cons hb, if_neg hxkey]
      exact backlogOutcome_congr hback x.key
    · have hxkey : x.key = key := by
        by_contra hne
        refine hn ?_
        rw [hqueue, hlane, ← List.filter_append]
        exact List.mem_filter.mpr ⟨hx, decide_eq_true hne⟩
      obtain rfl := eq_of_key_of_distinct hd hx hmemr (hxkey.trans hkey.symm)
      refine ⟨by rw [backlogOutcome_cons hb, if_pos hkey.symm], ?_⟩
      obtain ⟨more, hmore⟩ := txQueue_endLife (waitingPlace key (backlogRest rest s)) (backlogEnd o) x
        (s := backlogRest rest s) (hasRoom_of_lt hlen)
      rw [releaseOldest_of_waiting hb hr]
      exact ⟨[], more, by rw [hmore]; cases o <;> simp [backlogEnd] <;> rfl⟩
    · simp
    · rw [releaseOldest_of_waiting hb hr]; exact hc.numbers.trans (by rw [numbers_recordOut]; exact List.Sublist.refl _)
    · rw [releaseOldest_of_waiting hb hr]; exact TableKept.trans (tableKept_recordOut _ _ _ (backlogRest rest s)) hc.table
    · rw [releaseOldest_of_waiting hb hr]
      rcases hc.job with ⟨hstate, -, -, hrun, -⟩ | ⟨hstate, ho, hdr, -⟩
      · exact .inl ⟨hstate.trans (jobState_recordOut _ _ _ _), hrun.trans hkeys.2.2.1⟩
      · exact .inr ⟨hstate, ho, hdr⟩

/-- Releases, one after another (R55). -/
theorem released_releaseEntries (n : Nat) (s : State) : Released s (releaseEntries n s) := by
  induction n generalizing s with
  | zero => exact Released.refl s
  | succ n ih =>
    unfold releaseEntries
    split
    · next h => exact (released_releaseOldest h).trans (ih _)
    · exact Released.refl s

theorem released_drainBacklog (s : State) : Released s (drainBacklog s) := released_releaseEntries _ s

end Sys2Proof.Machine


/-! Sending a message, and the releases it brings (R55, R57, R164, R171). -/

namespace Sys2Proof.Machine

/-! ## How far releases go -/

theorem releaseEntries_succ_of_due {n : Nat} {s : State} (h : releaseDue s = true) :
    releaseEntries (n + 1) s = releaseEntries n (releaseOldest s) := if_pos h

theorem releaseEntries_of_not_due {n : Nat} {s : State} (h : ¬releaseDue s = true) : releaseEntries n s = s := by
  cases n with
  | zero => rfl
  | succ n => exact if_neg h

theorem backlog_releaseOldest {e : Nat × BacklogOutcome} {rest : List (Nat × BacklogOutcome)} {s : State}
    (h : s.store.backlog = e :: rest) : (releaseOldest s).store.backlog = rest := by
  cases hr : waitingRecord e.1 s with
  | none => rw [releaseOldest_of_gone h hr]; rfl
  | some r => exact (store_release h hr).2.2.2.2

/-- Enough releases leave none due. -/
theorem not_due_releaseEntries {n : Nat} {s : State} (h : s.store.backlog.length ≤ n) :
    ¬releaseDue (releaseEntries n s) = true := by
  induction n generalizing s with
  | zero =>
    have hnil : s.store.backlog = [] := List.length_eq_zero_iff.mp (Nat.le_zero.mp h)
    rw [releaseEntries, releaseDue_iff]
    exact fun hd => hd.1 hnil
  | succ n ih =>
    by_cases hd : releaseDue s = true
    · rw [releaseEntries_succ_of_due hd]
      refine ih ?_
      obtain ⟨e, rest, hb⟩ := List.exists_cons_of_ne_nil ((releaseDue_iff s).mp hd).1
      rw [backlog_releaseOldest hb]
      rw [hb] at h
      exact Nat.le_of_succ_le_succ h
    · rwa [releaseEntries_of_not_due hd]

theorem not_due_drainBacklog (s : State) : ¬releaseDue (drainBacklog s) = true := not_due_releaseEntries le_rfl

theorem drainBacklog_of_due {e : Nat × BacklogOutcome} {rest : List (Nat × BacklogOutcome)} {s : State}
    (h : s.store.backlog = e :: rest) (hd : releaseDue s = true) :
    drainBacklog s = releaseEntries rest.length (releaseOldest s) := by
  rw [drainBacklog, h]
  exact releaseEntries_succ_of_due hd

theorem drainBacklog_of_not_due {s : State} (h : ¬releaseDue s = true) : drainBacklog s = s :=
  releaseEntries_of_not_due h

theorem placeOf_of_map {key : Nat} {s t : State} (hs : placeOf key s = none)
    (h : t.store.map.Sublist s.store.map) : placeOf key t = none :=
  placeOf_eq_none_iff.mpr fun e he => placeOf_eq_none_iff.mp hs e (h.subset he)

theorem placeOf_releaseOldest {key : Nat} {o : BacklogOutcome} {rest : List (Nat × BacklogOutcome)} {r : Record}
    {s : State} (h : s.store.backlog = (key, o) :: rest) (hr : waitingRecord key s = some r) :
    placeOf key (releaseOldest s) = none := by
  obtain ⟨-, -, hmap, -, -⟩ := store_release h hr
  rw [placeOf_eq_none_iff, hmap]
  intro e he
  simpa using (List.mem_filter.mp he).2

theorem txQueue_releaseOldest {key : Nat} {o : BacklogOutcome} {rest : List (Nat × BacklogOutcome)} {r : Record}
    {s : State} (h : s.store.backlog = (key, o) :: rest) (hr : waitingRecord key s = some r)
    (hroom : txHasRoom .address s = true) : ∃ more, txQueue .address (releaseOldest s) =
      txQueue .address s ++ outcomeFrame r (backlogEnd o) :: more := by
  rw [releaseOldest_of_waiting h hr]
  exact txQueue_endLife _ _ r (s := backlogRest rest s) hroom

/-- Settles O29: one release by the length of the address port's queue. -/
theorem backlogReleaseEndsTheOldestRecord : Obligations.BacklogReleaseEndsTheOldestRecord := by
  intro key o rest r s hb hr
  refine ⟨fun hlen => ?_, fun hlen hdropped => ?_⟩
  · have hdue : releaseDue s = true := (releaseDue_iff s).mpr ⟨by simp [hb], hlen⟩
    obtain ⟨hqueue, hlane, -, htext, hback⟩ := store_release hb hr
    obtain ⟨more, hmore⟩ := txQueue_releaseOldest hb hr (hasRoom_of_lt hlen)
    obtain ⟨rest', hrest'⟩ := (Grows.settle (releaseOldest s)).exists_append .address
    have hplace := placeOf_releaseOldest hb hr
    have hexec : exec .outcomeBacklogRelease s = .next (settle (releaseOldest s)) := by
      show answerEvent releaseOne s = _
      rw [answerEvent, releaseOne, if_pos hdue]
    refine ⟨_, more ++ rest', hexec, by simpa using hback, by simpa using hqueue, by simpa using hlane, ?_,
      by simpa using htext, by rw [hrest', hmore]; cases o <;> simp [backlogEnd], by simp, by simp, by simp, by simp⟩
    exact placeOf_of_map hplace (by simp)
  · have hdue : ¬releaseDue s = true := fun hd => Nat.not_lt.mpr hlen ((releaseDue_iff s).mp hd).2
    show answerEvent releaseOne s = _
    rw [answerEvent, releaseOne, if_neg hdue, settle_of_none hdropped]

/-! ## The sending of a message -/

theorem portSet_portSet {α : Type} (x : PerPort α) (p : Port) (a b : α) : portSet (portSet x p a) p b = portSet x p b := by
  cases p <;> rfl

theorem setPortState_setPortState (p : Port) (x y : PortState) (s : State) :
    setPortState p x (setPortState p y s) = setPortState p x s := by
  simp only [setPortState, State.setLink_link, portSet_portSet]
  rfl

/-- The message at the head of a port's queue leaves it. -/
def headSent (p : Port) (rest : List Frame) (s : State) : State := setPortState p { portState p s with tx := rest } s

theorem sendHead_of_nil {p : Port} {s : State} (h : txQueue p s = []) : sendHead p s = s := by
  simp [sendHead, h]

theorem sendHead_of_cons {p : Port} {f : Frame} {rest : List Frame} {s : State} (h : txQueue p s = f :: rest) :
    sendHead p s =
      let u := match f.speed with
        | some v => changeSpeed p v (headSent p rest s)
        | none => headSent p rest s
      if p = .address then drainBacklog u else u := by
  simp only [sendHead, h]
  rfl

theorem txQueue_headSent (p : Port) (rest : List Frame) (s : State) : txQueue p (headSent p rest s) = rest := by
  simp [headSent, txQueue]

theorem drain_of_quiet {p : Port} {u : State} (h : p ≠ .address ∨ u.store.backlog = [] ∨ 16 ≤ (txQueue .address u).length) :
    (if p = .address then drainBacklog u else u) = u := by
  split
  · next hp =>
    refine drainBacklog_of_not_due fun hd => ?_
    obtain ⟨hne, hlt⟩ := (releaseDue_iff u).mp hd
    rcases h with h | h | h
    · exact h hp
    · exact hne h
    · exact Nat.not_lt.mpr h hlt
  · rfl

theorem changeSpeed_headSent (p : Port) (v : Fin 7) (rest : List Frame) (s : State) :
    changeSpeed p v (headSent p rest s) = setPortState p
      { speed := v, tx := rest,
        receiver := if (portState p s).speed = v then (portState p s).receiver else .idle } s := by
  unfold changeSpeed headSent
  rw [portState_setPortState_same, setPortState_setPortState]
  by_cases h : (portState p s).speed = v
  · simp [h]
  · simp [h]

theorem dropped_changeSpeed (p : Port) (v : Fin 7) (s : State) : (changeSpeed p v s).link.dropped = s.link.dropped := by
  unfold changeSpeed
  split <;> simp

theorem exec_messageSent_of_quiet {p : Port} {f : Frame} {rest : List Frame} {s : State} (hd : s.link.dropped = [])
    (h : p ≠ .address ∨ s.store.backlog = [] ∨ 16 ≤ rest.length) (hq : txQueue p s = f :: rest)
    (hf : f.speed = none) :
    exec (.messageSent p) s = .next (setPortState p { portState p s with tx := rest } s) := by
  have hsend : sendHead p s = headSent p rest s := by
    rw [sendHead_of_cons hq, hf]
    refine drain_of_quiet ?_
    by_cases hp : p = .address
    · subst hp; rw [txQueue_headSent]; exact h
    · exact .inl hp
  show answerEvent (sendHead p) s = _
  rw [answerEvent, hsend, settle_of_none (by simpa [headSent] using hd)]
  rfl

theorem sendHead_of_speed {p : Port} {num : Byte} {v : Fin 7} {rest : List Frame} {s : State}
    (h : p ≠ .address ∨ s.store.backlog = [] ∨ 16 ≤ rest.length) (hq : txQueue p s = acceptSpeedFrame num v :: rest) :
    sendHead p s = changeSpeed p v (headSent p rest s) := by
  rw [sendHead_of_cons hq]
  refine drain_of_quiet (u := changeSpeed p v (headSent p rest s)) ?_
  rw [changeSpeed_headSent]
  by_cases hp : p = .address
  · subst hp
    simpa [txQueue] using h
  · exact .inl hp

theorem takeSetSpeed_of_code (p : Port) (num : Byte) (v : Fin 7) (s : State) :
    takeSetSpeed p num [BitVec.ofNat 8 v.val] s = post p (acceptSpeedFrame num v) s := by
  have hv : (BitVec.ofNat 8 v.val).toNat = v.val := by
    have := v.isLt
    simp only [BitVec.toNat_ofNat]
    omega
  have hcode : speedOfCode v.val = some v := by simp [speedOfCode]
  simp only [takeSetSpeed, field_singleton, hv, hcode, List.length_singleton, ne_eq, not_true_eq_false, if_false]

theorem takeSetSpeed_of_ge {p : Port} {num x : Byte} (h : 7 ≤ x.toNat) (s : State) :
    takeSetSpeed p num [x] s = refuse p num .outOfRange s := by
  simp [takeSetSpeed, field_singleton, speedOfCode, Nat.not_lt.mpr h]

/-- A sent message of the address port that brings releases (R55, R171). -/
theorem messageSent_releases {key : Nat} {o : BacklogOutcome} {older : List (Nat × BacklogOutcome)} {r : Record}
    {f : Frame} {rest : List Frame} {s : State} (hq : txQueue .address s = f :: rest) (hf : f.speed = none)
    (hlen : rest.length < 16) (hb : s.store.backlog = (key, o) :: older) (hr : waitingRecord key s = some r) :
    ∃ t more, exec (.messageSent .address) s = .next t ∧ t.store.backlog <:+ older ∧
      (t.store.backlog = [] ∨ 16 ≤ (txQueue .address t).length) ∧ placeOf key t = none ∧
      txQueue .address t = rest ++ outcomeFrame r (backlogEnd o) :: more ∧
      (∀ x ∈ t.store.queue ++ t.store.lane, x.key ≠ key) ∧ t.track = s.track ∧ t.carrier = s.carrier ∧ t.reg = s.reg := by
  have hbu : (headSent .address rest s).store.backlog = (key, o) :: older := hb
  have hru : waitingRecord key (headSent .address rest s) = some r := hr
  have hqu := txQueue_headSent .address rest s
  have hdue : releaseDue (headSent .address rest s) = true := (releaseDue_iff _).mpr ⟨by simp [hbu], by rwa [hqu]⟩
  have hsend : sendHead .address s = drainBacklog (headSent .address rest s) := by
    rw [sendHead_of_cons hq, hf]
    rfl
  have hrest := released_releaseEntries older.length (releaseOldest (headSent .address rest s))
  have hdone := not_due_drainBacklog (headSent .address rest s)
  have hkeep : (drainBacklog (headSent .address rest s)).track = s.track ∧
      (drainBacklog (headSent .address rest s)).carrier = s.carrier ∧
      (drainBacklog (headSent .address rest s)).reg = s.reg := by simp [headSent]
  rw [← drainBacklog_of_due hbu hdue] at hrest
  obtain ⟨hqueue, hlane, -, -, hback⟩ := store_release hbu hru
  obtain ⟨first, hfirst⟩ := txQueue_releaseOldest hbu hru (hasRoom_of_lt (by rwa [hqu]))
  have hplace := placeOf_of_map (placeOf_releaseOldest hbu hru) hrest.map
  generalize drainBacklog (headSent .address rest s) = t at *
  obtain ⟨more, hmore⟩ := (hrest.grows.trans (Grows.settle t)).exists_append .address
  refine ⟨settle t, first ++ more, ?_, ?_, ?_, placeOf_of_map hplace (by simp), ?_, fun x hx => ?_, by simp [hkeep.1],
    by simp [hkeep.2.1], by simp [hkeep.2.2]⟩
  · show answerEvent (sendHead .address) s = _
    rw [answerEvent, hsend]
  · simpa [hback] using hrest.backlog
  · rw [releaseDue_iff, not_and_or, not_not, Nat.not_lt] at hdone
    refine hdone.imp (fun h => by simpa using h) fun h => h.trans (Grows.settle t .address).length_le
  · rw [hmore, hfirst, hqu]; simp
  · have hx' : x ∈ (s.store.queue ++ s.store.lane).filter fun x => x.key ≠ key := by
      rw [List.filter_append]
      have hmem := (hrest.queue.append hrest.lane).subset (by simpa using hx)
      rw [hqueue, hlane] at hmem
      exact hmem
    simpa using (List.mem_filter.mp hx').2

/-- Settles O7: SET SPEED, and the sending of a message by its queue, its speed and the backlog. -/
theorem sentMessageLeavesTheHeadOfItsQueue : Obligations.SentMessageLeavesTheHeadOfItsQueue := by
  intro p f rest num v s hd
  refine ⟨fun hr => ⟨?_, fun b hb => ?_, fun x hx => ?_⟩, fun hq => ?_, fun h => ⟨exec_messageSent_of_quiet hd h,
    fun hq => ⟨?_, ?_⟩⟩, fun key o older r hp hq hf hlen hb hr => ?_⟩
  · exact answerMessage_reply (n := 0) hr _ _ (takeSetSpeed p num _) (takeSetSpeed_of_code p num v _)
  · exact exec_refused (n := 0) hr (takeSetSpeed p num b) rfl fun u => if_pos hb
  · exact exec_refused (n := 0) hr (takeSetSpeed p num [x]) rfl (takeSetSpeed_of_ge hx)
  · show answerEvent (sendHead p) s = _
    rw [answerEvent, sendHead_of_nil hq, settle_of_none hd]
  · have haccept : sendSpeedAccept p s = sendHead p s := by simp [sendSpeedAccept, hq, acceptSpeedFrame]
    show answerEvent (sendHead p) s = answerEvent (sendSpeedAccept p) s
    rw [answerEvent, answerEvent, haccept]
  · have haccept : sendSpeedAccept p s = sendHead p s := by simp [sendSpeedAccept, hq, acceptSpeedFrame]
    show answerEvent (sendSpeedAccept p) s = _
    rw [answerEvent, haccept, sendHead_of_speed h hq, settle_of_none
      ((dropped_changeSpeed p v _).trans (by simpa [headSent] using hd)), changeSpeed_headSent]
  · subst hp
    cases o <;> exact messageSent_releases hq hf hlen hb hr

end Sys2Proof.Machine


/-! JOB ABORT and CLOSE SHORT (R43, R54). -/

namespace Sys2Proof.Machine

/-! ## Records entered in the backlog -/

theorem find?_isNone_of_backlogOutcome {key : Nat} {s : State} (h : backlogOutcome key s = none) :
    s.store.backlog.find? (fun e => e.1 == key) = none := by
  simpa [backlogOutcome] using h

/-- A record entered in the backlog has the outcome it had there, or the new one (R43, R54). -/
theorem backlogOutcome_enterBacklog_mem {o : BacklogOutcome} {rs : List Record} {r : Record} (s : State) (h : r ∈ rs) :
    backlogOutcome r.key (enterBacklog o rs s) = some ((backlogOutcome r.key s).getD o) := by
  cases hb : backlogOutcome r.key s with
  | some x =>
    unfold backlogOutcome at hb ⊢
    simp only [enterBacklog, State.setStore_store, List.find?_append]
    cases hf : s.store.backlog.find? (fun e => e.1 == r.key) with
    | none => simp [hf] at hb
    | some e => simpa [hf] using hb
  | none =>
    have hf := find?_isNone_of_backlogOutcome hb
    simp only [backlogOutcome, enterBacklog, State.setStore_store, List.find?_append, hf, Option.none_or]
    have hex : ∃ e, ((rs.filter fun r => (backlogOutcome r.key s).isNone).map fun r => (r.key, o)).find?
        (fun e => e.1 == r.key) = some e := by
      rw [← Option.isSome_iff_exists, List.find?_isSome]
      exact ⟨(r.key, o), List.mem_map.mpr ⟨r, List.mem_filter.mpr ⟨h, by simp [hb]⟩, rfl⟩, by simp⟩
    obtain ⟨e, he⟩ := hex
    obtain ⟨x, -, rfl⟩ := List.mem_map.mp (List.mem_of_find?_eq_some he)
    simp only [backlogOutcome] at he
    rw [he]
    rfl

/-- A record that is not entered keeps what the backlog has of it. -/
theorem backlogOutcome_enterBacklog_not_mem {o : BacklogOutcome} {rs : List Record} {key : Nat} (s : State)
    (h : ∀ r ∈ rs, r.key ≠ key) : backlogOutcome key (enterBacklog o rs s) = backlogOutcome key s := by
  have hnone : ((rs.filter fun r => (backlogOutcome r.key s).isNone).map fun r => (r.key, o)).find?
      (fun e => e.1 == key) = none := by
    rw [List.find?_eq_none]
    intro e he
    obtain ⟨r, hr, rfl⟩ := List.mem_map.mp he
    simpa using h r (List.mem_filter.mp hr).1
  simp only [backlogOutcome] at hnone
  simp only [backlogOutcome, enterBacklog, State.setStore_store, List.find?_append, hnone, Option.or_none]

theorem KeysDistinct.waiting {s : State} (h : KeysDistinct s) : WaitingDistinct s := by
  unfold KeysDistinct heldRecords at h
  rw [List.map_append] at h
  exact h.of_append_left

/-- With no record waiting, releases only take entries out of the backlog. -/
theorem releaseEntries_of_nothing (n : Nat) {s : State} (hq : s.store.queue = []) (hl : s.store.lane = []) :
    ∃ b, releaseEntries n s = backlogRest b s := by
  induction n generalizing s with
  | zero => exact ⟨s.store.backlog, rfl⟩
  | succ n ih =>
    by_cases hd : releaseDue s = true
    · rw [releaseEntries_succ_of_due hd]
      obtain ⟨e, rest, hb⟩ := List.exists_cons_of_ne_nil ((releaseDue_iff s).mp hd).1
      have hw : waitingRecord e.1 s = none := by simp [waitingRecord, hq, hl]
      rw [releaseOldest_of_gone hb hw]
      obtain ⟨b, h⟩ := ih (s := backlogRest rest s) hq hl
      exact ⟨b, h⟩
    · rw [releaseEntries_of_not_due hd]
      exact ⟨s.store.backlog, rfl⟩

/-! ## Short bundles -/

theorem short_of_mem_setShorts {ns : List Nat} {x : Bundle} {s : State}
    (hx : x ∈ (ns.foldl (fun s n => setShort n s) s).bundles.table) (hn : x.number ∈ ns) : x.short = true := by
  induction ns generalizing s with
  | nil => exact absurd hn List.not_mem_nil
  | cons n ns ih =>
    rcases List.mem_cons.mp hn with rfl | hn
    · obtain ⟨y, hy, hnumber, hshort, -⟩ := (Checked.setShorts ns (setShort x.number s)).table x hx
      refine hshort ?_
      simp only [setShort, updateBundle, State.setBundles_bundles, List.mem_map] at hy
      obtain ⟨z, -, rfl⟩ := hy
      split at hnumber
      · next h => rw [if_pos h]
      · next h => exact absurd hnumber h
    · exact ih hx hn

/-! ## JOB ABORT -/

/-- A JOB ABORT accepted: the job ABORTING and the gate closed (R43). -/
def jobAborting (num : Byte) (u : State) : State :=
  closeGate (changeJob .aborting u.store.jobNumber (accept .address num u))

theorem setShorts_keeps (ns : List Nat) (s : State) :
    (ns.foldl (fun s n => setShort n s) s).carrier = s.carrier ∧ (ns.foldl (fun s n => setShort n s) s).reg = s.reg ∧
    (ns.foldl (fun s n => setShort n s) s).disp = s.disp ∧ (ns.foldl (fun s n => setShort n s) s).lines = s.lines := by
  induction ns generalizing s with
  | nil => exact ⟨rfl, rfl, rfl, rfl⟩
  | cons n ns ih => exact ih (setShort n s)

/-- Every bundle sealed and its short flag set (R43). -/
def allShort (s : State) : State :=
  let s := sealBundles (bundleNumbers s) s
  (bundleNumbers s).foldl (fun s n => setShort n s) s

/-- Every waiting record in the backlog, and the releases that brings (R43, R55). -/
def allGivenUp (s : State) : State := drainBacklog (enterBacklog .aborted (s.store.queue ++ s.store.lane) s)

/-- The close checks of all bundles and the completion check (R43). -/
def allChecked (s : State) : State := completionCheck (closeChecks (bundleNumbers s) s)

theorem abortJob_eq (num : Byte) (u : State) :
    abortJob .address num u = allChecked (allGivenUp (allShort (jobAborting num u))) := by
  simp only [abortJob, allChecked, allGivenUp, allShort, jobAborting]

theorem checked_allShort (s : State) : Checked s (allShort s) :=
  (Checked.sealBundles _ s).trans (Checked.setShorts _ _)

theorem checked_allChecked (s : State) : Checked s (allChecked s) :=
  (Checked.closeChecks _ s).trans (Checked.completionCheck _)

theorem store_jobAborting (num : Byte) (u : State) :
    (jobAborting num u).store = { u.store with jobState := .aborting } := by
  simp [jobAborting, changeJob]

theorem gate_jobAborting (num : Byte) (u : State) :
    (jobAborting num u).run.gate = if u.run.gate = .halt then .halt else .closed := by
  simp [jobAborting, run_closeGate]

theorem Grows.jobAborting (num : Byte) (u : State) : Grows u (jobAborting num u) :=
  (Grows.post _ _ u).trans ((Grows.changeJob _ _ _).trans (Grows.closeGate _))

/-- In a table of distinct numbers every bundle is short and none in FILLING (R43). -/
theorem table_allShort {x : Bundle} {s : State} (hnd : (bundleNumbers s).Nodup) (hx : x ∈ (allShort s).bundles.table) :
    x.short = true ∧ x.state ≠ .filling := by
  obtain ⟨y, hy, hnumber, -, hstate⟩ := (Checked.setShorts (bundleNumbers (sealBundles (bundleNumbers s) s))
    (sealBundles (bundleNumbers s) s)).table x hx
  refine ⟨short_of_mem_setShorts hx ?_, fun hf => state_of_sealed_all hnd hy (hstate hf)⟩
  rw [← hnumber]
  exact List.mem_map_of_mem hy

/-- What an aborted job's waiting records and bundles come to (R43, R55). -/
theorem released_allGivenUp (s : State) :
    Released (enterBacklog .aborted (s.store.queue ++ s.store.lane) s) (allGivenUp s) := released_drainBacklog _

theorem exec_jobAbort {num : Byte} {s : State} (h : s.store.jobState = .loading ∨ s.store.jobState = .ended) :
    exec (.jobAbort .address num []) s =
      .next (settle (allChecked (allGivenUp (allShort (jobAborting num (silent .address s)))))) := by
  have hne : ¬(s.store.jobState = .noJob ∨ s.store.jobState = .aborting) := by rcases h with h | h <;> simp [h]
  show answerMessage .address (takeJobAbort .address num []) s = _
  rw [answerMessage, beginMessage_eq_silent, ← abortJob_eq]
  simp [takeJobAbort, hne]

/-- What an accepted JOB ABORT does (R43, R55). -/
theorem jobAbort_effect {num : Byte} {s u : State} (hu : u = silent .address s) :
    let t := settle (allChecked (allGivenUp (allShort (jobAborting num u))))
    (∀ r ∈ t.store.queue ++ t.store.lane, r ∈ s.store.queue ++ s.store.lane ∧
      backlogOutcome r.key t = some ((backlogOutcome r.key s).getD .aborted)) ∧
    (KeysDistinct s → ∀ r ∈ s.store.queue ++ s.store.lane, r ∉ t.store.queue ++ t.store.lane →
      GivenUp r ((backlogOutcome r.key s).getD .aborted) s t) ∧
    (t.store.jobState = .aborting ∨ t.store.jobState = .noJob) ∧
    ((bundleNumbers s).Nodup → ∀ x ∈ t.bundles.table, x.short = true ∧ x.state ≠ .filling) ∧
    t.run.gate ≠ .opened ∧ t.run.gate ≠ .drain ∧ t.track = s.track := by
  have hstore : (jobAborting num u).store = { s.store with jobState := .aborting } := by
    rw [store_jobAborting, hu]; simp
  have hgate : (jobAborting num u).run.gate ≠ .opened ∧ (jobAborting num u).run.gate ≠ .drain := by
    rw [gate_jobAborting]; split <;> simp
  have hnumbers : bundleNumbers (jobAborting num u) = bundleNumbers s := by
    rw [hu]; simp [bundleNumbers, jobAborting]
  have htrack : (jobAborting num u).track = s.track := by rw [hu]; simp [jobAborting]
  have hgrows : Grows s (jobAborting num u) := fun p => txQueue_silent .address p s ▸ hu ▸ Grows.jobAborting num u p
  generalize jobAborting num u = a at *
  have hshort := checked_allShort a
  have htable := fun (hnd : (bundleNumbers s).Nodup) x => table_allShort (x := x) (s := a) (hnumbers ▸ hnd)
  generalize allShort a = b at *
  have hqueue : b.store.queue = s.store.queue := by rw [hshort.queue, hstore]
  have hlane : b.store.lane = s.store.lane := by rw [hshort.lane, hstore]
  have hback : b.store.backlog = s.store.backlog := by rw [hshort.backlog, hstore]
  have hrel := (released_allGivenUp b).trans (checked_allChecked _).released
  generalize allChecked (allGivenUp b) = t at *
  have hsettle : (settle t).store = t.store := by simp
  have hout (r : Record) (hr : r ∈ s.store.queue ++ s.store.lane) :
      backlogOutcome r.key (enterBacklog .aborted (b.store.queue ++ b.store.lane) b) =
        some ((backlogOutcome r.key s).getD .aborted) := by
    rw [backlogOutcome_enterBacklog_mem b (by rwa [hqueue, hlane]), backlogOutcome_congr hback]
  have hmem (r : Record) (hr : r ∈ t.store.queue ++ t.store.lane) : r ∈ s.store.queue ++ s.store.lane := by
    have := (hrel.queue.append hrel.lane).subset hr
    rwa [← hqueue, ← hlane]
  have hjob : (t.store.jobState = .aborting ∨ t.store.jobState = .noJob) ∧ t.run.gate ≠ .opened ∧
      t.run.gate ≠ .drain := by
    have hbjob : (b.store.jobState = .aborting ∨ b.store.jobState = .noJob) ∧ b.run.gate ≠ .opened ∧
        b.run.gate ≠ .drain := by
      rcases hshort.job with ⟨hstate, -, -, hrun, -⟩ | ⟨hstate, ho, hd, -⟩
      · exact ⟨.inl (by rw [hstate, hstore]), by rw [hrun]; exact hgate.1, by rw [hrun]; exact hgate.2⟩
      · exact ⟨.inr hstate, ho, hd⟩
    rcases hrel.job with ⟨hstate, hrun⟩ | ⟨hstate, ho, hd⟩
    · rw [hstate, hrun]; exact hbjob
    · exact ⟨.inr hstate, ho, hd⟩
  refine ⟨fun r hr => ?_, fun hd r hr hn => ?_, ?_, fun hnd x hx => ?_, ?_, ?_, ?_⟩
  · rw [hsettle] at hr
    refine ⟨hmem r hr, ?_⟩
    rw [backlogOutcome_congr (congrArg Store.backlog hsettle), hrel.stays r hr, hout r (hmem r hr)]
  · rw [hsettle] at hn
    have hdb : WaitingDistinct (enterBacklog .aborted (b.store.queue ++ b.store.lane) b) := by
      have := hd.waiting
      unfold WaitingDistinct at this ⊢
      rwa [← hqueue, ← hlane] at this
    have hrb : r ∈ b.store.queue ++ b.store.lane := by rwa [hqueue, hlane]
    obtain ⟨o, ho, hgiven⟩ := hrel.leaves hdb r hrb hn
    rw [hout r hr] at ho
    obtain rfl := Option.some.inj ho
    exact (Queued.front ((hgrows.trans hshort.grows).to_link (by simp)) hgiven).mono (Grows.settle t)
  · rw [hsettle]; exact hjob.1
  · have hx' : x ∈ t.bundles.table := by simpa using hx
    obtain ⟨y, hy, -, yshort, ystate⟩ := hrel.table x hx'
    obtain ⟨hys, hyf⟩ := htable hnd y (by simpa using hy)
    exact ⟨yshort hys, fun hf => hyf (ystate hf)⟩
  · rcases gate_settle t with h | h <;> rw [h]
    · exact hjob.2.1
    · simp
  · rcases gate_settle t with h | h <;> rw [h]
    · exact hjob.2.2
    · simp
  · rw [(settle_keeps t).2.2.2.2.2.2.2.1, hrel.track]
    exact (enterBacklog_keeps _ _ b).2.2.2.2.2.2.2.1.trans (hshort.track.trans htrack)

/-! ## JOB ABORT with nothing held -/

theorem completeJob_of_shut {s : State} (h : s.run.gate = .closed ∨ s.run.gate = .halt) :
    completeJob s = endEpisodes (changeJob .noJob none (jobUnmarked s)) := by
  have hgate : (endEpisodes (changeJob .noJob none (jobUnmarked s))).run.gate = s.run.gate := by
    simp [jobUnmarked, jobNotified]
  rw [completeJob_eq, closeGate, hgate]
  rcases h with h | h <;> rw [h]

/-- The messages of a job's completion where the gate does not close (R26, R44). -/
theorem txQueue_completeJob_of_shut {n : Nat} {s : State} (hr : Roomy (n + 2) s)
    (h : s.run.gate = .closed ∨ s.run.gate = .halt) (p : Port) : txQueue p (completeJob s) =
      txQueue p s ++
        (if p = .address then [jobCompleteFrame s.store.jobNumber (s.store.jobState = .aborting)] else []) ++
        if (subscription p s).state = true then [stateFrame (.job .noJob none)] else [] := by
  have h1 : Roomy (n + 1) (jobUnmarked s) := Roomy.jobUnmarked (n := n + 1) hr
  have hq1 : txQueue p (jobUnmarked s) = txQueue p s ++
      if p = .address then [jobCompleteFrame s.store.jobNumber (s.store.jobState = .aborting)] else [] :=
    txQueue_post (n := n + 1) hr .address p _
  have hsub : subscription p (jobUnmarked s) = subscription p s := by simp [subscription, jobUnmarked, jobNotified]
  rw [completeJob_of_shut h]
  refine (txQueue_changeJob (n := n) h1 .noJob none p).trans ?_
  rw [hq1, hsub]

theorem Roomy.completeJob_of_shut {n : Nat} {s : State} (hr : Roomy (n + 2) s)
    (h : s.run.gate = .closed ∨ s.run.gate = .halt) : Roomy n (Machine.completeJob s) := by
  rw [Machine.completeJob_of_shut h]
  exact Roomy.of_link (Roomy.changeJob (Roomy.jobUnmarked (n := n + 1) hr) .noJob none) rfl

/-- With nothing held and no bundle an abort comes to the completion check at once, but for what the backlog holds. -/
theorem allChecked_of_nothing {s : State} (h : NothingHeld s) :
    ∃ b, allChecked (allGivenUp (allShort s)) = completionCheck (backlogRest b s) := by
  obtain ⟨hqueue, hlane, -, htable⟩ := h
  have hshort : allShort s = s := by simp [allShort, bundleNumbers, htable, sealBundles]
  have henter : enterBacklog .aborted (s.store.queue ++ s.store.lane) s = s := by
    have hnil : s.store.queue ++ s.store.lane = [] := by simp [hqueue, hlane]
    rw [hnil, enterBacklog, List.filter_nil, List.map_nil, List.append_nil]
    rfl
  obtain ⟨b, hb⟩ := releaseEntries_of_nothing s.store.backlog.length hqueue hlane
  refine ⟨b, ?_⟩
  rw [hshort, allGivenUp, henter, drainBacklog, hb]
  simp [allChecked, bundleNumbers, backlogRest, htable, closeChecks]

theorem Roomy.jobAborting {n : Nat} {num : Byte} {u : State} (hr : Roomy (n + 3) u) : Roomy n (jobAborting num u) :=
  Roomy.closeGate (Roomy.changeJob (n := n + 1) (Roomy.post (n := n + 2) hr _ _) _ _)

theorem txQueue_jobAborting {n : Nat} {num : Byte} {u : State} (hr : Roomy (n + 3) u) (p : Port) :
    txQueue p (jobAborting num u) = txQueue p u ++ (if p = .address then [acceptFrame num []] else []) ++
      (if (subscription p u).state = true then [stateFrame (.job .aborting u.store.jobNumber)] else []) ++
      if (u.run.gate = .opened ∨ u.run.gate = .drain) ∧ (subscription p u).state = true then
        [stateFrame (.gate .closed)] else [] := by
  have hr1 : Roomy (n + 2) (accept .address num u) := Roomy.post (n := n + 2) hr _ _
  have hr2 : Roomy (n + 1) (changeJob .aborting u.store.jobNumber (accept .address num u)) :=
    Roomy.changeJob (n := n + 1) hr1 _ _
  have hq : txQueue p (accept .address num u) = txQueue p u ++ if p = .address then [acceptFrame num []] else [] :=
    txQueue_post (n := n + 2) hr .address p _
  have hsub : subscription p (accept .address num u) = subscription p u := by simp [subscription]
  have hsub' : subscription p (changeJob .aborting u.store.jobNumber (accept .address num u)) = subscription p u := by
    simp [subscription]
  have hgate : (changeJob .aborting u.store.jobNumber (accept .address num u)).run.gate = u.run.gate := by simp
  rw [jobAborting, txQueue_closeGate hr2, txQueue_changeJob (n := n + 1) hr1, hq, hsub, hsub', hgate]

/-- A JOB ABORT with nothing held and no bundle completes the job at once (R43, R44). -/
theorem jobAbort_of_nothing {num : Byte} {s u : State} (hu : u = silent .address s) (h : NothingHeld s) :
    let t := settle (allChecked (allGivenUp (allShort (jobAborting num u))))
    JobCompleted s t ∧ (Roomy 5 s → ∀ p, txQueue p t =
      txQueue p s ++ (if p = .address then [acceptFrame num []] else []) ++
        (if (subscription p s).state = true then
          stateFrame (.job .aborting s.store.jobNumber) ::
            (if s.run.gate = .opened ∨ s.run.gate = .drain then [stateFrame (.gate .closed)] else []) else []) ++
        (if p = .address then [jobCompleteFrame s.store.jobNumber true] else []) ++
        (if (subscription p s).state = true then [stateFrame (.job .noJob none)] else [])) := by
  obtain ⟨hqueue, hlane, hpieces, htable⟩ := h
  have hstore : (jobAborting num u).store = { s.store with jobState := .aborting } := by
    rw [store_jobAborting, hu]; simp
  have htrack : (jobAborting num u).track = s.track := by rw [hu]; simp [jobAborting]
  have hgate : (jobAborting num u).run.gate = if s.run.gate = .halt then .halt else .closed := by
    rw [gate_jobAborting, hu, gate_silent]
  have hshut : (jobAborting num u).run.gate = .closed ∨ (jobAborting num u).run.gate = .halt := by
    rw [hgate]; split <;> simp
  have hheld : NothingHeld (jobAborting num u) := by
    refine ⟨by rw [hstore, hqueue], by rw [hstore, hlane], by rw [pieces, htrack]; exact hpieces, ?_⟩
    rw [hu]; simpa [jobAborting] using htable
  have hsub (p : Port) : subscription p (jobAborting num u) = subscription p s := by
    rw [hu]; simp [subscription, jobAborting]
  have hroom (hr : Roomy 5 s) : Roomy 2 (jobAborting num u) := Roomy.jobAborting (hu ▸ hr.silent .address)
  have hqueues (hr : Roomy 5 s) (p : Port) := txQueue_jobAborting (num := num) (n := 2) (hu ▸ hr.silent .address) p
  obtain ⟨b, hb⟩ := allChecked_of_nothing hheld
  generalize jobAborting num u = a at *
  have hheld' : NothingHeld (backlogRest b a) := hheld
  have hstore' : (backlogRest b a).store.jobState = .aborting := by simp [backlogRest, hstore]
  have hready := (completionReady_iff (backlogRest b a)).mpr ⟨.inr hstore', hheld'⟩
  have hrest (hr : Roomy 5 s) : Roomy 2 (backlogRest b a) := (hroom hr).of_link rfl
  rw [hb]
  refine ⟨(jobCompleted_of_check_of_halt hheld' (.inr hstore') ?_).settle fun hr => ?_, fun hr p => ?_⟩
  · show a.run.gate = .halt ↔ _
    rw [hgate]; split <;> simp_all
  · rw [completionCheck_of_ready hready]
    exact (Roomy.completeJob_of_shut (n := 0) (hrest hr) hshut).1
  · have hq : txQueue p (backlogRest b a) = txQueue p a := rfl
    have hs : subscription p (backlogRest b a) = subscription p s := hsub p
    have hnumber : (backlogRest b a).store.jobNumber = s.store.jobNumber := by simp [backlogRest, hstore]
    rw [completionCheck_of_ready hready, settle_of_roomy (Roomy.completeJob_of_shut (n := 0) (hrest hr) hshut),
      txQueue_completeJob_of_shut (n := 0) (hrest hr) hshut, hq, hs, hnumber, hqueues hr p, hu, txQueue_silent,
      subscription_silent, gate_silent, hstore']
    by_cases hsubbed : (subscription p s).state = true
    · by_cases hg : s.run.gate = .opened ∨ s.run.gate = .drain <;> simp [hsubbed, hg]
    · simp [hsubbed]

/-- Settles O27: JOB ABORT by the job's state, with the fate of every waiting record, and of a job with nothing held. -/
theorem jobAbortGivesUpTheWaitingRecords : Obligations.JobAbortGivesUpTheWaitingRecords := by
  intro num s
  refine ⟨fun hr h b => ?_, fun hr h b hb => ?_, fun h => ?_⟩
  · exact answerMessage_reply (n := 0) hr _ _ (takeJobAbort .address num b) (by simp [takeJobAbort, h, refuse])
  · have hne : ¬(s.store.jobState = .noJob ∨ s.store.jobState = .aborting) := by rcases h with h | h <;> simp [h]
    exact answerMessage_reply (n := 0) hr _ _ (takeJobAbort .address num b) (by simp [takeJobAbort, hne, hb, refuse])
  · obtain ⟨hstays, hleaves, hjob, htable, hopen, hdrain, htrack⟩ := jobAbort_effect (num := num) (s := s) rfl
    refine ⟨_, exec_jobAbort h, hstays, hleaves, jobAbort_of_nothing rfl, hjob, htable, hopen, hdrain, htrack, ?_, ?_,
      ?_, ?_⟩
    all_goals simp [allChecked, allGivenUp, jobAborting, allShort, setShorts_keeps]

end Sys2Proof.Machine


/-! CLOSE SHORT (R54), and the LINK_OVERFLOW of a dropped reply (R171, R172). -/

namespace Sys2Proof.Machine

/-! ## CLOSE SHORT -/

/-- A CLOSE SHORT accepted: the bundle's short flag set (R54). -/
def shortened (num : Byte) (n : Nat) (u : State) : State := setShort n (accept .address num u)

/-- The waiting records of a bundle that are not yet in the backlog enter it, or the close check is made (R54). -/
def restGivenUp (n : Nat) (s : State) : State :=
  if (waitingOfBundle n s).any fun r => (backlogOutcome r.key s).isNone then
    drainBacklog (enterBacklog .short (waitingOfBundle n s) s)
  else closeCheck n s

section
variable {num : Byte} {b : List Byte} {x : Bundle} {s : State}

theorem exec_closeShort (hb : b.length = 3) (hn : ofBytes b ≠ 0) (hx : findBundle (ofBytes b) s = some x)
    (hstate : x.state ≠ .filling) : exec (.closeShort .address num b) s =
      .next (settle (restGivenUp (ofBytes b) (shortened num (ofBytes b) (silent .address s)))) := by
  have hx' : findBundle (ofBytes b) (silent .address s) = some x := by rwa [findBundle_silent]
  show answerMessage .address (takeCloseShort .address num b) s = _
  rw [answerMessage, beginMessage_eq_silent]
  simp [takeCloseShort, hb, field_of_length hb, hn, hx', hstate, findBundle_number hx, closeShortBundle, restGivenUp,
    shortened]

/-- What stays of a bundle given up short is in the backlog with its outcome, and what left had its notice (R54, R55). -/
theorem restGivenUp_records (n : Nat) (s : State) :
    (∀ r ∈ (restGivenUp n s).store.queue ++ (restGivenUp n s).store.lane, r ∈ s.store.queue ++ s.store.lane ∧
      (r.bundle = n → backlogOutcome r.key (restGivenUp n s) = some ((backlogOutcome r.key s).getD .short))) ∧
    (WaitingDistinct s → ∀ r ∈ s.store.queue ++ s.store.lane,
      r ∉ (restGivenUp n s).store.queue ++ (restGivenUp n s).store.lane →
        (r.bundle = n ∨ (backlogOutcome r.key s).isSome = true) ∧
          GivenUp r ((backlogOutcome r.key s).getD .short) s (restGivenUp n s)) ∧
    TableKept s (restGivenUp n s) := by
  unfold restGivenUp
  split
  · have hrel := released_drainBacklog (enterBacklog .short (waitingOfBundle n s) s)
    generalize drainBacklog (enterBacklog .short (waitingOfBundle n s) s) = t at hrel
    have hbundle (r : Record) (hr : r ∈ s.store.queue ++ s.store.lane) (hn : r.bundle = n) :
        backlogOutcome r.key (enterBacklog .short (waitingOfBundle n s) s) =
          some ((backlogOutcome r.key s).getD .short) :=
      backlogOutcome_enterBacklog_mem s (List.mem_filter.mpr ⟨hr, by simp [hn]⟩)
    refine ⟨fun r hr => ⟨(hrel.queue.append hrel.lane).subset hr, fun hn => ?_⟩, fun hd r hr hgone => ?_,
      (TableKept.of_bundles (by simp)).trans hrel.table⟩
    · rw [hrel.stays r hr, hbundle r ((hrel.queue.append hrel.lane).subset hr) hn]
    · obtain ⟨o, ho, hgiven⟩ := hrel.leaves hd r hr hgone
      have hfront : Grows s (enterBacklog .short (waitingOfBundle n s) s) := Grows.of_link rfl
      by_cases hn : r.bundle = n
      · rw [hbundle r hr hn] at ho
        obtain rfl := Option.some.inj ho
        exact ⟨.inl hn, Queued.front hfront hgiven⟩
      · have hout : ∀ y ∈ waitingOfBundle n s, y.key ≠ r.key := fun y hy hkey => by
          obtain ⟨hmem, hyn⟩ := List.mem_filter.mp hy
          exact hn (eq_of_key_of_distinct hd hmem hr hkey ▸ by simpa using hyn)
        rw [backlogOutcome_enterBacklog_not_mem s hout] at ho
        rw [ho]
        exact ⟨.inr rfl, Queued.front hfront hgiven⟩
  · next hany =>
    have hc := Checked.closeCheck n s
    refine ⟨fun r hr => ?_, fun _ r hr hgone => absurd (by rwa [hc.queue, hc.lane]) hgone, hc.table⟩
    rw [hc.queue, hc.lane] at hr
    refine ⟨hr, fun hn => ?_⟩
    rw [backlogOutcome_congr hc.backlog]
    have hsome : backlogOutcome r.key s ≠ none := fun hnone => by
      refine hany (List.any_eq_true.mpr ⟨r, List.mem_filter.mpr ⟨hr, by simp [hn]⟩, by simp [hnone]⟩)
    obtain ⟨o, ho⟩ := Option.ne_none_iff_exists'.mp hsome
    rw [ho]
    rfl

end

theorem restGivenUp_keeps (n : Nat) (s : State) : (restGivenUp n s).track = s.track ∧
    (restGivenUp n s).carrier = s.carrier ∧ (restGivenUp n s).reg = s.reg ∧ (restGivenUp n s).disp = s.disp := by
  unfold restGivenUp
  split <;> simp

/-- Settles O28: the checks of CLOSE SHORT, and the fate of the bundle's waiting records. -/
theorem closeShortGivesUpTheRestOfABundle : Obligations.CloseShortGivesUpTheRestOfABundle := by
  intro num b s
  refine ⟨fun hr hb => ?_, fun hr hb hn => ?_, fun hr hb hn hx => ?_, fun x hb hn hx => ⟨fun hr hstate => ?_,
    fun hstate => ?_⟩⟩
  · exact answerMessage_reply (n := 0) hr _ _ (takeCloseShort .address num b) (by simp [takeCloseShort, hb, refuse])
  · exact answerMessage_reply (n := 0) hr _ _ (takeCloseShort .address num b)
      (by simp [takeCloseShort, hb, field_of_length hb, hn, refuse])
  · exact answerMessage_reply (n := 0) hr _ _ (takeCloseShort .address num b)
      (by simp [takeCloseShort, hb, field_of_length hb, hn, findBundle_silent, hx, refuse])
  · exact answerMessage_reply (n := 0) hr _ _ (takeCloseShort .address num b)
      (by simp [takeCloseShort, hb, field_of_length hb, hn, findBundle_silent, hx, hstate, refuse])
  · refine ⟨_, exec_closeShort hb hn hx hstate, ?_⟩
    have hstore : (shortened num (ofBytes b) (silent .address s)).store = s.store := by simp [shortened]
    have hgrows : Grows s (shortened num (ofBytes b) (silent .address s)) := fun p =>
      txQueue_silent .address p s ▸ ((Grows.post .address (acceptFrame num []) (silent .address s)).to_link (by simp [shortened, accept]) p)
    have hshort : ∀ y ∈ (shortened num (ofBytes b) (silent .address s)).bundles.table, y.number = ofBytes b →
        y.short = true := fun y hy hn =>
      short_of_mem_setShorts (ns := [ofBytes b]) (s := accept .address num (silent .address s)) hy (by simp [hn])
    have hkeep : (shortened num (ofBytes b) (silent .address s)).track = s.track ∧
        (shortened num (ofBytes b) (silent .address s)).carrier = s.carrier ∧
        (shortened num (ofBytes b) (silent .address s)).reg = s.reg ∧
        (shortened num (ofBytes b) (silent .address s)).disp = s.disp := by simp [shortened]
    generalize shortened num (ofBytes b) (silent .address s) = u at *
    obtain ⟨hstays, hleaves, htable⟩ := restGivenUp_records (ofBytes b) u
    have hframe := restGivenUp_keeps (ofBytes b) u
    generalize restGivenUp (ofBytes b) u = t at *
    have hsettle : (settle t).store = t.store := by simp
    have hback (key : Nat) : backlogOutcome key u = backlogOutcome key s :=
      backlogOutcome_congr (congrArg Store.backlog hstore) key
    have hback' (key : Nat) : backlogOutcome key (settle t) = backlogOutcome key t :=
      backlogOutcome_congr (congrArg Store.backlog hsettle) key
    rw [hstore] at hstays hleaves
    simp only [hback] at hstays hleaves
    rw [hsettle]
    refine ⟨fun y hy hynumber => ?_, fun r hr => ?_, fun hd r hr hgone => ?_, by simp [hframe, hkeep],
      by simp [hframe, hkeep], by simp [hframe, hkeep], by simp [hframe, hkeep]⟩
    · obtain ⟨z, hz, znumber, zshort, -⟩ := htable y (by simpa using hy)
      exact zshort (hshort z hz (znumber.trans hynumber))
    · rw [hback']
      exact hstays r hr
    · have hdu : WaitingDistinct u := by
        have := hd.waiting
        unfold WaitingDistinct at this ⊢
        rwa [hstore]
      obtain ⟨hwhy, hgiven⟩ := hleaves hdu r hr hgone
      exact ⟨hwhy, (Queued.front hgrows hgiven).mono (Grows.settle t)⟩

/-! ## Dropped messages -/

/-- The transmit queue of a port holds no more than its 32 places. -/
theorem quiet_length_txQueue (p : Port) : Quiet (fun s => (txQueue p s).length ≤ 32) where
  pins h _ := h
  pending h _ := h
  calls h _ := h
  free h _ := h
  link h _ hx := hx p h
  claim h _ := h
  gate h _ _ _ := h
  latch h := h
  unlatch h := h
  fault h _ _ := h
  stations h _ := h
  lines h _ _ := h
  verify h _ _ := h
  entry h _ _ := h
  reg h _ _ := h
  disp h _ _ := h
  track h _ _ := h
  bundle h _ _ _ := h
  removeBundle h _ := h
  job h _ _ _ _ := h

/-- A full queue stays as it is. -/
theorem txQueue_of_full {p : Port} {s t : State} (h : (txQueue p s).length = 32) (hg : Grows s t)
    (ht : (txQueue p t).length ≤ 32) : txQueue p t = txQueue p s :=
  ((hg p).eq_of_length_le (h ▸ ht)).symm

theorem hasRoom_of_full {p : Port} {s : State} (h : (txQueue p s).length = 32) : txHasRoom p s = false :=
  decide_eq_false (by simp [h, Config.txCapacity])

/-- Faults of one kind raise no other count, clear no latch and leave HALT. -/
structure OverflowOnly (s t : State) : Prop where
  others : ∀ k, k ≠ .linkOverflow → t.fault.counts[kindIndex k] = s.fault.counts[kindIndex k]
  count : s.fault.counts[kindIndex .linkOverflow] ≤ t.fault.counts[kindIndex .linkOverflow]
  latch : s.fault.stopLatch = true → t.fault.stopLatch = true
  halt : s.run.gate = .halt → t.run.gate = .halt
  claim : t.run.claim = s.run.claim

theorem OverflowOnly.refl (s : State) : OverflowOnly s s := ⟨fun _ _ => rfl, le_rfl, id, id, rfl⟩

theorem OverflowOnly.trans {s t u : State} (h : OverflowOnly s t) (h' : OverflowOnly t u) : OverflowOnly s u :=
  ⟨fun k hk => (h'.others k hk).trans (h.others k hk), h.count.trans h'.count, h'.latch ∘ h.latch, h'.halt ∘ h.halt,
    h'.claim.trans h.claim⟩

theorem le_countedOne (n : Nat) : n ≤ countedOne n := by
  unfold countedOne
  split <;> omega

theorem one_le_countedOne (n : Nat) : 1 ≤ countedOne n := by
  unfold countedOne
  split <;> omega

theorem latch_raise (f : FaultRecord) (s : State) :
    (raise f s).fault.stopLatch = (s.fault.stopLatch || decide (actionOf f.kind s = .stop)) := by
  by_cases h : actionOf f.kind s = .off
  · simp [raise_of_off h, h]
  · rw [fault_raise h]

theorem overflowOnly_raise (p : Port) (s : State) : OverflowOnly s (raiseOverflow p s) := by
  refine ⟨fun k hk => ?_, ?_, fun h => ?_, fun h => ?_, ?_⟩
  · by_cases ha : actionOf (plainFault .linkOverflow (.port p) s).kind s = .off
    · rw [raiseOverflow, raise_of_off ha]
    · rw [raiseOverflow, counts_raise ha]
      exact if_neg hk
  · by_cases ha : actionOf (plainFault .linkOverflow (.port p) s).kind s = .off
    · rw [raiseOverflow, raise_of_off ha]
    · rw [raiseOverflow, counts_raise ha]
      exact (le_countedOne _).trans_eq (if_pos rfl).symm
  · rw [raiseOverflow, latch_raise, h, Bool.true_or]
  · rw [raiseOverflow, run_raise]
    split
    · rfl
    · exact h
  · rw [raiseOverflow, run_raise]

theorem overflowOnly_fold (ps : List Port) (s : State) :
    OverflowOnly s (ps.foldl (fun s p => raiseOverflow p s) s) := by
  induction ps generalizing s with
  | nil => exact .refl s
  | cons p ps ih => exact (overflowOnly_raise p s).trans (ih _)

theorem overflowOnly_takeOverflows (s : State) : OverflowOnly s (takeOverflows s) :=
  OverflowOnly.trans (t := s.setLink { s.link with dropped := [] }) ⟨fun _ _ => rfl, le_rfl, id, id, rfl⟩
    (overflowOnly_fold _ _)

theorem overflowOnly_settle (s : State) : OverflowOnly s (settle s) :=
  (overflowOnly_takeOverflows s).trans (overflowOnly_takeOverflows _)

/-- A dropped message whose LINK_OVERFLOW has the action STOP is counted, sets the latch and halts the gate (R171). -/
theorem settle_of_dropped {v : State} (h : v.link.dropped ≠ []) (ha : actionOf .linkOverflow v = .stop) :
    1 ≤ (settle v).fault.counts[kindIndex .linkOverflow] ∧ (settle v).fault.stopLatch = true ∧
      (v.fault.stopLatch = false → (settle v).run.gate = .halt) := by
  obtain ⟨p, ps, hps⟩ := List.exists_cons_of_ne_nil h
  let w := v.setLink { v.link with dropped := [] }
  have hkind : actionOf (plainFault .linkOverflow (.port p) w).kind w = .stop := ha
  have hrest : OverflowOnly (raiseOverflow p w) (settle v) := by
    refine OverflowOnly.trans (t := takeOverflows v) ?_ (overflowOnly_takeOverflows _)
    rw [takeOverflows, hps]
    exact overflowOnly_fold ps _
  refine ⟨?_, hrest.latch ?_, fun hl => hrest.halt ?_⟩
  · refine le_trans ?_ hrest.count
    rw [raiseOverflow, counts_raise (by rw [hkind]; simp)]
    exact (one_le_countedOne _).trans_eq (if_pos rfl).symm
  · rw [raiseOverflow, latch_raise, hkind]
    simp
  · have hl' : w.fault.stopLatch = false := hl
    rw [raiseOverflow, run_raise, hkind]
    simp [hl']

theorem dropped_post_of_full {p : Port} {f : Frame} {s : State} (h : txHasRoom p s = false) :
    (post p f s).link.dropped = s.link.dropped ++ [p] := by
  rw [post_of_full h]
  rfl

theorem dropped_post_ne {p : Port} {f : Frame} {s : State} (h : s.link.dropped ≠ []) :
    (post p f s).link.dropped ≠ [] := by
  cases hr : txHasRoom p s with
  | true => rwa [dropped_post_of_room hr]
  | false => rw [dropped_post_of_full hr]; simp

theorem dropped_postTo_ne {ps : List Port} {f : Frame} {s : State} (h : s.link.dropped ≠ []) :
    (postTo ps f s).link.dropped ≠ [] := by
  induction ps generalizing s with
  | nil => exact h
  | cons p ps ih => exact ih (dropped_post_ne h)

/-- The gate as a message is taken. -/
theorem actionOf_silent (k : FaultKind) (p : Port) (s : State) : actionOf k (silent p s) = actionOf k s := by
  simp [actionOf]

/-- A message taken on a port whose queue is full: its reply is dropped, and the effect is there all the same. -/
theorem settle_of_full_reply {p : Port} {f : Frame} {u : State} (hfull : (txQueue p u).length = 32)
    (ha : actionOf .linkOverflow u = .stop) :
    1 ≤ (settle (post p f u)).fault.counts[kindIndex .linkOverflow] ∧
      (settle (post p f u)).fault.stopLatch = true ∧
      (u.fault.stopLatch = false → (settle (post p f u)).run.gate = .halt) ∧
      txQueue p (settle (post p f u)) = txQueue p u := by
  have hd : (post p f u).link.dropped ≠ [] := by rw [dropped_post_of_full (hasRoom_of_full hfull)]; simp
  obtain ⟨hcount, hlatch, hhalt⟩ := settle_of_dropped hd (by simpa [actionOf] using ha)
  refine ⟨hcount, hlatch, fun h => hhalt (by simpa using h), ?_⟩
  have hq := quiet_length_txQueue p
  exact txQueue_of_full hfull ((Grows.post p f u).trans (Grows.settle _)) (hq.settle (hq.post (le_of_eq hfull) p f))

/-- Settles O8: a dropped message, and CLEAR COUNTS, CLAIM and JOB OPEN whose replies are dropped. -/
theorem droppedReplyHaltsTheLine : Obligations.DroppedReplyHaltsTheLine := by
  intro p num s hd hfull ha
  refine ⟨fun f => ?_, ?_, fun hclaim => ?_, fun hp hjob b hb hn => ?_⟩
  · rw [post_of_full (hasRoom_of_full hfull), hd]
    rfl
  · let u := (silent p s).setFault { (silent p s).fault with counts := Vector.replicate 22 0 }
    have hexec : exec (.clearCounts p num []) s = .next (settle (accept p num u)) := rfl
    have hq : txQueue p u = txQueue p s := txQueue_silent p p s
    obtain ⟨hcount, hlatch, hhalt, hkeep⟩ := settle_of_full_reply (p := p) (f := acceptFrame num []) (u := u)
      (by rw [hq, hfull]) ((actionOf_silent .linkOverflow p s).trans ha)
    refine ⟨_, hexec, hkeep.trans hq, fun k hk => ?_, hcount, hlatch, fun h => hhalt (by simpa [u] using h),
      settle_dropped _⟩
    rw [(overflowOnly_settle _).others k hk]
    simp [u]
  · let u := (silent p s).setRun { (silent p s).run with claim := some { holder := p, elapsed := 0 } }
    have hexec : exec (.claim p num []) s = .next (settle (accept p num u)) := by
      show answerMessage p (takeClaim p num []) s = _
      rw [answerMessage, beginMessage_eq_silent]
      simp [takeClaim, claim_silent_none hclaim, hclaim, u]
    have hq : txQueue p u = txQueue p s := txQueue_silent p p s
    obtain ⟨-, hlatch, -, hkeep⟩ := settle_of_full_reply (p := p) (f := acceptFrame num []) (u := u)
      (by rw [hq, hfull]) ((actionOf_silent .linkOverflow p s).trans ha)
    refine ⟨_, hexec, hkeep.trans hq, ?_, hlatch, settle_dropped _⟩
    rw [(overflowOnly_settle _).claim]
    simp [u]
  · subst hp
    let u := (silent .address s).setStore (openedStore (silent .address s).store (ofBytes b))
    have hexec : exec (.jobOpen .address num b) s =
        .next (settle (postState (.job .loading (some (ofBytes b))) (accept .address num u))) := by
      show answerMessage .address (takeJobOpen .address num b) s = _
      rw [answerMessage, beginMessage_eq_silent, takeJobOpen_of_number (by simpa using hjob) hb hn]
    have hq : txQueue .address u = txQueue .address s := txQueue_silent .address .address s
    have hdropped : (postState (.job .loading (some (ofBytes b))) (accept .address num u)).link.dropped ≠ [] :=
      dropped_postTo_ne (by rw [accept, dropped_post_of_full (hasRoom_of_full (hq ▸ hfull))]; simp)
    obtain ⟨-, hlatch, -⟩ := settle_of_dropped hdropped (by simpa [actionOf, u] using ha)
    refine ⟨_, hexec, ?_, ?_, hlatch, settle_dropped _⟩
    · have hlen := quiet_length_txQueue .address
      exact (txQueue_of_full (hq ▸ hfull) ((Grows.post _ _ u).trans ((Grows.postState _ _).trans (Grows.settle _)))
        (hlen.settle (hlen.postState (hlen.accept (le_of_eq (hq ▸ hfull)) _ _) _))).trans hq
    · simp [u, openedStore]

end Sys2Proof.Machine


/-! The entries of the bundle table across the close check, and WITHDRAW (R53, R138, R140, R141). -/

namespace Sys2Proof.Machine

/-! ## The entries of the table -/

theorem findBundle_congr {s t : State} (h : t.bundles = s.bundles) (n : Nat) : findBundle n t = findBundle n s := by
  simp only [findBundle, h]

theorem findBundle_updateBundle_same {n : Nat} {f : Bundle → Bundle} {s : State} (hf : ∀ b, (f b).number = b.number) :
    findBundle n (updateBundle n f s) = (findBundle n s).map f := by
  simp only [findBundle, updateBundle, State.setBundles_bundles, List.find?_map]
  have hnumber : ((fun b => b.number == n) ∘ fun b => if b.number = n then f b else b) = fun b => b.number == n := by
    funext b
    by_cases h : b.number = n <;> simp [h, hf]
  rw [hnumber]
  cases h : s.bundles.table.find? fun b => b.number == n with
  | none => rfl
  | some b =>
    have hb : b.number = n := by simpa using List.find?_some h
    simp [hb]

theorem findBundle_updateBundle_other {m n : Nat} {f : Bundle → Bundle} {s : State} (hf : ∀ b, (f b).number = b.number)
    (h : m ≠ n) : findBundle m (updateBundle n f s) = findBundle m s := by
  simp only [findBundle, updateBundle, State.setBundles_bundles, List.find?_map]
  have hnumber : ((fun b => b.number == m) ∘ fun b => if b.number = n then f b else b) = fun b => b.number == m := by
    funext b
    by_cases hb : b.number = n <;> simp [hb, hf]
  rw [hnumber]
  cases hx : s.bundles.table.find? fun b => b.number == m with
  | none => rfl
  | some b =>
    have hb : b.number = m := by simpa using List.find?_some hx
    simp [hb, h]

theorem updateBundle_of_absent {n : Nat} {f : Bundle → Bundle} {s : State} (h : findBundle n s = none) :
    (updateBundle n f s).bundles = s.bundles := by
  have habsent := findBundle_eq_none_iff.mp h
  have hmap : (s.bundles.table.map fun b => if b.number = n then f b else b) = s.bundles.table :=
    (List.map_congr_left fun b hb => if_neg (habsent b hb)).trans (List.map_id _)
  simp only [updateBundle, State.setBundles_bundles, hmap]

theorem findBundle_removeBundle_same (n : Nat) (s : State) : findBundle n (removeBundle n s) = none := by
  simp [findBundle, removeBundle]

theorem findBundle_removeBundle_other {m n : Nat} (h : m ≠ n) (s : State) :
    findBundle m (removeBundle n s) = findBundle m s := by
  simp only [findBundle, removeBundle, State.setBundles_bundles, List.find?_filter]
  congr 1
  funext b
  by_cases hb : b.number = m
  · simp [hb, h]
  · simp [hb]

/-- The close check changes no other bundle's entry (R140). -/
theorem findBundle_closeCheck_other {m n : Nat} (h : m ≠ n) (s : State) :
    findBundle m (closeCheck n s) = findBundle m s := by
  cases hx : findBundle n s with
  | none => rw [closeCheck_of_none hx]
  | some x =>
    by_cases hr : closeReady x s = true
    · rw [closeCheck_of_ready hx hr]
      obtain rfl := findBundle_number hx
      by_cases hd : x.delivered = 0 ∧ x.suspects = 0
      · rw [closeBundle_of_none hd.1 hd.2]
        exact (findBundle_congr (by simp) m).trans (findBundle_removeBundle_other h s)
      · rw [closeBundle_of_some hd]
        exact (findBundle_updateBundle_other (by exact fun _ => rfl) h).trans (findBundle_congr (by simp) m)
    · rw [closeCheck_of_not_ready hx hr]

theorem findBundle_closeCheck_broken {n : Nat} {x : Bundle} {s : State} (hx : findBundle n s = some x)
    (hr : closeReady x s = true) (hd : ¬(x.delivered = 0 ∧ x.suspects = 0)) :
    findBundle n (closeCheck n s) = some { x with state := .closing, tieTimer := some 0 } := by
  obtain rfl := findBundle_number hx
  rw [closeCheck_of_ready hx hr, closeBundle_of_some hd, findBundle_updateBundle_same (by exact fun _ => rfl),
    findBundle_congr (by simp : (post _ _ s).bundles = s.bundles), hx]
  rfl

theorem findBundle_closeCheck_emptied {n : Nat} {x : Bundle} {s : State} (hx : findBundle n s = some x)
    (hr : closeReady x s = true) (hd : x.delivered = 0) (hs : x.suspects = 0) :
    findBundle n (closeCheck n s) = none := by
  rw [closeCheck_of_ready hx hr, closeBundle_of_none hd hs, findBundle_number hx]
  exact (findBundle_congr (by simp) n).trans (findBundle_removeBundle_same n s)

/-! ## WITHDRAW -/

/-- A waiting record taken out, with its place and text given back, and its bundle's lane count (R53). -/
def withdrawn (r : Record) (s : State) : State :=
  updateBundle r.bundle (leavePlace (waitingPlace r.key s)) (forgetRecord r (removeWaiting r.key s))

/-- The store after a withdrawal. -/
def withdrawnStore (r : Record) (x : Store) : Store := { x with
    queue := x.queue.filter fun x => x.key ≠ r.key
    lane := x.lane.filter fun x => x.key ≠ r.key
    map := x.map.filter fun e => e.1 ≠ r.key
    textUsed := x.textUsed - textSize r }

theorem store_withdrawn (r : Record) (s : State) : (withdrawn r s).store = withdrawnStore r s.store := rfl

/-- A WITHDRAW accepted, with the checks that follow it (R53). -/
def withdrawal (num : Byte) (r : Record) (s : State) : State :=
  completionCheck (closeCheck r.bundle (accept .address num (withdrawn r s)))

theorem checked_withdrawal (num : Byte) (r : Record) (s : State) :
    Checked (accept .address num (withdrawn r s)) (withdrawal num r s) :=
  (Checked.closeCheck _ _).trans (Checked.completionCheck _)

theorem number_leavePlace (x : Place) (b : Bundle) : (leavePlace x b).number = b.number :=
  (bundleKept_leavePlace x).number b

theorem findBundle_accepted (num : Byte) (n : Nat) (r : Record) (s : State) :
    findBundle n (accept .address num (withdrawn r s)) = findBundle n (withdrawn r s) :=
  findBundle_congr (by simp) n

theorem findBundle_withdrawal_other {m : Nat} {r : Record} (num : Byte) (h : m ≠ r.bundle) (s : State) :
    findBundle m (withdrawal num r s) = findBundle m s := calc
  findBundle m (withdrawal num r s) = findBundle m (closeCheck r.bundle (accept .address num (withdrawn r s))) :=
    findBundle_congr (by simp [withdrawal]) m
  _ = findBundle m (accept .address num (withdrawn r s)) := findBundle_closeCheck_other h _
  _ = findBundle m (withdrawn r s) := findBundle_accepted num m r s
  _ = findBundle m (forgetRecord r (removeWaiting r.key s)) :=
    findBundle_updateBundle_other (number_leavePlace _) h
  _ = findBundle m s := findBundle_congr (by simp) m

theorem findBundle_withdrawn {r : Record} {x : Bundle} {s : State} (hx : findBundle r.bundle s = some x) :
    findBundle r.bundle (withdrawn r s) = some (leavePlace (waitingPlace r.key s) x) := by
  rw [withdrawn, findBundle_updateBundle_same (number_leavePlace _),
    findBundle_congr (by simp : (forgetRecord r (removeWaiting r.key s)).bundles = s.bundles), hx]
  rfl

theorem leavePlace_waiting (r : Record) (x : Bundle) (s : State) : leavePlace (waitingPlace r.key s) x =
    if ∃ z ∈ s.store.lane, z.key = r.key then { x with inLane := x.inLane - 1 } else x := by
  unfold waitingPlace
  by_cases h : ∃ z ∈ s.store.lane, z.key = r.key
  · rw [if_pos (by simpa using h), if_pos h]; rfl
  · rw [if_neg (by simpa using h), if_neg h]; rfl

theorem bundles_withdrawal_of_absent {r : Record} {s : State} (num : Byte) (h : findBundle r.bundle s = none) :
    (withdrawal num r s).bundles = s.bundles := by
  have hkeep : (withdrawn r s).bundles = s.bundles :=
    updateBundle_of_absent (s := forgetRecord r (removeWaiting r.key s)) ((findBundle_congr (by simp) _).trans h)
  have hacc : (accept .address num (withdrawn r s)).bundles = s.bundles := by simpa using hkeep
  have hnone := (findBundle_congr hacc r.bundle).trans h
  rw [withdrawal, closeCheck_of_none hnone]
  simpa using hkeep

/-- The entry of the record's bundle after the withdrawal (R140, R141). -/
theorem findBundle_withdrawal {r : Record} {x : Bundle} {s : State} (num : Byte) (hx : findBundle r.bundle s = some x) :
    let y := leavePlace (waitingPlace r.key s) x
    let ready : Prop := y.state = .sealed ∧ (∀ z ∈ (withdrawal num r s).store.queue, z.bundle ≠ r.bundle) ∧
      y.inFlight = 0 ∧ y.inLane = 0
    (¬ready → findBundle r.bundle (withdrawal num r s) = some y) ∧
    (ready → y.delivered ≠ 0 ∨ y.suspects ≠ 0 →
      findBundle r.bundle (withdrawal num r s) = some { y with state := .closing, tieTimer := some 0 }) ∧
    (ready → y.delivered = 0 → y.suspects = 0 → findBundle r.bundle (withdrawal num r s) = none) := by
  intro y ready
  have hy : findBundle r.bundle (accept .address num (withdrawn r s)) = some y :=
    (findBundle_accepted num _ r s).trans (findBundle_withdrawn hx)
  have hnumber : y.number = r.bundle := findBundle_number hy
  have hcheck : findBundle r.bundle (withdrawal num r s) =
      findBundle r.bundle (closeCheck r.bundle (accept .address num (withdrawn r s))) :=
    findBundle_congr (by simp [withdrawal]) _
  have hready : closeReady y (accept .address num (withdrawn r s)) = true ↔ ready := by
    rw [closeReady_iff, hnumber, ← (checked_withdrawal num r s).queue]
  rw [hcheck]
  refine ⟨fun h => ?_, fun h hd => findBundle_closeCheck_broken hy (hready.mpr h) (by omega),
    fun h => findBundle_closeCheck_emptied hy (hready.mpr h)⟩
  rw [closeCheck_of_not_ready hy (mt hready.mp h), hy]

section
variable {num : Byte} {b : List Byte} {s : State}

theorem takeWithdraw_of_place {p : Place} (hb : b.length = 4) (hp : placeOf (ofBytes b) s = some p) :
    takeWithdraw .address num b s =
      if p = .track ∨ (backlogOutcome (ofBytes b) s).isSome = true then refuse .address num .late s
      else match waitingRecord (ofBytes b) s with
        | none => refuse .address num .unknownKey s
        | some r => withdrawal num r s := by
  cases p <;> simp [takeWithdraw, hb, field_of_length hb, hp] <;> rfl

theorem placeOf_silent (p : Port) (key : Nat) (s : State) : placeOf key (silent p s) = placeOf key s := by
  simp [placeOf]

theorem exec_withdraw {r : Record} (hb : b.length = 4)
    (hp : placeOf (ofBytes b) s = some .queue ∨ placeOf (ofBytes b) s = some .lane)
    (hback : backlogOutcome (ofBytes b) s = none) (hr : waitingRecord (ofBytes b) s = some r) :
    exec (.withdraw .address num b) s = .next (settle (withdrawal num r (silent .address s))) := by
  have hback' : backlogOutcome (ofBytes b) (silent .address s) = none :=
    (backlogOutcome_congr (by simp) _).trans hback
  have hr' : waitingRecord (ofBytes b) (silent .address s) = some r := by simpa [waitingRecord] using hr
  show answerMessage .address (takeWithdraw .address num b) s = _
  rw [answerMessage, beginMessage_eq_silent]
  rcases hp with hp | hp
  all_goals
    rw [takeWithdraw_of_place hb ((placeOf_silent .address _ s).trans hp), if_neg (by simp [hback']), hr']

end

/-- Settles O26: WITHDRAW by its length and the place of its key, and the entry of the record's bundle after it. -/
theorem withdrawTakesOutAWaitingRecord : Obligations.WithdrawTakesOutAWaitingRecord := by
  intro num b s hr
  refine ⟨fun hb => ?_, fun hb hp => ?_, fun hb hp => ?_, fun r hb hp hback hrec => ?_⟩
  · exact answerMessage_reply (n := 0) hr _ _ (takeWithdraw .address num b) (by simp [takeWithdraw, hb, refuse])
  · exact answerMessage_reply (n := 0) hr _ _ (takeWithdraw .address num b)
      (by simp [takeWithdraw, hb, field_of_length hb, placeOf_silent, hp, refuse])
  · refine answerMessage_reply (n := 0) hr _ _ (takeWithdraw .address num b) ?_
    have hsome : (placeOf (ofBytes b) s).isSome = true := by
      rcases hp with hp | hp
      · simp [hp]
      · exact hp.1
    obtain ⟨p, hplace⟩ := Option.isSome_iff_exists.mp hsome
    have hback : backlogOutcome (ofBytes b) (silent .address s) = backlogOutcome (ofBytes b) s :=
      backlogOutcome_congr (by simp) _
    rw [takeWithdraw_of_place hb ((placeOf_silent .address _ s).trans hplace), if_pos]
    · rfl
    · rw [hback]
      rw [hplace] at hp
      exact hp.imp Option.some.inj And.right
  · obtain ⟨-, hkey⟩ := waitingRecord_mem hrec
    have hexec := exec_withdraw (num := num) hb hp hback hrec
    have hc := checked_withdrawal num r (silent .address s)
    have hstore : (accept .address num (withdrawn r (silent .address s))).store =
        (withdrawn r (silent .address s)).store := by simp
    have hbefore : (silent .address s).store = s.store := by simp
    have hqueue : txQueue .address (accept .address num (withdrawn r (silent .address s))) =
        txQueue .address (silent .address s) ++ [acceptFrame num []] :=
      txQueue_post_same (s := withdrawn r (silent .address s)) ((hr.silent .address).hasRoom (n := 0) .address)
    have hother (m : Nat) (hm : m ≠ r.bundle) :=
      (findBundle_withdrawal_other num hm (silent .address s)).trans (findBundle_silent .address m s)
    have hgone (hx : findBundle r.bundle s = none) : (withdrawal num r (silent .address s)).bundles = s.bundles :=
      (bundles_withdrawal_of_absent num ((findBundle_silent .address _ s).trans hx)).trans (by simp)
    have hfound (x : Bundle) (hx : findBundle r.bundle s = some x) :=
      findBundle_withdrawal num ((findBundle_silent .address _ s).trans hx)
    have hkeep : (withdrawal num r (silent .address s)).carrier = s.carrier ∧
        (withdrawal num r (silent .address s)).reg = s.reg ∧ (withdrawal num r (silent .address s)).disp = s.disp ∧
        (withdrawal num r (silent .address s)).track = s.track := by simp [withdrawal, withdrawn]
    rw [store_withdrawn] at hstore
    generalize withdrawal num r (silent .address s) = t at *
    obtain ⟨more, hmore⟩ := (hc.grows.trans (Grows.settle t)).exists_append .address
    simp only [leavePlace_waiting, hbefore] at hfound
    have hfield {α : Type} (f : Store → α) (h : f t.store = f (accept .address num (withdrawn r (silent .address s))).store) :
        f (settle t).store = f (withdrawnStore r s.store) := by
      rw [(settle_keeps t).2.2.2.2.2.1, h, hstore, hbefore]
    refine ⟨settle t, more, hexec, hkey ▸ hfield Store.queue hc.queue, hkey ▸ hfield Store.lane hc.lane, ?_,
      hfield Store.textUsed hc.text, hfield Store.backlog hc.backlog, ?_, ?_, ?_, fun x hx => ?_, ?_⟩
    · rw [placeOf_eq_none_iff, hfield Store.map hc.map, ← hkey]
      exact fun e he => of_decide_eq_true (List.mem_filter.mp he).2
    · rw [hmore, hqueue, txQueue_silent, List.append_assoc]
      rfl
    · exact fun m hm => (findBundle_congr (by simp) m).trans (hother m hm)
    · exact fun hx => Eq.trans (by simp) (hgone hx)
    · have hb : findBundle r.bundle (settle t) = findBundle r.bundle t := findBundle_congr (by simp) _
      simp only [hb, (settle_keeps t).2.2.2.2.2.1]
      exact hfound x hx
    · simpa using ⟨hkeep.2.2.2, hkeep.1, hkeep.2.1, hkeep.2.2.1⟩

end Sys2Proof.Machine


/-! The rules of a piece in the track, and the printer's reports PRINTED, ORDER WITHDRAWN and ORDER LATE (R97 to R99,
R102). -/

namespace Sys2Proof.Machine

/-! ## A piece changed -/

theorem updatePiece_of_some {p : Nat} {x : Piece} {s : State} (h : pieceAt p s = some x) (f : Piece → Piece) :
    updatePiece p f s = s.setTrack (s.track.set p (.piece (f x))) := by
  simp only [updatePiece, h, setEntryAt]

theorem updatePiece_of_none {p : Nat} {s : State} (h : pieceAt p s = none) (f : Piece → Piece) : updatePiece p f s = s := by
  simp only [updatePiece, h]

theorem entryAt_updatePiece_other {p q : Nat} (h : q ≠ p) (f : Piece → Piece) (s : State) :
    entryAt q (updatePiece p f s) = entryAt q s := by
  unfold updatePiece
  split
  · simp [entryAt, setEntryAt, List.getElem?_set_ne (Ne.symm h)]
  · rfl

theorem entryAt_raise (q : Nat) (f : FaultRecord) (s : State) : entryAt q (raise f s) = entryAt q s := by
  simp [entryAt]

theorem raiseMarking_of_some {p : Nat} {x : Piece} {s : State} (h : pieceAt p s = some x) (m : Action → Piece → Piece)
    (k : FaultKind) (src : Source) : raiseMarking m k src p s =
      updatePiece p (m (actionOf k s)) (raise (pieceFault k src p x s) s) := by
  simp only [raiseMarking, h]

theorem entryAt_raiseMarking_other {p q : Nat} (h : q ≠ p) (m : Action → Piece → Piece) (k : FaultKind) (src : Source)
    (s : State) : entryAt q (raiseMarking m k src p s) = entryAt q s := by
  unfold raiseMarking
  split
  · rfl
  · rw [entryAt_updatePiece_other h, entryAt_raise]

/-- Two states whose fault units agree have the same fault unit after the same fault. -/
theorem fault_raise_congr {s t : State} (h : t.fault = s.fault) (f : FaultRecord) : (raise f t).fault = (raise f s).fault := by
  have ha : actionOf f.kind t = actionOf f.kind s := by simp only [actionOf, h]
  by_cases hoff : actionOf f.kind s = .off
  · rw [raise_of_off hoff, raise_of_off (ha.trans hoff), h]
  · rw [fault_raise hoff, fault_raise (ha ▸ hoff), h, ha]
    simp only [steeringOf, h]
    rfl

theorem fault_raiseMarking {p : Nat} {x : Piece} {s : State} (h : pieceAt p s = some x) (m : Action → Piece → Piece)
    (k : FaultKind) (src : Source) :
    (raiseMarking m k src p s).fault = (raise (pieceFault k src p x s) s).fault := by
  rw [raiseMarking_of_some h, (updatePiece_keeps _ _ _).2.2.2.2.2.2.2.2.2.2.2.2.2.1]

theorem pieceAt_congr {s t : State} (h : t.track = s.track) (p : Nat) : pieceAt p t = pieceAt p s := by
  simp only [pieceAt, h]

theorem actionOf_congr {s t : State} (h : t.fault = s.fault) (k : FaultKind) : actionOf k t = actionOf k s := by
  simp only [actionOf, h]

/-! ## A report of the printer -/

theorem findOrder_silent (p : Port) (n : Nat) (s : State) : findOrder n (silent p s) = findOrder n s := by
  simp [findOrder]

theorem oldestUnprinted_silent (p : Port) (s : State) : oldestUnprinted (silent p s) = oldestUnprinted s := by
  simp [oldestUnprinted]

theorem carrierReport_of_hold {b : List Byte} {effect : State → State} {s : State} (hb : b.length = 3)
    (h : s.carrier.mode ≠ .run) : carrierReport .carrier 3 b (inCarrierRun effect) s = s := by
  simp [carrierReport, hb, inCarrierRun, h]

theorem carrierReport_of_run {b : List Byte} {effect : State → State} {s : State} (hb : b.length = 3)
    (h : s.carrier.mode = .run) : carrierReport .carrier 3 b (inCarrierRun effect) s = effect s := by
  simp [carrierReport, hb, inCarrierRun, h]

/-- A report that changes nothing. -/
theorem answerMessage_nothing {n : Nat} {p : Port} {effect : State → State} {s : State} (hr : Roomy n s)
    (he : effect (silent p s) = silent p s) : answerMessage p effect s = .next (silent p s) := by
  rw [answerMessage, beginMessage_eq_silent, he, settle_of_roomy (hr.silent p)]

/-- A report that changes the carrier unit and queues nothing. -/
theorem answerMessage_carrier {n : Nat} {p : Port} {effect : State → State} {s : State} {x : CarrierUnit}
    (hr : Roomy n s) (he : effect (silent p s) = (silent p s).setCarrier x) :
    answerMessage p effect s = .next (silent p (s.setCarrier x)) := by
  have hroom : Roomy n ((silent p s).setCarrier x) := (hr.silent p).of_link rfl
  rw [silent_setCarrier, answerMessage, beginMessage_eq_silent, he, settle_of_roomy hroom]

section
variable {n : Nat} {o : Order} {s : State}

theorem reportPrinted_of_unknown (h : findOrder n s = none) :
    reportPrinted n s = holdOnReport .carrierOverrun .overrun s := by
  simp [reportPrinted, h]

theorem reportPrinted_of_oldest (h : findOrder n s = some o) (hn : oldestUnprinted s = some n) : reportPrinted n s =
    if s.carrier.printedCount < (geometryItems s).depth then
      setPrintedCount (s.carrier.printedCount + 1) (setOrderState n (printedState o) s)
    else holdOnReport .carrierOverrun .overrun s := by
  simp [reportPrinted, h, hn]

theorem reportPrinted_of_later (h : findOrder n s = some o) (hn : oldestUnprinted s ≠ some n) :
    reportPrinted n s = holdOnReport .carrierSequence .sequence s := by
  simp [reportPrinted, h, hn]

theorem reportWithdrawn_of_some (h : findOrder n s = some o) : reportWithdrawn n s =
    if o.state = .withdrawing then removeOrder n s
    else if o.state = .waste then holdOnReport .carrierSequence .sequence s
    else strayReport .carrier s := by
  unfold reportWithdrawn
  rw [h]
  cases ho : o.state <;> simp [ho]

theorem reportLate_of_some (h : findOrder n s = some o) : reportLate n s =
    if o.state = .withdrawing then setOrderState n .wastePending s
    else if o.state = .waste then s
    else strayReport .carrier s := by
  unfold reportLate
  rw [h]
  cases ho : o.state <;> simp [ho]

theorem holdOnReport_silent (k : FaultKind) (c : HoldCause) (s : State) : holdOnReport k c (silent .carrier s) =
    enterHold c (raise (plainFault k (.port .carrier) s) (silent .carrier s)) := by
  rw [holdOnReport, plainFault_silent]

theorem geometryItems_silent (p : Port) (s : State) : geometryItems (silent p s) = geometryItems s := by
  simp [geometryItems]

end

theorem answerMessage_settled (p : Port) (effect : State → State) (s : State) :
    answerMessage p effect s = .next (settle (effect (silent p s))) := rfl

/-- Settles O32: PRINTED by the carrier unit's mode, its number, the oldest unprinted order and the buffer. -/
theorem printedReportMovesTheOldestUnprinted : Obligations.PrintedReportMovesTheOldestUnprinted := by
  intro num b o s hr hb
  have hrun (h : s.carrier.mode = .run) : takePrinted .carrier b (silent .carrier s) =
      reportPrinted (ofBytes b) (silent .carrier s) := by
    rw [takePrinted, field_of_length hb, carrierReport_of_run hb (by simpa using h)]
  refine ⟨fun h => ?_, fun h ho hold hroom => ?_, fun h => ⟨fun hcase => ?_, fun ho hold => ?_⟩⟩
  · exact answerMessage_nothing hr (effect := takePrinted .carrier b) (carrierReport_of_hold hb (by simpa using h))
  · refine answerMessage_carrier hr (effect := takePrinted .carrier b) ?_
    rw [hrun h, reportPrinted_of_oldest ((findOrder_silent _ _ _).trans ho) ((oldestUnprinted_silent _ _).trans hold),
      geometryItems_silent, if_pos (by simpa using hroom)]
    simp only [setPrintedCount, setOrderState, printedState, silent_keeps, State.setCarrier_carrier]
    rfl
  · show answerMessage .carrier (takePrinted .carrier b) s = _
    rw [answerMessage_settled, hrun h, ← holdOnReport_silent]
    rcases hcase with hnone | ⟨ho, hold, hfull⟩
    · rw [reportPrinted_of_unknown ((findOrder_silent _ _ _).trans hnone)]
    · rw [reportPrinted_of_oldest ((findOrder_silent _ _ _).trans ho) ((oldestUnprinted_silent _ _).trans hold),
        geometryItems_silent, if_neg (by simpa using hfull)]
  · show answerMessage .carrier (takePrinted .carrier b) s = _
    rw [answerMessage_settled, hrun h, ← holdOnReport_silent,
      reportPrinted_of_later ((findOrder_silent _ _ _).trans ho) (by rwa [oldestUnprinted_silent])]

/-- Settles O35: the answers to a WITHDRAW ORDER by the carrier unit's mode and the state of the order. -/
theorem withdrawalAnswersAreTakenByTheOrderState : Obligations.WithdrawalAnswersAreTakenByTheOrderState := by
  intro num b o s hr hb
  have hwithdrawn (h : s.carrier.mode = .run) : takeOrderWithdrawn .carrier b (silent .carrier s) =
      reportWithdrawn (ofBytes b) (silent .carrier s) := by
    rw [takeOrderWithdrawn, field_of_length hb, carrierReport_of_run hb (by simpa using h)]
  have hlate (h : s.carrier.mode = .run) : takeOrderLate .carrier b (silent .carrier s) =
      reportLate (ofBytes b) (silent .carrier s) := by
    rw [takeOrderLate, field_of_length hb, carrierReport_of_run hb (by simpa using h)]
  refine ⟨fun h => ⟨?_, ?_⟩, fun h hnone => ⟨?_, ?_⟩, fun h ho => ?_⟩
  · exact answerMessage_nothing hr (effect := takeOrderWithdrawn .carrier b)
      (carrierReport_of_hold hb (by simpa using h))
  · exact answerMessage_nothing hr (effect := takeOrderLate .carrier b) (carrierReport_of_hold hb (by simpa using h))
  · refine exec_stray (n := 0) hr (takeOrderWithdrawn .carrier b) rfl ?_
    simp [hwithdrawn h, reportWithdrawn, findOrder_silent, hnone]
  · refine exec_stray (n := 0) hr (takeOrderLate .carrier b) rfl ?_
    simp [hlate h, reportLate, findOrder_silent, hnone]
  · have hw := (hwithdrawn h).trans (reportWithdrawn_of_some ((findOrder_silent _ _ _).trans ho))
    have hl := (hlate h).trans (reportLate_of_some ((findOrder_silent _ _ _).trans ho))
    refine ⟨fun hstate => ⟨?_, ?_⟩, fun hstate => ⟨?_, ?_⟩, fun hstate => ⟨?_, ?_⟩⟩
    · refine answerMessage_carrier hr (effect := takeOrderWithdrawn .carrier b) (hw.trans ?_)
      rw [if_pos hstate, removeOrder, (silent_keeps _ _).2.2.2.2.2.2.2.2.2.1]
    · refine answerMessage_carrier hr (effect := takeOrderLate .carrier b) (hl.trans ?_)
      rw [if_pos hstate, setOrderState, (silent_keeps _ _).2.2.2.2.2.2.2.2.2.1]
    · show answerMessage .carrier (takeOrderWithdrawn .carrier b) s = _
      rw [answerMessage_settled, hw, if_neg (by simp [hstate]), if_pos hstate, holdOnReport_silent]
    · exact answerMessage_nothing hr (effect := takeOrderLate .carrier b)
        (hl.trans (by rw [if_neg (by simp [hstate]), if_pos hstate]))
    · refine exec_stray (n := 0) hr (takeOrderWithdrawn .carrier b) rfl (hw.trans ?_)
      rw [if_neg (by rcases hstate with h | h | h <;> simp [h]), if_neg (by rcases hstate with h | h | h <;> simp [h])]
    · refine exec_stray (n := 0) hr (takeOrderLate .carrier b) rfl (hl.trans ?_)
      rw [if_neg (by rcases hstate with h | h | h <;> simp [h]), if_neg (by rcases hstate with h | h | h <;> simp [h])]

end Sys2Proof.Machine


/-! SPOILED (R97, R100, R101). -/

namespace Sys2Proof.Machine

/-! ## The piece an order belongs to -/

theorem findOrderFrom_cons_of_owner {n p : Nat} {y : Piece} (es : List TrackEntry) (h : y.carrier = some n) :
    findOrderFrom n p (.piece y :: es) = some (p, y) := by
  simp [findOrderFrom, h]

theorem findOrderFrom_cons_of_other {n p : Nat} {e : TrackEntry} (es : List TrackEntry)
    (h : ∀ y, e = .piece y → y.carrier ≠ some n) : findOrderFrom n p (e :: es) = findOrderFrom n (p + 1) es := by
  cases e with
  | piece y => simp [findOrderFrom, h y rfl]
  | empty _ _ => rfl
  | locked _ _ => rfl
  | stray _ _ _ => rfl
  | gated _ _ => rfl

theorem le_of_findOrderFrom {n p q : Nat} {x : Piece} {es : List TrackEntry}
    (h : findOrderFrom n p es = some (q, x)) : p ≤ q := by
  induction es generalizing p with
  | nil => simp [findOrderFrom] at h
  | cons e es ih =>
    by_cases hown : ∃ y, e = .piece y ∧ y.carrier = some n
    · obtain ⟨y, rfl, hy⟩ := hown
      rw [findOrderFrom_cons_of_owner es hy] at h
      exact (congrArg Prod.fst (Option.some.inj h)).le
    · rw [findOrderFrom_cons_of_other es fun y he hy => hown ⟨y, he, hy⟩] at h
      exact Nat.le_of_succ_le (ih h)

/-- The owner of an order is the first piece whose carrier field names it. -/
theorem findOrderFrom_eq_some_iff {n p k : Nat} {x : Piece} {es : List TrackEntry} :
    findOrderFrom n p es = some (p + k, x) ↔ es[k]? = some (.piece x) ∧ x.carrier = some n ∧
      ∀ j < k, ∀ y, es[j]? = some (.piece y) → y.carrier ≠ some n := by
  induction es generalizing p k with
  | nil => simp [findOrderFrom]
  | cons e es ih =>
    by_cases hown : ∃ y, e = .piece y ∧ y.carrier = some n
    · obtain ⟨y, rfl, hy⟩ := hown
      rw [findOrderFrom_cons_of_owner es hy]
      cases k with
      | zero =>
        simp only [Nat.add_zero, List.getElem?_cons_zero, Option.some.injEq, Prod.mk.injEq, true_and,
          TrackEntry.piece.injEq]
        exact ⟨fun h => ⟨h, h ▸ hy, fun j hj => absurd hj (Nat.not_lt_zero j)⟩, And.left⟩
      | succ k =>
        exact ⟨fun h => by simp at h, fun ⟨_, _, h⟩ => absurd hy (h 0 (Nat.succ_pos k) y rfl)⟩
    · have hother : ∀ y, e = .piece y → y.carrier ≠ some n := fun y he hy => hown ⟨y, he, hy⟩
      rw [findOrderFrom_cons_of_other es hother]
      cases k with
      | zero =>
        exact ⟨fun h => absurd (le_of_findOrderFrom h) (by omega),
          fun ⟨h, hx, _⟩ => absurd hx (hother x (Option.some.inj h))⟩
      | succ k =>
        rw [show p + (k + 1) = p + 1 + k by omega, ih, List.getElem?_cons_succ]
        refine Iff.and Iff.rfl (Iff.and Iff.rfl ⟨fun h j hj y hy => ?_, fun h j hj y hy => ?_⟩)
        · cases j with
          | zero => exact hother y (Option.some.inj hy)
          | succ j => exact h j (by omega) y hy
        · exact h (j + 1) (by omega) y hy

theorem findOrderFrom_none {n p : Nat} {es : List TrackEntry} :
    findOrderFrom n p es = none ↔ ∀ x, .piece x ∈ es → x.carrier ≠ some n := by
  induction es generalizing p with
  | nil => simp [findOrderFrom]
  | cons e es ih =>
    cases e with
    | piece y =>
      by_cases hy : y.carrier = some n
      · simp [findOrderFrom, hy]
      · simp [findOrderFrom, hy, ih]
    | empty _ _ => simp [findOrderFrom, ih]
    | locked _ _ => simp [findOrderFrom, ih]
    | stray _ _ _ => simp [findOrderFrom, ih]
    | gated _ _ => simp [findOrderFrom, ih]

theorem pieceAt_eq_some_iff {p : Nat} {x : Piece} {s : State} : pieceAt p s = some x ↔ s.track[p]? = some (.piece x) := by
  unfold pieceAt
  split
  · next h => simp [h]
  · next h => simpa using h x

/-- The owner of an order is the first piece whose carrier field names it. -/
theorem orderOwner_eq_some_iff {n q : Nat} {x : Piece} {s : State} : orderOwner n s = some (q, x) ↔
    pieceAt q s = some x ∧ x.carrier = some n ∧ ∀ p < q, ∀ y, pieceAt p s = some y → y.carrier ≠ some n := by
  simp only [pieceAt_eq_some_iff]
  rw [← findOrderFrom_eq_some_iff (p := 0), Nat.zero_add, orderOwner]

theorem pieceAt_of_orderOwner {n q : Nat} {x : Piece} {s : State} (h : orderOwner n s = some (q, x)) :
    pieceAt q s = some x ∧ x.carrier = some n := by
  obtain ⟨hx, hc, -⟩ := orderOwner_eq_some_iff.mp h
  exact ⟨hx, hc⟩

theorem orderOwner_eq_none_iff {n : Nat} {s : State} :
    orderOwner n s = none ↔ ∀ q x, pieceAt q s = some x → x.carrier ≠ some n := by
  rw [orderOwner, findOrderFrom_none]
  constructor
  · intro h q x hx
    exact h x (List.mem_of_getElem? (pieceAt_eq_some_iff.mp hx))
  · intro h x hx
    obtain ⟨q, hq⟩ := List.getElem?_of_mem hx
    exact h q x (pieceAt_eq_some_iff.mpr hq)

theorem orderOwner_congr {s t : State} (h : t.track = s.track) (n : Nat) : orderOwner n t = orderOwner n s := by
  simp only [orderOwner, h]

/-! ## SPOILED by the state of the order -/

section
variable {n q : Nat} {o : Order} {x : Piece} {s : State}

theorem reportSpoiled_of_some (h : findOrder n s = some o) : reportSpoiled n s =
    if o.state = .issued then spoilIssued n s
    else if o.state = .withdrawing then removeOrder n s
    else strayReport .carrier s := by
  unfold reportSpoiled
  rw [h]
  cases ho : o.state <;> simp [ho]

theorem spoilIssued_of_owner (h : orderOwner n s = some (q, x)) :
    spoilIssued n s = if reprintDue n x s then reprint n q x s else voidCarrier n q s := by
  simp only [spoilIssued, h]

theorem reprintDue_iff : reprintDue n x s = true ↔
    s.carrier.queue.getLast?.map Order.number = some n ∧ x.reprints < 2 ∧ txHasRoom .carrier s = true := by
  simp only [reprintDue, Bool.and_eq_true, and_assoc]
  exact Iff.and decide_eq_true_iff (Iff.and decide_eq_true_iff Iff.rfl)

theorem txHasRoom_iff {p : Port} : txHasRoom p s = true ↔ (txQueue p s).length < 32 := decide_eq_true_iff

theorem Roomy.raiseMarking {n : Nat} {s : State} (h : Roomy (n + 2) s) (m : Action → Piece → Piece) (k : FaultKind)
    (src : Source) (p : Nat) : Roomy n (raiseMarking m k src p s) := by
  unfold Machine.raiseMarking
  split
  · exact h.mono (by omega)
  · next x _ => exact (h.raise (pieceFault k src p x s)).of_link (by simp)

theorem voidCarrier_rules (h : pieceAt q s = some x) :
    (voidCarrier n q s).carrier = { s.carrier with queue := s.carrier.queue.filter fun y => y.number ≠ n } ∧
    pieceAt q (voidCarrier n q s) =
      some (markPiece .carrierVoid (actionOf .carrierVoid s) { x with fate := .void, carrier := none }) ∧
    (voidCarrier n q s).fault = (raise (pieceFault .carrierVoid (.port .carrier) q x s) s).fault ∧
    (∀ p, p ≠ q → entryAt p (voidCarrier n q s) = entryAt p s) ∧
    (∀ m, Roomy (m + 2) s → Roomy m (voidCarrier n q s)) := by
  have hpiece : pieceAt q (updatePiece q (fun x => { x with carrier := none, fate := .void }) (removeOrder n s)) =
      some { x with carrier := none, fate := .void } := by
    rw [pieceAt_updatePiece, if_pos rfl, show pieceAt q (removeOrder n s) = some x from h]
    rfl
  have hfault : (updatePiece q (fun x => { x with carrier := none, fate := .void }) (removeOrder n s)).fault =
      s.fault := by simp
  have hreg : (updatePiece q (fun x => { x with carrier := none, fate := .void }) (removeOrder n s)).reg =
      s.reg := by simp
  have hother (p : Nat) (hp : p ≠ q) :
      entryAt p (updatePiece q (fun x => { x with carrier := none, fate := .void }) (removeOrder n s)) = entryAt p s :=
    entryAt_updatePiece_other hp _ _
  have hcarrier : (updatePiece q (fun x => { x with carrier := none, fate := .void }) (removeOrder n s)).carrier =
      (removeOrder n s).carrier := by simp
  have hlink : (updatePiece q (fun x => { x with carrier := none, fate := .void }) (removeOrder n s)).link =
      s.link := by simp
  unfold voidCarrier
  generalize updatePiece q (fun x => { x with carrier := none, fate := .void }) (removeOrder n s) = u at *
  refine ⟨by rw [(raiseOnPiece_keeps _ _ _ _).2.2.2.2.2.2.2.2.1, hcarrier]; rfl, ?_, ?_, fun p hp => ?_,
    fun m hm => ?_⟩
  · rw [raiseOnPiece, pieceAt_raiseMarking, if_pos rfl, hpiece, actionOf_congr hfault]
    rfl
  · rw [raiseOnPiece, fault_raiseMarking hpiece, fault_raise_congr hfault]
    simp only [pieceFault, hreg]
  · rw [raiseOnPiece, entryAt_raiseMarking_other hp, hother p hp]
  · exact Roomy.raiseMarking (hm.of_link hlink) _ _ _ _

/-- A reprint with room for its PRINT (R100). -/
theorem reprint_of_room (h : pieceAt q s = some x) (hr : txHasRoom .carrier s = true) :
    reprint n q x s = appended .carrier (printFrame s.carrier.nextOrder x.record)
      ((s.setCarrier { s.carrier with
        queue := s.carrier.queue.filter (fun y => y.number ≠ n) ++
          [{ number := s.carrier.nextOrder, tag := x.tag, state := .issued }]
        nextOrder := orderAfter s.carrier.nextOrder }).setTrack
          (s.track.set q (.piece { x with carrier := some s.carrier.nextOrder, reprints := x.reprints + 1 }))) := by
  rw [reprint_eq, updatePiece_of_some h]
  refine (post_of_room ?_).trans rfl
  exact hr

end

/-- Settles O34: SPOILED by the carrier unit's mode, the state of the order, and whether a reprint is due. -/
theorem spoiledTailOrderIsReprinted : Obligations.SpoiledTailOrderIsReprinted := by
  intro num b o q x s hb
  have hrun (h : s.carrier.mode = .run) : takeSpoiled .carrier b (silent .carrier s) =
      reportSpoiled (ofBytes b) (silent .carrier s) := by
    rw [takeSpoiled, field_of_length hb, carrierReport_of_run hb (by simpa using h)]
  have hsome (h : s.carrier.mode = .run) (ho : findOrder (ofBytes b) s = some o) :=
    (hrun h).trans (reportSpoiled_of_some ((findOrder_silent _ _ _).trans ho))
  refine ⟨fun hr => ⟨fun h => ?_, fun h hnone => ?_, fun h ho => ⟨fun hstate => ?_, fun hstate => ?_⟩⟩,
    fun h ho hstate hown => ?_⟩
  · exact answerMessage_nothing hr (effect := takeSpoiled .carrier b) (carrierReport_of_hold hb (by simpa using h))
  · refine exec_stray (n := 0) hr (takeSpoiled .carrier b) rfl ?_
    simp [hrun h, reportSpoiled, findOrder_silent, hnone]
  · refine answerMessage_carrier hr (effect := takeSpoiled .carrier b) ((hsome h ho).trans ?_)
    rw [if_neg (by simp [hstate]), if_pos hstate, removeOrder, (silent_keeps _ _).2.2.2.2.2.2.2.2.2.1]
  · refine exec_stray (n := 0) hr (takeSpoiled .carrier b) rfl ((hsome h ho).trans ?_)
    rw [if_neg (by rcases hstate with h | h | h <;> simp [h]), if_neg (by rcases hstate with h | h | h <;> simp [h])]
  · obtain ⟨hpiece, -⟩ := pieceAt_of_orderOwner hown
    have hpieceSilent : pieceAt q (silent .carrier s) = some x := (pieceAt_congr (by simp) q).trans hpiece
    have htake : takeSpoiled .carrier b (silent .carrier s) =
        if reprintDue (ofBytes b) x (silent .carrier s) then reprint (ofBytes b) q x (silent .carrier s)
        else voidCarrier (ofBytes b) q (silent .carrier s) := by
      rw [hsome h ho, if_pos hstate, spoilIssued_of_owner ((orderOwner_congr (by simp) _).trans hown)]
    have hcarrier : (silent .carrier s).carrier = s.carrier := by simp
    have htrack : (silent .carrier s).track = s.track := by simp
    refine ⟨fun hr hlast hreprints => ?_, fun hnot => ?_⟩
    · have hroom : txHasRoom .carrier (silent .carrier s) = true := (hr.silent .carrier).hasRoom (n := 0) .carrier
      show answerMessage .carrier (takeSpoiled .carrier b) s = _
      rw [answerMessage_settled, htake,
        if_pos (reprintDue_iff.mpr ⟨by rwa [hcarrier], hreprints, hroom⟩), reprint_of_room hpieceSilent hroom,
        hcarrier, htrack, silent_setTrack, silent_setCarrier]
      exact congrArg _ (settle_of_roomy (Roomy.appended (n := 0) ((hr.silent .carrier).of_link rfl) _ _))
    · have hdue : ¬reprintDue (ofBytes b) x (silent .carrier s) = true := by
        rw [reprintDue_iff, hcarrier, txHasRoom_iff, txQueue_silent]
        rintro ⟨hlast, hreprints, hroom⟩
        rcases hnot with hnot | hnot | hnot
        · exact hnot hlast
        · omega
        · omega
      rw [if_neg hdue] at htake
      obtain ⟨hc, hp, hf, he, hroom⟩ := voidCarrier_rules (n := ofBytes b) hpieceSilent
      have hfault : (silent .carrier s).fault = s.fault := by simp
      have hreg : (silent .carrier s).reg = s.reg := by simp
      have haction : actionOf .carrierVoid (silent .carrier s) = actionOf .carrierVoid s := actionOf_congr hfault _
      rw [haction] at hp
      have hpiece' : pieceAt q (settle (voidCarrier (ofBytes b) q (silent .carrier s))) = some (markPiece .carrierVoid
          (actionOf .carrierVoid s) { x with fate := .void, carrier := none }) := (pieceAt_congr (by simp) q).trans hp
      refine ⟨settle (voidCarrier (ofBytes b) q (silent .carrier s)), ?_, by simpa [hcarrier] using hc, hpiece',
        fun ha y hy => ?_, fun hr => ?_, fun p hp => ?_, by simp, by simp⟩
      · show answerMessage .carrier (takeSpoiled .carrier b) s = _
        rw [answerMessage_settled, htake]
      · obtain rfl := Option.some.inj (hpiece'.symm.trans hy)
        simp [markPiece_rejectDue, ha]
      · rw [settle_of_roomy (hroom 0 (hr.silent .carrier)), hf, fault_raise_congr hfault]
        simp only [pieceFault, hreg]
      · have hkeep : entryAt p (settle (voidCarrier (ofBytes b) q (silent .carrier s))) =
            entryAt p (voidCarrier (ofBytes b) q (silent .carrier s)) := by simp [entryAt]
        rw [hkeep, he p hp]
        simp [entryAt]

end Sys2Proof.Machine


/-! The dump and apply phase events, and the orders given up (R103 to R107). -/

namespace Sys2Proof.Machine

/-! ## Starving a piece -/

section
variable {p : Nat} {x : Piece} {s : State}

/-- What the starving of the piece at a position does (R105, R106). -/
theorem starvePiece_rules (h : pieceAt p s = some x) :
    pieceAt p (starvePiece p s) =
      some (markPiece .carrierStarve (actionOf .carrierStarve s) { x with fate := .starved }) ∧
    (starvePiece p s).fault = (raise (pieceFault .carrierStarve .none p x s) s).fault ∧
    (starvePiece p s).carrier = s.carrier ∧ (∀ q, q ≠ p → entryAt q (starvePiece p s) = entryAt q s) := by
  have hpiece : pieceAt p (updatePiece p (fun x => { x with fate := .starved }) s) =
      some { x with fate := .starved } := by
    rw [pieceAt_updatePiece, if_pos rfl, h]
    rfl
  have hfault : (updatePiece p (fun x => { x with fate := .starved }) s).fault = s.fault := by simp
  have hreg : (updatePiece p (fun x => { x with fate := .starved }) s).reg = s.reg := by simp
  refine ⟨?_, ?_, by simp, fun q hq => ?_⟩
  · rw [starvePiece, raiseOnPiece, pieceAt_raiseMarking, if_pos rfl, hpiece, actionOf_congr hfault]
    rfl
  · rw [starvePiece, raiseOnPiece, fault_raiseMarking hpiece, fault_raise_congr hfault]
    simp only [pieceFault, hreg]
  · rw [starvePiece, raiseOnPiece, entryAt_raiseMarking_other hq, entryAt_updatePiece_other hq]

theorem markPiece_carrier (k : FaultKind) (a : Action) (x : Piece) : (markPiece k a x).carrier = x.carrier := by
  cases a <;> rfl

theorem markPiece_fate (k : FaultKind) (a : Action) (x : Piece) : (markPiece k a x).fate = x.fate := by
  cases a <;> rfl

theorem liveOrder_of_piece (h : pieceAt p s = some x) : liveOrder p s = x.carrier.bind fun n => findOrder n s := by
  simp only [liveOrder, h, Option.bind_some]

theorem liveOrder_starvePiece (h : pieceAt p s = some x) : liveOrder p (starvePiece p s) = liveOrder p s := by
  obtain ⟨hpiece, -, hcarrier, -⟩ := starvePiece_rules h
  rw [liveOrder_of_piece hpiece, liveOrder_of_piece h, markPiece_carrier]
  simp only [findOrder, hcarrier]

theorem findOrder_of_liveOrder {o : Order} (h : liveOrder p s = some o) : findOrder o.number s = some o := by
  obtain ⟨n, -, ho⟩ := Option.bind_eq_some_iff.mp h
  rwa [(findOrder_mem ho).2]

/-! ## Orders given up -/

theorem giveUpOrder_of_issued (h : pieceAt p s = some x) (n : Nat) {o : Order} (ho : o.state = .issued) :
    giveUpOrder p n o s = post .carrier (withdrawOrderFrame n)
      ((s.setTrack (s.track.set p (.piece { x with carrier := none }))).setCarrier { s.carrier with
        queue := s.carrier.queue.map fun y => if y.number = n then { y with state := .withdrawing } else y }) := by
  simp only [giveUpOrder, ho, updatePiece_of_some h]
  rfl

theorem giveUpOrder_of_printed (h : pieceAt p s = some x) (n : Nat) {o : Order} (ho : o.state = .printed) :
    giveUpOrder p n o s =
      (s.setTrack (s.track.set p (.piece { x with carrier := none }))).setCarrier { s.carrier with
        queue := s.carrier.queue.map fun y => if y.number = n then { y with state := .waste } else y } := by
  simp only [giveUpOrder, ho, updatePiece_of_some h]
  rfl

end

/-! ## The apply phase event -/

section
variable {x : Piece} {s : State}

theorem headIsPrintedFor_iff : headIsPrintedFor x s = true ↔
    ∃ o, s.carrier.queue.head? = some o ∧ x.carrier = some o.number ∧ o.state = .printed := by
  unfold headIsPrintedFor
  split
  · next h => simp [h]
  · next o h => simp [h, and_comm]

theorem applyPhase_of_hold (h : s.carrier.mode ≠ .run) : applyPhase s = s := by
  unfold applyPhase
  dsimp only
  split
  · next hm _ => exact absurd hm h
  · rfl

theorem applyPhase_of_no_piece (h : pieceAt (geometryItems s).applicator s = none) : applyPhase s = s := by
  unfold applyPhase
  dsimp only
  split
  · next hx => simp [h] at hx
  · rfl

theorem applyPhase_of_piece (hm : s.carrier.mode = .run) (hx : pieceAt (geometryItems s).applicator s = some x) :
    applyPhase s = if x.fate = .awaiting then
      match headIsPrintedFor x s, x.carrier with
      | true, some n => applyCarrier (geometryItems s).applicator n s
      | _, _ => starveAtApply (geometryItems s).applicator s
      else s := by
  unfold applyPhase
  simp only [hm, hx] <;> rfl

theorem applyPhase_of_starved (hm : s.carrier.mode = .run) (hx : pieceAt (geometryItems s).applicator s = some x)
    (hf : x.fate = .awaiting)
    (hnot : ∀ y, s.carrier.queue.head? = some y → x.carrier ≠ some y.number ∨ y.state ≠ .printed) :
    applyPhase s = starveAtApply (geometryItems s).applicator s := by
  have hhead : headIsPrintedFor x s = false := by
    rw [Bool.eq_false_iff, ne_eq, headIsPrintedFor_iff]
    rintro ⟨o, ho, hc, hp⟩
    exact (hnot o ho).elim (fun h => h hc) fun h => h hp
  rw [applyPhase_of_piece hm hx, if_pos hf, hhead]

theorem applyPhase_of_printed {o : Order} {rest : List Order} (hm : s.carrier.mode = .run)
    (hx : pieceAt (geometryItems s).applicator s = some x) (hf : x.fate = .awaiting)
    (hq : s.carrier.queue = o :: rest) (hc : x.carrier = some o.number) (ho : o.state = .printed) :
    applyPhase s = applyCarrier (geometryItems s).applicator o.number s := by
  have hhead : headIsPrintedFor x s = true := headIsPrintedFor_iff.mpr ⟨o, by simp [hq], hc, ho⟩
  rw [applyPhase_of_piece hm hx, if_pos hf, hhead, hc]

theorem starveAtApply_eq {p : Nat} (hx : pieceAt p s = some x) : starveAtApply p s =
    match liveOrder p s with
    | none => starvePiece p s
    | some o => if o.state = .issued then giveUpOrder p o.number o (starvePiece p s) else starvePiece p s := by
  simp only [starveAtApply, liveOrder_starvePiece hx] <;> rfl

/-- A piece starved at the applicator stays there, starved, and nothing beside its order changes (R105). -/
theorem starveAtApply_rules {p : Nat} (hx : pieceAt p s = some x) :
    (∃ y, pieceAt p (starveAtApply p s) = some y ∧ y.fate = .starved ∧
      (actionOf .carrierStarve s = .reject ∨ actionOf .carrierStarve s = .stop → y.rejectDue = true)) ∧
    (starveAtApply p s).carrier.printedCount = s.carrier.printedCount ∧
    (∀ q, q ≠ p → entryAt q (starveAtApply p s) = entryAt q s) := by
  obtain ⟨hpiece, -, hcarrier, hother⟩ := starvePiece_rules hx
  have hmark (ha : actionOf .carrierStarve s = .reject ∨ actionOf .carrierStarve s = .stop) :
      (markPiece .carrierStarve (actionOf .carrierStarve s) { x with fate := .starved }).rejectDue = true := by
    simp [markPiece_rejectDue, ha]
  have hstarved : (∃ y, pieceAt p (starvePiece p s) = some y ∧ y.fate = .starved ∧
      (actionOf .carrierStarve s = .reject ∨ actionOf .carrierStarve s = .stop → y.rejectDue = true)) ∧
      (starvePiece p s).carrier.printedCount = s.carrier.printedCount ∧
      (∀ q, q ≠ p → entryAt q (starvePiece p s) = entryAt q s) :=
    ⟨⟨_, hpiece, markPiece_fate _ _ _, hmark⟩, by rw [hcarrier], hother⟩
  rw [starveAtApply_eq hx]
  cases liveOrder p s with
  | none => exact hstarved
  | some o =>
    by_cases ho : o.state = .issued
    · simp only [ho, if_true, giveUpOrder_of_issued hpiece _ ho]
      generalize starvePiece p s = u at *
      refine ⟨⟨{ markPiece .carrierStarve (actionOf .carrierStarve s) { x with fate := .starved } with
        carrier := none }, ?_, markPiece_fate _ _ _, hmark⟩, by simp [hcarrier], fun q hq => ?_⟩
      · have hlt : p < u.track.length := (List.getElem?_eq_some_iff.mp (pieceAt_eq_some_iff.mp hpiece)).1
        rw [pieceAt_eq_some_iff]
        simp [hlt]
      · rw [← hother q hq]
        simp [entryAt, List.getElem?_set_ne (Ne.symm hq)]
    · simpa only [ho, if_false] using hstarved

end

/-! ## The dump phase event -/

theorem dumpPhase_of_hold {s : State} (h : s.carrier.mode ≠ .run) : dumpPhase s = s := by
  unfold dumpPhase
  split
  · next hm _ => exact absurd hm h
  · rfl

theorem dumpPhase_of_run {s : State} (h : s.carrier.mode = .run) : dumpPhase s =
    match s.carrier.queue.head? with
    | none => s
    | some o => if o.state = .waste then
        takeHead (s.setLines { s.lines with dump := some (s.reg.phase + (geometryItems s).dumpWidth) }) else s := by
  unfold dumpPhase
  cases hq : s.carrier.queue.head? <;> simp only [h]

/-- Settles O36: the dump and apply phase events by the mode, the head of the queue and the piece at the applicator. -/
theorem dumpAndApplyActOnTheHead : Obligations.DumpAndApplyActOnTheHead := by
  intro o rest x s
  refine ⟨fun h => ⟨dumpPhase_of_hold h, applyPhase_of_hold h⟩, fun hm => ⟨fun hq => ?_, fun hq ho => ?_, fun hq ho => ?_,
    applyPhase_of_no_piece, fun hx => ⟨fun hf => ?_, fun hf hq hc ho => ?_, fun hf hnot => ?_⟩⟩⟩
  · simp [dumpPhase_of_run hm, hq]
  · simp only [dumpPhase_of_run hm, hq, List.head?_cons, ho, if_true, takeHead, State.setLines_carrier, List.tail_cons]
  · simp [dumpPhase_of_run hm, hq, ho]
  · rw [applyPhase_of_piece hm hx, if_neg hf]
  · rw [applyPhase_of_printed hm hx hf hq hc ho, applyCarrier]
    refine (updatePiece_of_some (x := x) ?_ _).trans ?_
    · exact hx
    simp only [takeHead, hq, State.setLines_carrier, List.tail_cons]
    rfl
  · obtain ⟨⟨y, hy, hfate, hdue⟩, hcount, hother⟩ := starveAtApply_rules hx
    rw [applyPhase_of_starved hm hx hf hnot]
    exact ⟨y, hy, hfate, hdue, by simp, hcount, hother⟩

/-- Settles O37: the order given up by its state, at the apply phase event and at the boundary after it. -/
theorem givenUpOrderIsWithdrawnOrWasted : Obligations.GivenUpOrderIsWithdrawnOrWasted := by
  intro p o x s hx
  refine ⟨fun _ _ => ⟨fun ho => giveUpOrder_of_issued hx _ ho, fun ho => giveUpOrder_of_printed hx _ ho⟩,
    fun u => ⟨post_of_room, post_of_full⟩, fun hp hm hf hnot => ?_, fun hnone => ?_, fun hp => ?_,
    starvePiece_rules hx⟩
  · subst hp
    refine (applyPhase_of_starved hm hx hf hnot).trans ((starveAtApply_eq hx).trans ?_)
    cases liveOrder (geometryItems s).applicator s <;> rfl
  · simp [settleCarrier, hnone]
  · subst hp
    unfold settleCarrier
    simp only [hx]
    cases hl : liveOrder ((geometryItems s).applicator + 1) s with
    | none => by_cases hf : x.fate = .awaiting <;> simp only [hf, if_true, if_false, liveOrder_starvePiece hx, hl]
    | some y => by_cases hf : x.fate = .awaiting <;> simp only [hf, if_true, if_false, liveOrder_starvePiece hx, hl]

end Sys2Proof.Machine


/-! The entry into HOLD and its end (R108 to R110, R116). -/

namespace Sys2Proof.Machine

/-! ## An order discarded -/

/-- A piece before and after its claims on orders were discarded (R108 step 2). -/
structure PieceHeld (x y : Piece) : Prop where
  tag : y.tag = x.tag
  record : y.record = x.record
  plan : y.plan = x.plan
  verify : y.verify = x.verify
  wrap : y.wrap = x.wrap
  fate : y.fate = x.fate ∨ (x.fate = .awaiting ∧ y.fate = .void)
  unclaimed : x.carrier = none → y = x

theorem PieceHeld.refl (x : Piece) : PieceHeld x x := ⟨rfl, rfl, rfl, rfl, rfl, .inl rfl, fun _ => rfl⟩

theorem PieceHeld.trans {x y z : Piece} (h : PieceHeld x y) (h' : PieceHeld y z) : PieceHeld x z where
  tag := h'.tag.trans h.tag
  record := h'.record.trans h.record
  plan := h'.plan.trans h.plan
  verify := h'.verify.trans h.verify
  wrap := h'.wrap.trans h.wrap
  fate := by
    rcases h'.fate with hz | ⟨hy, hz⟩
    · exact h.fate.imp hz.trans fun hx => ⟨hx.1, hz.trans hx.2⟩
    · rcases h.fate with hx | ⟨-, hx⟩
      · exact .inr ⟨hx ▸ hy, hz⟩
      · simp [hx] at hy
  unclaimed := fun hx => by
    obtain rfl := h.unclaimed hx
    exact h'.unclaimed hx

/-- A piece whose order is gone: an awaiting one is void, and to be rejected where the action says so (R108 step 2). -/
def Unclaimed (s : State) (x y : Piece) : Prop :=
  y.carrier = none ∧ (x.fate = .awaiting → y.fate = .void) ∧
    (x.fate = .awaiting → actionOf .carrierVoid s = .reject ∨ actionOf .carrierVoid s = .stop → y.rejectDue = true)

/-- What discarding orders does to the track and the fault unit's table. -/
structure Discarded (s t : State) : Prop where
  none : ∀ q, pieceAt q s = none → entryAt q t = entryAt q s
  some : ∀ q x, pieceAt q s = some x → ∃ y, pieceAt q t = some y ∧ PieceHeld x y
  actions : actionOf .carrierVoid t = actionOf .carrierVoid s
  subs : t.fault.subs = s.fault.subs

theorem pieceAt_of_entryAt {p : Nat} {s t : State} (h : entryAt p t = entryAt p s) : pieceAt p t = pieceAt p s := by
  have h' : t.track[p]? = s.track[p]? := h
  simp only [pieceAt, h']

theorem Discarded.refl (s : State) : Discarded s s :=
  ⟨fun _ _ => rfl, fun _ x h => ⟨x, h, .refl x⟩, rfl, rfl⟩

theorem Discarded.trans {s t u : State} (h : Discarded s t) (h' : Discarded t u) : Discarded s u where
  none q hq := (h'.none q ((pieceAt_of_entryAt (h.none q hq)).trans hq)).trans (h.none q hq)
  some q x hx := by
    obtain ⟨y, hy, hxy⟩ := h.some q x hx
    obtain ⟨z, hz, hyz⟩ := h'.some q y hy
    exact ⟨z, hz, hxy.trans hyz⟩
  actions := h'.actions.trans h.actions
  subs := h'.subs.trans h.subs

section
variable {n q : Nat} {x : Piece} {s : State}

theorem discardOrder_of_awaiting (h : orderOwner n s = some (q, x)) (hf : x.fate = .awaiting) : discardOrder n s =
    raiseOnPiece .carrierVoid .none q (updatePiece q (fun x => { x with carrier := none, fate := .void }) s) := by
  simp only [discardOrder, h, hf, if_true]

theorem discardOrder_of_settled (h : orderOwner n s = some (q, x)) (hf : x.fate ≠ .awaiting) :
    discardOrder n s = updatePiece q (fun x => { x with carrier := none }) s := by
  simp only [discardOrder, h, hf, if_false]

theorem subs_raise (f : FaultRecord) (s : State) : (raise f s).fault.subs = s.fault.subs := by
  by_cases h : actionOf f.kind s = .off
  · rw [raise_of_off h]
  · rw [fault_raise h]

theorem fault_raiseMarking_table (m : Action → Piece → Piece) (k l : FaultKind) (src : Source) (p : Nat) (s : State) :
    actionOf l (raiseMarking m k src p s) = actionOf l s ∧
      (raiseMarking m k src p s).fault.subs = s.fault.subs := by
  cases hx : pieceAt p s with
  | none => simp [raiseMarking, hx]
  | some x =>
    have hf := fault_raiseMarking hx m k src
    exact ⟨(actionOf_congr hf l).trans (actionOf_raise l _ s), by rw [hf, subs_raise]⟩

/-- One order discarded: its owner's piece, every other entry, and the fault unit's table (R108 step 2). -/
theorem discardOrder_rules (h : orderOwner n s = some (q, x)) :
    (∃ y, pieceAt q (discardOrder n s) = some y ∧ Unclaimed s x y ∧ PieceHeld x y) ∧
    (∀ p, p ≠ q → entryAt p (discardOrder n s) = entryAt p s) ∧
    actionOf .carrierVoid (discardOrder n s) = actionOf .carrierVoid s ∧
    (discardOrder n s).fault.subs = s.fault.subs := by
  obtain ⟨hx, hc⟩ := pieceAt_of_orderOwner h
  by_cases hf : x.fate = .awaiting
  · have hpiece : pieceAt q (updatePiece q (fun x => { x with carrier := none, fate := .void }) s) =
        some { x with carrier := none, fate := .void } := by
      rw [pieceAt_updatePiece, if_pos rfl, hx]
      rfl
    have hfault : (updatePiece q (fun x => { x with carrier := none, fate := .void }) s).fault = s.fault := by simp
    have hother (p : Nat) (hp : p ≠ q) := entryAt_updatePiece_other hp
      (fun x => { x with carrier := none, fate := .void }) s
    rw [discardOrder_of_awaiting h hf]
    generalize updatePiece q (fun x => { x with carrier := none, fate := .void }) s = u at *
    have hact : actionOf .carrierVoid u = actionOf .carrierVoid s := actionOf_congr hfault _
    obtain ⟨hactions, hsubs⟩ := fault_raiseMarking_table (markPiece .carrierVoid) .carrierVoid .carrierVoid .none q u
    refine ⟨⟨markPiece .carrierVoid (actionOf .carrierVoid s) { x with carrier := none, fate := .void }, ?_, ?_, ?_⟩,
      fun p hp => (entryAt_raiseMarking_other hp _ _ _ _).trans (hother p hp), hactions.trans hact,
      by rw [raiseOnPiece, hsubs, hfault]⟩
    · rw [raiseOnPiece, pieceAt_raiseMarking, if_pos rfl, hpiece, hact]
      rfl
    · refine ⟨markPiece_carrier _ _ _, fun _ => markPiece_fate _ _ _, fun _ ha => ?_⟩
      simp [markPiece_rejectDue, ha]
    · cases actionOf .carrierVoid s <;>
        exact ⟨rfl, rfl, rfl, rfl, rfl, .inr ⟨hf, rfl⟩, fun hn => absurd (hn.symm.trans hc) (by simp)⟩
  · rw [discardOrder_of_settled h hf]
    refine ⟨⟨{ x with carrier := none }, ?_, ⟨rfl, fun ha => absurd ha hf, fun ha => absurd ha hf⟩,
      ⟨rfl, rfl, rfl, rfl, rfl, .inl rfl, fun hn => absurd (hn.symm.trans hc) (by simp)⟩⟩,
      fun p hp => entryAt_updatePiece_other hp _ _, actionOf_congr (by simp) _, by simp⟩
    rw [pieceAt_updatePiece, if_pos rfl, hx]
    rfl

theorem discardOrder_of_none (h : orderOwner n s = none) : discardOrder n s = s := by
  simp only [discardOrder, h]

theorem discarded_discardOrder (n : Nat) (s : State) : Discarded s (discardOrder n s) := by
  cases h : orderOwner n s with
  | none => rw [discardOrder_of_none h]; exact .refl s
  | some e =>
    obtain ⟨q, x⟩ := e
    obtain ⟨⟨y, hy, -, hxy⟩, hother, hactions, hsubs⟩ := discardOrder_rules h
    obtain ⟨hx, -⟩ := pieceAt_of_orderOwner h
    refine ⟨fun p hp => hother p fun e => ?_, fun p z hz => ?_, hactions, hsubs⟩
    · subst e
      simp [hx] at hp
    · by_cases hp : p = q
      · subst hp
        obtain rfl := Option.some.inj (hx.symm.trans hz)
        exact ⟨y, hy, hxy⟩
      · exact ⟨z, (pieceAt_of_entryAt (hother p hp)).trans hz, .refl z⟩

/-- Discarding an order leaves the owner of any other. -/
theorem orderOwner_discardOrder_other {m : Nat} (hm : m ≠ n) (h : orderOwner m s = some (q, x)) :
    orderOwner m (discardOrder n s) = some (q, x) := by
  obtain ⟨hx, hc, hfirst⟩ := orderOwner_eq_some_iff.mp h
  cases hn : orderOwner n s with
  | none => rwa [discardOrder_of_none hn]
  | some e =>
    obtain ⟨p, z⟩ := e
    obtain ⟨⟨y, hy, ⟨hgone, -⟩, -⟩, hother, -⟩ := discardOrder_rules hn
    obtain ⟨hz, hzc⟩ := pieceAt_of_orderOwner hn
    have hpq : q ≠ p := fun e => by
      subst e
      obtain rfl := Option.some.inj (hx.symm.trans hz)
      exact hm (Option.some.inj (hc.symm.trans hzc))
    refine orderOwner_eq_some_iff.mpr ⟨(pieceAt_of_entryAt (hother q hpq)).trans hx, hc, fun r hr w hw => ?_⟩
    by_cases hrp : r = p
    · subst hrp
      obtain rfl := Option.some.inj (hy.symm.trans hw)
      simp [hgone]
    · exact hfirst r hr w ((pieceAt_of_entryAt (hother r hrp)).symm.trans hw)

end

/-! ## All orders discarded -/

/-- The orders of a list discarded, one after another (R108 step 2). -/
def discardOrders (os : List Order) (s : State) : State := os.foldl (fun s o => discardOrder o.number s) s

theorem discarded_discardOrders (os : List Order) (s : State) : Discarded s (discardOrders os s) := by
  induction os generalizing s with
  | nil => exact .refl s
  | cons o os ih => exact (discarded_discardOrder o.number s).trans (ih _)

theorem unclaimed_discardOrders {os : List Order} {o : Order} (ho : o ∈ os) {q : Nat} {x : Piece} {s : State}
    (h : orderOwner o.number s = some (q, x)) :
    ∃ y, pieceAt q (discardOrders os s) = some y ∧ Unclaimed s x y := by
  induction os generalizing s with
  | nil => simp at ho
  | cons a os ih =>
    by_cases ha : o.number = a.number
    · obtain ⟨⟨y, hy, hun, -⟩, -⟩ := discardOrder_rules (ha ▸ h)
      obtain ⟨z, hz, hyz⟩ := (discarded_discardOrders os (discardOrder a.number s)).some q y hy
      obtain rfl := hyz.unclaimed hun.1
      exact ⟨z, hz, hun⟩
    · have hmem : o ∈ os := (List.mem_cons.mp ho).resolve_left fun e => ha (congrArg Order.number e)
      obtain ⟨y, hy, hc, hfate, hdue⟩ := ih hmem (orderOwner_discardOrder_other ha h)
      rw [(discarded_discardOrder a.number s).actions] at hdue
      exact ⟨y, hy, hc, hfate, hdue⟩

/-- Whether a fault of a kind may queue a message is read from the fault unit alone. -/
theorem Quieted.congr {k : FaultKind} {s t : State} (h : t.fault = s.fault) (hq : Quieted k s) : Quieted k t := by
  unfold Quieted at *
  rw [actionOf_congr h, h]
  exact hq

theorem link_raiseMarking_of_quieted {m : Action → Piece → Piece} {k : FaultKind} {src : Source} {p : Nat} {s : State}
    (h : Quieted k s) : (raiseMarking m k src p s).link = s.link := by
  unfold raiseMarking
  split
  · rfl
  · next x _ => exact (updatePiece_keeps _ _ _).2.2.2.2.2.2.2.2.2.2.2.2.2.2.1.trans (link_raise_of_quieted h)

theorem quieted_raiseMarking {m : Action → Piece → Piece} {k : FaultKind} {src : Source} {p : Nat} {x : Piece}
    {s : State} (h : pieceAt p s = some x) : Quieted k (raiseMarking m k src p s) :=
  (quieted_raise (pieceFault k src p x s) s).congr (fault_raiseMarking h m k src)

/-- An order discarded with a fault, or without one. -/
theorem discardOrder_cases (n : Nat) (s : State) :
    ((discardOrder n s).link = s.link ∧ (discardOrder n s).fault = s.fault) ∨
    ∃ q x u, pieceAt q u = some x ∧ u.link = s.link ∧ u.fault = s.fault ∧
      discardOrder n s = raiseOnPiece .carrierVoid .none q u := by
  cases h : orderOwner n s with
  | none => rw [discardOrder_of_none h]; exact .inl ⟨rfl, rfl⟩
  | some e =>
    obtain ⟨q, x⟩ := e
    obtain ⟨hx, -⟩ := pieceAt_of_orderOwner h
    by_cases hf : x.fate = .awaiting
    · exact .inr ⟨q, { x with carrier := none, fate := .void },
        updatePiece q (fun x => { x with carrier := none, fate := .void }) s,
        by rw [pieceAt_updatePiece, if_pos rfl, hx]; rfl, by simp, by simp, discardOrder_of_awaiting h hf⟩
    · rw [discardOrder_of_settled h hf]
      exact .inl ⟨by simp, by simp⟩

theorem link_discardOrder_of_quieted {s : State} (h : Quieted .carrierVoid s) (n : Nat) :
    (discardOrder n s).link = s.link ∧ Quieted .carrierVoid (discardOrder n s) := by
  rcases discardOrder_cases n s with ⟨hl, hf⟩ | ⟨q, x, u, hx, hl, hf, heq⟩
  · exact ⟨hl, h.congr hf⟩
  · rw [heq]
    exact ⟨(link_raiseMarking_of_quieted (h.congr hf)).trans hl, quieted_raiseMarking hx⟩

theorem Roomy.discardOrder {m : Nat} {s : State} (h : Roomy (m + 2) s) (n : Nat) :
    Roomy (m + 2) (discardOrder n s) ∨ (Quieted .carrierVoid (discardOrder n s) ∧ Roomy m (discardOrder n s)) := by
  rcases discardOrder_cases n s with ⟨hl, -⟩ | ⟨q, x, u, hx, hl, -, heq⟩
  · exact .inl (h.of_link hl)
  · rw [heq]
    exact .inr ⟨quieted_raiseMarking hx, (h.of_link hl).raiseMarking _ _ _ _⟩

/-- Nothing is queued but for the first CARRIER_VOID. -/
theorem Roomy.discardOrders {m : Nat} {os : List Order} {s : State}
    (h : Roomy (m + 2) s ∨ (Quieted .carrierVoid s ∧ Roomy m s)) : Roomy m (discardOrders os s) := by
  induction os generalizing s with
  | nil => exact h.elim (fun h => h.mono (by omega)) And.right
  | cons o os ih =>
    refine ih ?_
    rcases h with h | ⟨hq, h⟩
    · exact h.discardOrder o.number
    · obtain ⟨hl, hq'⟩ := link_discardOrder_of_quieted hq o.number
      exact .inr ⟨hq', h.of_link hl⟩

/-! ## The notices of the carrier port -/

/-- Behind the head of the carrier port's queue no notice of carrier work stands (R108 step 4). -/
def WorkDropped (s : State) : Prop := ∀ f ∈ (txQueue .carrier s).tail, isCarrierWork f = false

theorem workDropped_post {f : Frame} (hf : isCarrierWork f = false) (p : Port) {s : State} (h : WorkDropped s) :
    WorkDropped (post p f s) := by
  by_cases hp : p = .carrier
  · subst hp
    by_cases hroom : txHasRoom .carrier s = true
    · rw [WorkDropped, txQueue_post_same hroom]
      cases hq : txQueue .carrier s with
      | nil => simp
      | cons g gs =>
        rw [WorkDropped, hq] at h
        intro e he
        simp only [List.cons_append, List.tail_cons, List.mem_append, List.mem_singleton] at he
        rcases he with he | rfl
        · exact h e he
        · exact hf
    · rw [post_of_full (by simpa using hroom)]
      exact h
  · rw [WorkDropped, txQueue_post_other f s (Ne.symm hp)]
    exact h

theorem workDropped_postTo {f : Frame} (hf : isCarrierWork f = false) (ps : List Port) {s : State} (h : WorkDropped s) :
    WorkDropped (postTo ps f s) := by
  unfold postTo
  induction ps generalizing s with
  | nil => exact h
  | cons p ps ih => exact ih (workDropped_post hf p h)

theorem isCarrierWork_stateFrame (c : StateChange) : isCarrierWork (stateFrame c) = false := by
  cases c <;> rfl

/-- What step 4 of R108 leaves of the carrier port's queue. -/
def keptWork : List Frame → List Frame
  | [] => []
  | f :: rest => f :: rest.filter fun f => !isCarrierWork f

theorem txQueue_dropCarrierWork (p : Port) (s : State) :
    txQueue p (dropCarrierWork s) = if p = .carrier then keptWork (txQueue .carrier s) else txQueue p s := by
  unfold dropCarrierWork
  split
  · next h =>
    by_cases hp : p = .carrier
    · subst hp; simp [h, keptWork]
    · simp [hp]
  · next f rest h =>
    by_cases hp : p = .carrier
    · subst hp; rw [if_pos rfl, h]; simp [keptWork, txQueue]
    · simp [hp, txQueue, portState_setPortState_other _ _ hp]

theorem length_keptWork (fs : List Frame) : (keptWork fs).length ≤ fs.length := by
  cases fs with
  | nil => exact le_rfl
  | cons f rest => exact Nat.succ_le_succ (List.length_filter_le _ _)

theorem dropped_dropCarrierWork (s : State) : (dropCarrierWork s).link.dropped = s.link.dropped := by
  unfold dropCarrierWork
  split <;> simp

theorem Roomy.dropCarrierWork {m : Nat} {s : State} (h : Roomy m s) : Roomy m (dropCarrierWork s) := by
  refine ⟨(dropped_dropCarrierWork s).trans h.1, fun p => ?_⟩
  rw [txQueue_dropCarrierWork]
  split
  · exact Nat.le_trans (Nat.add_le_add_right (length_keptWork _) m) (h.2 .carrier)
  · exact h.2 p

theorem workDropped_dropCarrierWork (s : State) : WorkDropped (dropCarrierWork s) := by
  rw [WorkDropped, txQueue_dropCarrierWork, if_pos rfl]
  cases txQueue .carrier s with
  | nil => simp [keptWork]
  | cons f rest => simp [keptWork]

/-! ## The entry into HOLD -/

/-- The carrier unit in HOLD with both its lines down, its orders not yet discarded (R108 step 1). -/
def holding (c : HoldCause) (s : State) : State :=
  (s.setCarrier { s.carrier with mode := .hold c }).setLines { s.lines with apply := none, dump := none }

/-- The carrier unit emptied at the entry into HOLD, before its notices (R108 steps 1 to 4). -/
def heldUp (c : HoldCause) (s : State) : State :=
  dropCarrierWork ((discardOrders s.carrier.queue (holding c s)).setCarrier
    { (discardOrders s.carrier.queue (holding c s)).carrier with queue := [], printedCount := 0 })

theorem enterHold_of_hold {c : HoldCause} {s : State} (h : s.carrier.mode ≠ .run) : enterHold c s = s := if_neg h

theorem enterHold_of_run {c : HoldCause} {s : State} (h : s.carrier.mode = .run) :
    enterHold c s = postState (.carrier (.hold c)) (post .carrier (carrierHoldFrame c) (heldUp c s)) := if_pos h

section
variable {c : HoldCause} {s : State}

theorem heldUp_rules (c : HoldCause) (s : State) :
    (heldUp c s).carrier = { s.carrier with mode := .hold c, queue := [], printedCount := 0 } ∧
    (heldUp c s).lines = { s.lines with apply := none, dump := none } ∧
    (heldUp c s).track = (discardOrders s.carrier.queue (holding c s)).track ∧
    (heldUp c s).fault.subs = s.fault.subs := by
  refine ⟨?_, ?_, ?_, ?_⟩
  · simp [heldUp, discardOrders, holding]
  · simp [heldUp, discardOrders, holding]
  · simp [heldUp]
  · simpa [heldUp, holding] using (discarded_discardOrders s.carrier.queue (holding c s)).subs

theorem Roomy.heldUp {m : Nat} (h : Roomy (m + 2) s) : Roomy m (heldUp c s) := by
  have hd : Roomy m (Machine.discardOrders s.carrier.queue (holding c s)) := Roomy.discardOrders (.inl (h.of_link rfl))
  refine Roomy.dropCarrierWork ?_
  exact hd.of_link rfl

theorem enterHold_track (h : s.carrier.mode = .run) :
    (enterHold c s).track = (discardOrders s.carrier.queue (holding c s)).track := by
  rw [enterHold_of_run h, ← (heldUp_rules c s).2.2.1]
  simp

/-- The messages of the entry into HOLD, where there is room for them (R108 steps 5 and 6). -/
theorem enterHold_messages {m : Nat} (h : s.carrier.mode = .run) (hr : Roomy (m + 4) s) :
    Roomy m (enterHold c s) ∧ ∀ p, txQueue p (enterHold c s) = txQueue p (heldUp c s) ++
      (if p = .carrier then [carrierHoldFrame c] else []) ++
      (if (subscription p s).state = true then [stateFrame (.carrier (.hold c))] else []) := by
  have hu : Roomy (m + 2) (heldUp c s) := Roomy.heldUp (m := m + 2) hr
  have hp : Roomy (m + 1) (post .carrier (carrierHoldFrame c) (heldUp c s)) := Roomy.post (n := m + 1) hu _ _
  rw [enterHold_of_run h]
  refine ⟨by rw [postState_of_roomy hp]; exact hp.announced _, fun p => ?_⟩
  have hsub : subscription p (post .carrier (carrierHoldFrame c) (heldUp c s)) = subscription p s := by
    simp [subscription, (heldUp_rules c s).2.2.2]
  rw [txQueue_postState hp, txQueue_post (n := m + 1) hu, hsub]

theorem workDropped_enterHold (h : s.carrier.mode = .run) : WorkDropped (enterHold c s) := by
  rw [enterHold_of_run h]
  exact workDropped_postTo (isCarrierWork_stateFrame _) _ (workDropped_post rfl _ (workDropped_dropCarrierWork _))

end

/-! ## PURGED -/

theorem takePurged_of_run {s : State} (h : s.carrier.mode = .run) :
    takePurged .carrier [] s = strayReport .carrier s := by
  simp [takePurged, carrierReport, reportPurged, h]

theorem takePurged_of_hold {s : State} (h : s.carrier.mode ≠ .run) : takePurged .carrier [] s =
    postState (.carrier .run) ((s.setCarrier { s.carrier with mode := .run }).setVerify { mismatchRun := 0 }) := by
  simp [takePurged, carrierReport, reportPurged, h]

/-- Settles O33: the entry into HOLD through the discarding of each order, its notices, and PURGED. -/
theorem holdDiscardsEveryOrderUntilPurged : Obligations.HoldDiscardsEveryOrderUntilPurged := by
  refine ⟨fun c s => ⟨enterHold_of_hold, fun h => ?_⟩, fun num s hr => ⟨fun h => ?_, fun h => ?_⟩⟩
  · obtain ⟨hcarrier, hlines, htrack, -⟩ := heldUp_rules c s
    have hd := discarded_discardOrders s.carrier.queue (holding c s)
    have hsame (q : Nat) := pieceAt_congr (enterHold_track (c := c) h) q
    refine ⟨by rw [enterHold_of_run h]; simpa using hcarrier, by rw [enterHold_of_run h]; simpa using hlines,
      fun q hq => ?_, fun q x hx => ?_, fun o ho q x hx => ?_, workDropped_enterHold h, by simp, by simp, by simp,
      fun hr => ⟨(enterHold_messages (m := 0) h hr).1.1, fun p => ⟨_, (enterHold_messages (m := 0) h hr).2 p⟩⟩⟩
    · rw [entryAt, enterHold_track h]
      exact hd.none q hq
    · obtain ⟨y, hy, hxy⟩ := hd.some q x hx
      exact ⟨y, (hsame q).trans hy, hxy.tag, hxy.record, hxy.plan, hxy.verify, hxy.wrap, hxy.fate, hxy.unclaimed⟩
    · obtain ⟨y, hy, hun⟩ := unclaimed_discardOrders (s := holding c s) ho hx
      exact ⟨y, (hsame q).trans hy, hun⟩
  · exact exec_stray (n := 0) hr (takePurged .carrier []) rfl (takePurged_of_run (by simpa using h))
  · show answerMessage .carrier (takePurged .carrier []) s = _
    have hroom : Roomy 2 (silent .carrier ((s.setCarrier { s.carrier with mode := .run }).setVerify
      { mismatchRun := 0 })) := by
      refine Roomy.silent ?_ .carrier
      exact hr.of_link rfl
    have htake : takePurged .carrier [] (silent .carrier s) = announced (.carrier .run) (silent .carrier
        ((s.setCarrier { s.carrier with mode := .run }).setVerify { mismatchRun := 0 })) := by
      rw [takePurged_of_hold (by simpa using h), ← postState_of_roomy (n := 1) hroom, silent_setVerify, silent_setCarrier]
      simp
    rw [answerMessage_settled, htake, settle_of_roomy (Roomy.announced (n := 1) hroom _)]

end Sys2Proof.Machine


/-! In HOLD the carrier unit is empty (R95, R109): every change that a step is made of keeps it so. -/

namespace Sys2Proof.Machine

/-! ## The mode across the carrier unit's operations -/

theorem mode_setOrderState (n : Nat) (x : OrderState) (s : State) :
    (setOrderState n x s).carrier.mode = s.carrier.mode := rfl

theorem mode_removeOrder (n : Nat) (s : State) : (removeOrder n s).carrier.mode = s.carrier.mode := rfl

theorem mode_giveUpOrder (p n : Nat) (o : Order) (s : State) :
    (giveUpOrder p n o s).carrier.mode = s.carrier.mode := by
  unfold giveUpOrder
  dsimp only
  split <;> simp [mode_setOrderState]

theorem mode_starveAtApply (p : Nat) (s : State) : (starveAtApply p s).carrier.mode = s.carrier.mode := by
  unfold starveAtApply
  dsimp only
  split
  · simp
  · split
    · simp [mode_giveUpOrder]
    · simp

theorem mode_applyPhase (s : State) : (applyPhase s).carrier.mode = s.carrier.mode := by
  unfold applyPhase
  dsimp only
  split
  · split
    · split
      · simp [applyCarrier, takeHead]
      · exact mode_starveAtApply _ s
    · rfl
  · rfl

theorem mode_dumpPhase (s : State) : (dumpPhase s).carrier.mode = s.carrier.mode := by
  unfold dumpPhase
  split
  · split <;> rfl
  · rfl

theorem mode_settleCarrier (s : State) : (settleCarrier s).carrier.mode = s.carrier.mode := by
  unfold settleCarrier
  dsimp only
  split
  · rfl
  · split
    · split <;> simp
    · rw [mode_giveUpOrder]; split <;> simp

theorem mode_spoilIssued (n : Nat) (s : State) : (spoilIssued n s).carrier.mode = s.carrier.mode := by
  unfold spoilIssued
  split
  · rfl
  · split
    · simp [reprint_eq]
    · simp [voidCarrier, mode_removeOrder]

theorem mode_reportSpoiled (n : Nat) (s : State) : (reportSpoiled n s).carrier.mode = s.carrier.mode := by
  cases h : findOrder n s with
  | none => simp [reportSpoiled, h]
  | some o =>
    rw [reportSpoiled_of_some h]
    split
    · exact mode_spoilIssued n s
    · split
      · rfl
      · simp

/-! ## HOLD -/

theorem holdIsEmpty_of_run {s : State} (h : s.carrier.mode = .run) : HoldIsEmpty s := fun hn => absurd h hn

theorem holdIsEmpty_storeFree : StoreFree HoldIsEmpty where
  pins h _ := h
  pending h _ := h
  calls h _ := h
  free h _ := h
  link h _ _ := h
  claim h _ := h
  gate h _ _ _ := h
  latch h := h
  unlatch h := h
  fault h _ _ := h
  stations h _ := h
  lines h x hx hm := by
    obtain ⟨hq, hc, ha, hd⟩ := h hm
    exact ⟨hq, hc, hx.1.elim id (·.trans ha), hx.2.elim id (·.trans hd)⟩
  verify h _ _ := h
  entry h _ _ := h
  reg h _ _ := h
  disp h _ _ := h
  track h _ _ := h
  bundle h _ _ _ := h
  removeBundle h _ := h
  job h _ _ _ _ := h
  store h _ _ := h

theorem holdIsEmpty_trackFree : TrackFree HoldIsEmpty where
  toQuiet := holdIsEmpty_storeFree.toQuiet
  loss h _ _ := h

theorem holdIsEmpty_entryFree : EntryFree HoldIsEmpty where
  toStoreFree := holdIsEmpty_storeFree
  createBundle h _ _ _ := h
  putPiece h _ _ := h
  putEmpty h _ _ := h
  issue _ hm _ _ _ := holdIsEmpty_of_run (by simpa [issueOrder] using hm)

theorem holdIsEmpty_enterHold {s : State} (h : HoldIsEmpty s) (c : HoldCause) : HoldIsEmpty (enterHold c s) := by
  by_cases hm : s.carrier.mode = .run
  · obtain ⟨hcarrier, hlines, -, -⟩ := heldUp_rules c s
    intro _
    rw [enterHold_of_run hm]
    simp [hcarrier, hlines]
  · rwa [enterHold_of_hold hm]

theorem holdIsEmpty_holdOnReport {s : State} (h : HoldIsEmpty s) (k : FaultKind) (c : HoldCause) :
    HoldIsEmpty (holdOnReport k c s) :=
  holdIsEmpty_enterHold (holdIsEmpty_storeFree.raise h _) c

/-- In HOLD no piece has a live order. -/
theorem liveOrder_of_empty {s : State} (h : s.carrier.queue = []) (p : Nat) : liveOrder p s = none := by
  unfold liveOrder findOrder
  cases (pieceAt p s).bind Piece.carrier <;> simp [h]

theorem holdIsEmpty_settleCarrier {s : State} (h : HoldIsEmpty s) : HoldIsEmpty (settleCarrier s) := by
  by_cases hm : s.carrier.mode = .run
  · exact holdIsEmpty_of_run ((mode_settleCarrier s).trans hm)
  · have hs : HoldIsEmpty (starvePiece ((geometryItems s).applicator + 1) s) := holdIsEmpty_storeFree.starvePiece h _
    unfold settleCarrier
    dsimp only
    split
    · exact h
    · next x _ =>
      have hq : (if x.fate = .awaiting then starvePiece ((geometryItems s).applicator + 1) s else s).carrier.queue = [] := by
        split <;> simp [(h hm).1]
      rw [liveOrder_of_empty hq]
      dsimp only
      split
      · exact hs
      · exact h

theorem holdIsEmpty_reportPrinted {s : State} (h : HoldIsEmpty s) (hm : s.carrier.mode = .run) (n : Nat) :
    HoldIsEmpty (reportPrinted n s) := by
  unfold reportPrinted
  split
  · exact holdIsEmpty_holdOnReport h _ _
  · split
    · split
      · exact holdIsEmpty_of_run (by exact hm)
      · exact holdIsEmpty_holdOnReport h _ _
    · exact holdIsEmpty_holdOnReport h _ _

theorem holdIsEmpty_reportWithdrawn {s : State} (h : HoldIsEmpty s) (hm : s.carrier.mode = .run) (n : Nat) :
    HoldIsEmpty (reportWithdrawn n s) := by
  have hstray := holdIsEmpty_storeFree.strayReport h .carrier
  cases ho : findOrder n s with
  | none => simpa [reportWithdrawn, ho] using hstray
  | some o =>
    rw [reportWithdrawn_of_some ho]
    split
    · exact holdIsEmpty_of_run hm
    · split
      · exact holdIsEmpty_holdOnReport h _ _
      · exact hstray

theorem holdIsEmpty_reportLate {s : State} (h : HoldIsEmpty s) (hm : s.carrier.mode = .run) (n : Nat) :
    HoldIsEmpty (reportLate n s) := by
  have hstray := holdIsEmpty_storeFree.strayReport h .carrier
  cases ho : findOrder n s with
  | none => simpa [reportLate, ho] using hstray
  | some o =>
    rw [reportLate_of_some ho]
    split
    · exact holdIsEmpty_of_run hm
    · split
      · exact h
      · exact hstray

/-- In HOLD the phase events of the carrier unit do nothing, and in RUN they stay in RUN. -/
theorem holdIsEmpty_phase {s : State} {phase : State → State} (hrun : (phase s).carrier.mode = s.carrier.mode)
    (hhold : s.carrier.mode ≠ .run → phase s = s) (h : HoldIsEmpty s) : HoldIsEmpty (phase s) := by
  by_cases hm : s.carrier.mode = .run
  · exact holdIsEmpty_of_run (hrun.trans hm)
  · rwa [hhold hm]

theorem holdIsEmpty_work : Work HoldIsEmpty HoldIsEmpty where
  toStoreWork := holdIsEmpty_storeFree.work
  done h := h
  after := holdIsEmpty_storeFree.toQuiet
  loseRegistration h _ := loseRegistration_of holdIsEmpty_storeFree.toQuiet h
    (purgeTrack_of_free holdIsEmpty_storeFree holdIsEmpty_trackFree) holdIsEmpty_enterHold
  enterHold := holdIsEmpty_enterHold
  reportPrinted := holdIsEmpty_reportPrinted
  reportSpoiled _ hm n := holdIsEmpty_of_run ((mode_reportSpoiled n _).trans hm)
  reportWithdrawn := holdIsEmpty_reportWithdrawn
  reportLate := holdIsEmpty_reportLate
  runCarrier _ _ := holdIsEmpty_of_run rfl
  dumpPhase := holdIsEmpty_phase (mode_dumpPhase _) dumpPhase_of_hold
  applyPhase := holdIsEmpty_phase (mode_applyPhase _) applyPhase_of_hold
  issueBoundary h n order hn := issueBoundary_of holdIsEmpty_storeFree.toQuiet (fun h _ => h)
    holdIsEmpty_entryFree.entryEvent holdIsEmpty_settleCarrier
    (dispositionBoundary_of holdIsEmpty_storeFree.work fun h hd =>
      takeArrival_of_free holdIsEmpty_storeFree holdIsEmpty_trackFree h hd) h n order hn
  powerOn _ := holdIsEmpty_of_run rfl
  restarted _ := holdIsEmpty_of_run rfl
  setGeometry h g p num ho _ :=
    setGeometry_of holdIsEmpty_storeFree.work ⟨fun h _ => h, fun h _ _ _ => h⟩ g h ho p num

end Sys2Proof.Machine


/-! The entry event and the pitch boundary for an invariant that the entry of a record changes: what holds while block
events are still due, and what holds after each of them (R2, R61, R69). -/

namespace Sys2Proof.Machine

/-! ## Two invariants together -/

theorem Quiet.and {I J : State → Prop} (q : Quiet I) (r : Quiet J) : Quiet fun s => I s ∧ J s where
  pins h x := ⟨q.pins h.1 x, r.pins h.2 x⟩
  pending h x := ⟨q.pending h.1 x, r.pending h.2 x⟩
  calls h x := ⟨q.calls h.1 x, r.calls h.2 x⟩
  free h x := ⟨q.free h.1 x, r.free h.2 x⟩
  link h x hx := ⟨q.link h.1 x hx, r.link h.2 x hx⟩
  claim h c := ⟨q.claim h.1 c, r.claim h.2 c⟩
  gate h g hg hs := ⟨q.gate h.1 g hg hs, r.gate h.2 g hg hs⟩
  latch h := ⟨q.latch h.1, r.latch h.2⟩
  unlatch h := ⟨q.unlatch h.1, r.unlatch h.2⟩
  fault h x hx := ⟨q.fault h.1 x hx, r.fault h.2 x hx⟩
  stations h x := ⟨q.stations h.1 x, r.stations h.2 x⟩
  lines h x hx := ⟨q.lines h.1 x hx, r.lines h.2 x hx⟩
  verify h n hn := ⟨q.verify h.1 n hn, r.verify h.2 n hn⟩
  entry h x hx := ⟨q.entry h.1 x hx, r.entry h.2 x hx⟩
  reg h x hx := ⟨q.reg h.1 x hx, r.reg h.2 x hx⟩
  disp h x hx := ⟨q.disp h.1 x hx, r.disp h.2 x hx⟩
  track h x hx := ⟨q.track h.1 x hx, r.track h.2 x hx⟩
  bundle h n f hf := ⟨q.bundle h.1 n f hf, r.bundle h.2 n f hf⟩
  removeBundle h n := ⟨q.removeBundle h.1 n, r.removeBundle h.2 n⟩
  job h j n m hj := ⟨q.job h.1 j n m hj, r.job h.2 j n m hj⟩

theorem StoreWork.and {I J : State → Prop} (w : StoreWork I) (v : StoreWork J) : StoreWork fun s => I s ∧ J s where
  toQuiet := w.toQuiet.and v.toQuiet
  load h r hr := ⟨w.load h.1 r hr, v.load h.2 r hr⟩
  dropEntry h e rest hb hn := ⟨w.dropEntry h.1 e rest hb hn, v.dropEntry h.2 e rest hb hn⟩
  releaseEntry h o rest r hb hr := ⟨w.releaseEntry h.1 o rest r hb hr, v.releaseEntry h.2 o rest r hb hr⟩
  forget h r hr hb := ⟨w.forget h.1 r hr hb, v.forget h.2 r hr hb⟩
  enterBacklog h o rs hs := ⟨w.enterBacklog h.1 o rs hs, v.enterBacklog h.2 o rs hs⟩

theorem StoreFree.and {I J : State → Prop} (q : StoreFree I) (r : StoreFree J) : StoreFree fun s => I s ∧ J s where
  toQuiet := q.toQuiet.and r.toQuiet
  store h x hx := ⟨q.store h.1 x hx, r.store h.2 x hx⟩

/-- An invariant under a condition on nothing of the state. -/
theorem Quiet.imp {I : State → Prop} (p : Prop) (q : Quiet I) : Quiet fun s => p → I s where
  pins h x hp := q.pins (h hp) x
  pending h x hp := q.pending (h hp) x
  calls h x hp := q.calls (h hp) x
  free h x hp := q.free (h hp) x
  link h x hx hp := q.link (h hp) x hx
  claim h c hp := q.claim (h hp) c
  gate h g hg hs hp := q.gate (h hp) g hg hs
  latch h hp := q.latch (h hp)
  unlatch h hp := q.unlatch (h hp)
  fault h x hx hp := q.fault (h hp) x hx
  stations h x hp := q.stations (h hp) x
  lines h x hx hp := q.lines (h hp) x hx
  verify h n hn hp := q.verify (h hp) n hn
  entry h x hx hp := q.entry (h hp) x hx
  reg h x hx hp := q.reg (h hp) x hx
  disp h x hx hp := q.disp (h hp) x hx
  track h x hx hp := q.track (h hp) x hx
  bundle h n f hf hp := q.bundle (h hp) n f hf
  removeBundle h n hp := q.removeBundle (h hp) n
  job h j n m hj hp := q.job (h hp) j n m hj

/-! ## The entry event -/

/-- What is known where a record enters (R64 to R68). -/
structure Entering (src : SourceList) (r : Record) (bay : Option (Fin 16)) (s : State) : Prop where
  bay : ∀ x ∈ bay, BayFits r.bundle x s
  registered : s.reg.state = .registered
  mode : s.carrier.mode = .run
  room : s.carrier.queue.length < 96
  backlog : s.store.backlog = []
  job : s.store.jobState ≠ .aborting
  lane : src = .lane → s.store.lane.head? = some r
  queue : src = .queue → s.store.lane = [] ∧ s.store.queue.head? = some r ∧
    (s.store.jobState = .loading ∨ s.store.jobState = .ended)

theorem offer_eq_record {src : SourceList} {r : Record} {s : State} (h : offer s = .record src r) :
    s.store.backlog = [] ∧ s.store.jobState ≠ .aborting ∧ askedRecord s = some (src, r) := by
  unfold offer at h
  split at h
  · exact absurd h (by simp)
  · next a b hask =>
    split at h
    · exact absurd h (by simp)
    · next hn =>
      obtain ⟨rfl, rfl⟩ := Offer.record.inj h
      simp only [not_or, not_not] at hn
      exact ⟨hn.1, hn.2, hask⟩

theorem askedRecord_lane {r : Record} {s : State} (h : askedRecord s = some (.lane, r)) :
    s.store.lane.head? = some r := by
  unfold askedRecord at h
  split at h
  · next hl => simpa [hl] using h
  · split at h
    · simp at h
    · simp at h

theorem askedRecord_queue {r : Record} {s : State} (h : askedRecord s = some (.queue, r)) :
    s.store.lane = [] ∧ s.store.queue.head? = some r ∧ s.run.gate = .opened ∧
      (s.store.jobState = .loading ∨ s.store.jobState = .ended) := by
  unfold askedRecord at h
  split at h
  · simp at h
  · next hl =>
    split at h
    · next hg => exact ⟨hl, by simpa using h, hg⟩
    · simp at h

/-- The entry event leads from `I`, under which position 0 may be left empty, to `J`: by an entry, or by leaving the pocket
empty. -/
structure EntryWork (I J : State → Prop) : Prop where
  before : Quiet I
  after : Quiet J
  done : ∀ {s}, I s → J s
  putEmpty : ∀ {s}, I s → ∀ e, pieceOf e = none → I (setEntryAt 0 e s)
  enterRecord : ∀ {s}, I s → ∀ src r plan bay, Entering src r bay s → J (enterRecord src r plan bay s)

namespace EntryWork

variable {I J : State → Prop} {s : State}

theorem leaveEmpty (w : EntryWork I J) (h : I s) (pocket : Option Nat) (r : EntryResult) (b : Option Nat) :
    I (leaveEmpty pocket r b s) :=
  w.before.entry (w.putEmpty h (.empty pocket 0) rfl) _ (by exact ⟨id, id⟩)

theorem checkItems (w : EntryWork I J) (h : I s) {src : SourceList} {r : Record} (hin : Entering src r none s) :
    J (checkItems src r s) := by
  unfold Machine.checkItems checkBay
  split
  · exact w.done (w.before.testItems (w.leaveEmpty h _ _ _) r)
  · split
    · exact w.enterRecord h _ _ _ _ hin
    · next b _ hn hf =>
      refine w.enterRecord h _ _ _ _ { hin with bay := fun x hx => ?_ }
      cases hx
      exact ⟨hn, EntryFree.freeBays_mem (hf ▸ List.mem_cons_self)⟩
    · exact w.done (w.leaveEmpty h _ _ _)

theorem entryEvent (w : EntryWork I J) (h : I s) : J (entryEvent s) := by
  unfold Machine.entryEvent
  split
  · exact w.done (w.leaveEmpty h _ _ _)
  · next hreg =>
    split
    · exact w.done (w.before.entry (w.putEmpty h (.locked s.reg.pocketIndex 0) rfl) _ (by exact ⟨id, id⟩))
    · split
      · exact w.done (w.leaveEmpty h _ _ _)
      · split
        · exact w.done (w.leaveEmpty h _ _ _)
        · next ht =>
          obtain ⟨hmode, hroom⟩ := EntryFree.canTakeOrder_room (Bool.not_eq_false _ ▸ ht)
          have hs := w.before.testStarvation h
          have hregS : (testStarvation s).reg.state = .registered := by simpa using hreg
          have hmodeS : (testStarvation s).carrier.mode = .run := by simpa using hmode
          have hroomS : (testStarvation s).carrier.queue.length < 96 := by simpa using hroom
          unfold chooseRecord
          dsimp only
          generalize testStarvation s = u at *
          split
          · exact w.done (w.leaveEmpty hs _ _ _)
          · exact w.done (w.leaveEmpty hs _ _ _)
          · next src r ho =>
            obtain ⟨hback, hjob, hask⟩ := offer_eq_record ho
            refine w.checkItems hs ⟨fun _ e => (nomatch e), hregS, hmodeS, hroomS, hback, hjob, ?_, ?_⟩
            · rintro rfl
              exact askedRecord_lane hask
            · rintro rfl
              obtain ⟨hl, hq, -, hj⟩ := askedRecord_queue hask
              exact ⟨hl, hq, hj⟩

end EntryWork

/-! ## The pitch boundary -/

/-- The block events of a boundary, each once (R2, log 6). -/
theorem nodup_schedule_boundary (order : List PulseTask) : (schedule order boundaryTasks).Nodup :=
  (schedule_perm order boundaryTasks (by decide)).nodup_iff.mpr (by decide)

theorem mem_schedule_boundary {order : List PulseTask} {t : PulseTask} :
    t ∈ schedule order boundaryTasks ↔ t = .entry ∨ t = .carrier ∨ t = .disposition := by
  rw [(schedule_perm order boundaryTasks (by decide)).mem_iff]
  simp [boundaryTasks]

/-- `B l` holds while the block events `l` are still due. -/
structure BoundaryWork (I : State → Prop) (B : List PulseTask → State → Prop) : Prop where
  before : Quiet I
  during : ∀ l, Quiet (B l)
  advance : ∀ {s}, I s → (∃ g, s.setup.geometry = some g) → ∀ l, .entry ∈ l → .carrier ∈ l → .disposition ∈ l →
    B l (advanceTrack s)
  entry : ∀ {s l}, .entry ∉ l → B (.entry :: l) s → B l (entryEvent s)
  carrier : ∀ {s l}, .carrier ∉ l → B (.carrier :: l) s → B l (settleCarrier s)
  disposition : ∀ {s l}, .disposition ∉ l → B (.disposition :: l) s → B l (dispositionBoundary s)

theorem BoundaryWork.issueBoundary {I : State → Prop} {B : List PulseTask → State → Prop} (w : BoundaryWork I B)
    {s : State} (h : I s) {n : Nat} (order : List PulseTask) (hn : IndexFits n s) : B [] (issueBoundary n order s) := by
  have ha : B (schedule order boundaryTasks)
      (Machine.advance (s.setReg { s.reg with phase := 0, issuedTo := 0, pocketIndex := n })) := by
    obtain ⟨g, hg, -⟩ := id hn
    refine (w.during _).settle ((w.during _).settleVerify (w.advance (w.before.boundaryCount h hn) ⟨g, hg⟩ _ ?_ ?_ ?_))
    all_goals simp [mem_schedule_boundary]
  have hall : ∀ t ∈ schedule order boundaryTasks, t = .entry ∨ t = .carrier ∨ t = .disposition :=
    fun t => mem_schedule_boundary.mp
  exact (runTasks_induct (J := fun l u => l.Nodup ∧ (∀ t ∈ l, t = .entry ∨ t = .carrier ∨ t = .disposition) ∧ B l u)
    (fun t l u ⟨hnd, hmem, hb⟩ => by
      obtain ⟨hnot, hnd'⟩ := List.nodup_cons.mp hnd
      refine ⟨hnd', fun x hx => hmem x (List.mem_cons_of_mem t hx), (w.during l).settle ?_⟩
      rcases hmem t List.mem_cons_self with rfl | rfl | rfl
      · exact w.entry hnot hb
      · exact w.carrier hnot hb
      · exact w.disposition hnot hb) ⟨nodup_schedule_boundary order, hall, ha⟩).2.2

end Sys2Proof.Machine


/-! The printed orders stand at the head of the carrier queue (R95). -/

namespace Sys2Proof.Machine

/-! ## A buffer at the head -/

/-- A queue whose printed orders are its first ones, `n` of them (R95). -/
def PrintedRun (n : Nat) (os : List Order) : Prop :=
  ∃ buffer rest, os = buffer ++ rest ∧ (∀ o ∈ buffer, isPrinted o = true) ∧ (∀ o ∈ rest, isPrinted o = false) ∧
    n = buffer.length

theorem isUnprinted_eq (o : Order) : isUnprinted o = !isPrinted o := by
  unfold isUnprinted isPrinted
  cases o.state <;> rfl

namespace PrintedRun

variable {n : Nat} {os : List Order}

theorem nil : PrintedRun 0 [] := ⟨[], [], rfl, by simp, by simp, rfl⟩

theorem append (h : PrintedRun n os) {o : Order} (ho : isPrinted o = false) : PrintedRun n (os ++ [o]) := by
  obtain ⟨buffer, rest, rfl, hb, hr, hn⟩ := h
  refine ⟨buffer, rest ++ [o], List.append_assoc _ _ _, hb, fun x hx => ?_, hn⟩
  rcases List.mem_append.mp hx with hx | hx
  · exact hr x hx
  · obtain rfl := List.mem_singleton.mp hx
    exact ho

theorem map (h : PrintedRun n os) {f : Order → Order} (hf : ∀ o ∈ os, isPrinted (f o) = isPrinted o) :
    PrintedRun n (os.map f) := by
  obtain ⟨buffer, rest, rfl, hb, hr, hn⟩ := h
  refine ⟨buffer.map f, rest.map f, List.map_append, fun x hx => ?_, fun x hx => ?_, by simpa using hn⟩
  · obtain ⟨o, ho, rfl⟩ := List.mem_map.mp hx
    rw [hf o (List.mem_append_left _ ho), hb o ho]
  · obtain ⟨o, ho, rfl⟩ := List.mem_map.mp hx
    rw [hf o (List.mem_append_right _ ho), hr o ho]

theorem filter (h : PrintedRun n os) {p : Order → Bool} (hp : ∀ o ∈ os, isPrinted o = true → p o = true) :
    PrintedRun n (os.filter p) := by
  obtain ⟨buffer, rest, rfl, hb, hr, hn⟩ := h
  have hbuffer : buffer.filter p = buffer :=
    List.filter_eq_self.mpr fun o ho => hp o (List.mem_append_left _ ho) (hb o ho)
  exact ⟨buffer, rest.filter p, by rw [List.filter_append, hbuffer], hb, fun o ho => hr o (List.mem_filter.mp ho).1, hn⟩

theorem tail {o : Order} (h : PrintedRun n (o :: os)) (ho : isPrinted o = true) : PrintedRun (n - 1) os := by
  obtain ⟨buffer, rest, heq, hb, hr, hn⟩ := h
  cases buffer with
  | nil =>
    have hunprinted := hr o (by rw [← List.nil_append rest, ← heq]; exact List.mem_cons_self)
    simp [hunprinted] at ho
  | cons x xs =>
    obtain ⟨rfl, rfl⟩ := List.cons.inj heq
    exact ⟨xs, rest, rfl, fun y hy => hb y (List.mem_cons_of_mem _ hy), hr, by simp [hn]⟩

/-- The oldest unprinted order printed (R98). -/
theorem print (h : PrintedRun n os) (hnd : (os.map Order.number).Nodup) {o : Order}
    (ho : os.find? isUnprinted = some o) {f : Order → Order}
    (hf : ∀ x, x.number ≠ o.number → f x = x) (hfo : isPrinted (f o) = true) :
    PrintedRun (n + 1) (os.map f) := by
  obtain ⟨buffer, rest, rfl, hb, hr, hn⟩ := h
  have hskip : buffer.find? isUnprinted = none := by
    rw [List.find?_eq_none]
    intro x hx
    simp [isUnprinted_eq, hb x hx]
  rw [List.find?_append, hskip, Option.none_or] at ho
  cases rest with
  | nil => simp at ho
  | cons x xs =>
    have hx : isUnprinted x = true := by simp [isUnprinted_eq, hr x List.mem_cons_self]
    rw [List.find?_cons, hx] at ho
    obtain rfl := Option.some.inj ho
    rw [List.map_append, List.map_cons, List.nodup_append, List.nodup_cons] at hnd
    obtain ⟨-, ⟨hxs, -⟩, hdisjoint⟩ := hnd
    have hbuffer : buffer.map f = buffer := (List.map_congr_left fun y hy => hf y
      (hdisjoint _ (List.mem_map_of_mem hy) _ List.mem_cons_self)).trans (List.map_id _)
    have hrest : xs.map f = xs := (List.map_congr_left fun y hy => hf y
      fun e => hxs (e ▸ List.mem_map_of_mem hy)).trans (List.map_id _)
    refine ⟨buffer ++ [f x], xs, by simp [hbuffer, hrest], fun y hy => ?_, fun y hy => hr y (List.mem_cons_of_mem _ hy),
      by simp [hn]⟩
    rcases List.mem_append.mp hy with hy | hy
    · exact hb y hy
    · rw [List.mem_singleton.mp hy]
      exact hfo

end PrintedRun

/-! ## The numbers of the queue -/

/-- The numbers of the orders in the carrier queue. -/
def orderNumbers (s : State) : List Nat := s.carrier.queue.map Order.number

theorem eq_of_number {os : List Order} (hnd : (os.map Order.number).Nodup) {x y : Order} (hx : x ∈ os) (hy : y ∈ os)
    (h : x.number = y.number) : x = y :=
  List.inj_on_of_nodup_map hnd hx hy h

theorem map_number_setState (n : Nat) (x : OrderState) (os : List Order) :
    (os.map fun o => if o.number = n then { o with state := x } else o).map Order.number = os.map Order.number := by
  rw [List.map_map]
  refine List.map_congr_left fun o _ => ?_
  by_cases h : o.number = n <;> simp [h]

/-! ## The invariant -/

/-- The printed orders at the head, as many as the printed count and at most K, in a queue of distinct numbers; and the
next number new, where `fresh` (R93, R95). -/
def BufferKept (fresh : Prop) (s : State) : Prop :=
  PrintedRun s.carrier.printedCount s.carrier.queue ∧ s.carrier.printedCount ≤ (geometryItems s).depth ∧
    (orderNumbers s).Nodup ∧ (fresh → s.carrier.nextOrder ∉ orderNumbers s)

theorem bufferKept_true_iff (s : State) : BufferKept True s ↔ BufferAtHead s ∧ OrdersDistinct s := by
  simp only [BufferKept, BufferAtHead, OrdersDistinct, PrintedRun, orderNumbers, true_implies, and_assoc]

theorem bufferKept_storeFree (fresh : Prop) : StoreFree (BufferKept fresh) where
  pins h _ := h
  pending h _ := h
  calls h _ := h
  free h _ := h
  link h _ _ := h
  claim h _ := h
  gate h _ _ _ := h
  latch h := h
  unlatch h := h
  fault h _ _ := h
  stations h _ := h
  lines h _ _ := h
  verify h _ _ := h
  entry h _ _ := h
  reg h _ _ := h
  disp h _ _ := h
  track h _ _ := h
  bundle h _ _ _ := h
  removeBundle h _ := h
  job h _ _ _ _ := h
  store h _ _ := h

theorem bufferKept_trackFree (fresh : Prop) : TrackFree (BufferKept fresh) where
  toQuiet := (bufferKept_storeFree fresh).toQuiet
  loss h _ _ := h

namespace BufferKept

variable {fresh : Prop} {s : State}

theorem congr {t : State} (h : BufferKept fresh s) (hc : t.carrier = s.carrier) (hs : t.setup = s.setup) :
    BufferKept fresh t := by
  simpa only [BufferKept, orderNumbers, geometryItems, hc, hs] using h

theorem done (h : BufferKept True s) : BufferKept fresh s := ⟨h.1, h.2.1, h.2.2.1, fun _ => h.2.2.2 trivial⟩

theorem weaken (h : BufferKept fresh s) : BufferKept False s := ⟨h.1, h.2.1, h.2.2.1, False.elim⟩

/-- An order that is not printed leaves the queue. -/
theorem removeOrder (h : BufferKept fresh s) {n : Nat} {o : Order} (ho : findOrder n s = some o)
    (hp : isPrinted o = false) : BufferKept fresh (removeOrder n s) := by
  obtain ⟨hrun, hdepth, hnd, hnew⟩ := h
  obtain ⟨hmem, hn⟩ := findOrder_mem ho
  have hsub : (orderNumbers (Machine.removeOrder n s)).Sublist (orderNumbers s) := List.filter_sublist.map _
  refine ⟨hrun.filter fun x hx hxp => decide_eq_true fun hxn => ?_, hdepth, hnd.sublist hsub,
    fun hf hmem => hnew hf (hsub.subset hmem)⟩
  rw [eq_of_number hnd hx hmem (hxn.trans hn.symm), hp] at hxp
  exact absurd hxp (by simp)

/-- An order's state changes, printed as before. -/
theorem setOrderState (h : BufferKept fresh s) {n : Nat} {o : Order} (ho : findOrder n s = some o) {x : OrderState}
    (hp : isPrinted { o with state := x } = isPrinted o) : BufferKept fresh (setOrderState n x s) := by
  obtain ⟨hrun, hdepth, hnd, hnew⟩ := h
  obtain ⟨hmem, hn⟩ := findOrder_mem ho
  have hnum : orderNumbers (Machine.setOrderState n x s) = orderNumbers s := map_number_setState n x _
  refine ⟨hrun.map fun y hy => ?_, hdepth, hnum ▸ hnd, fun hf => hnum ▸ hnew hf⟩
  split
  · next hyn => rw [eq_of_number hnd hy hmem (hyn.trans hn.symm), hp]
  · rfl

theorem takeHead (h : BufferKept fresh s) {o : Order} (ho : s.carrier.queue.head? = some o)
    (hp : isPrinted o = true) : BufferKept fresh (takeHead s) := by
  obtain ⟨hrun, hdepth, hnd, hnew⟩ := h
  obtain ⟨rest, hq⟩ : ∃ rest, s.carrier.queue = o :: rest := by
    cases hc : s.carrier.queue with
    | nil => simp [hc] at ho
    | cons a as => exact ⟨as, by simpa [hc] using ho⟩
  have hsub : (orderNumbers (Machine.takeHead s)).Sublist (orderNumbers s) := (List.tail_sublist _).map _
  refine ⟨?_, (Nat.sub_le _ _).trans hdepth, hnd.sublist hsub, fun hf hmem => hnew hf (hsub.subset hmem)⟩
  rw [hq] at hrun
  simpa [Machine.takeHead, hq] using hrun.tail hp

/-- An order issued at the tail, its number not in the queue. -/
theorem issue (h : BufferKept fresh s) (hf : s.carrier.nextOrder ∉ orderNumbers s) (tag : Nat) (r : Record) :
    BufferKept False (issueOrder tag r s) := by
  obtain ⟨hrun, hdepth, hnd, -⟩ := h
  have hnd' : (orderNumbers s ++ [s.carrier.nextOrder]).Nodup :=
    hnd.append (List.nodup_singleton _) (by simpa using hf)
  refine (bufferKept_storeFree False).post (s := s.setCarrier { s.carrier with
    queue := s.carrier.queue ++ [{ number := s.carrier.nextOrder, tag := tag, state := .issued }]
    nextOrder := orderAfter s.carrier.nextOrder }) ⟨hrun.append rfl, hdepth, ?_, False.elim⟩ _ _
  simpa [orderNumbers] using hnd'

theorem updatePiece (h : BufferKept fresh s) (p : Nat) (f : Piece → Piece) : BufferKept fresh (updatePiece p f s) :=
  h.congr (by simp) (by simp)

theorem giveUpOrder (h : BufferKept fresh s) (p : Nat) {o : Order} (ho : findOrder o.number s = some o) :
    BufferKept fresh (giveUpOrder p o.number o s) := by
  have hu := h.updatePiece p fun x => { x with carrier := none }
  have ho' : findOrder o.number (Machine.updatePiece p (fun x => { x with carrier := none }) s) = some o := by
    simpa [findOrder] using ho
  unfold Machine.giveUpOrder
  dsimp only
  split
  · next hs => exact (bufferKept_storeFree fresh).post (hu.setOrderState ho' (by simp [isPrinted, hs])) _ _
  · next hs => exact hu.setOrderState ho' (by simp [isPrinted, hs])
  · exact hu
  · exact hu
  · exact hu

end BufferKept

end Sys2Proof.Machine


/-! Every step keeps HOLD empty and the buffer at the head (O54). -/

namespace Sys2Proof.Machine

namespace BufferKept

variable {fresh : Prop} {s : State}

/-! ## The carrier unit's operations -/

theorem enterHold (h : BufferKept fresh s) (c : HoldCause) : BufferKept fresh (enterHold c s) := by
  by_cases hm : s.carrier.mode = .run
  · have hc : (Machine.enterHold c s).carrier = { s.carrier with mode := .hold c, queue := [], printedCount := 0 } := by
      rw [enterHold_of_run hm]
      simpa using (heldUp_rules c s).1
    unfold BufferKept orderNumbers
    rw [hc]
    exact ⟨.nil, Nat.zero_le _, List.nodup_nil, fun _ => List.not_mem_nil⟩
  · rwa [enterHold_of_hold hm]

theorem holdOnReport (h : BufferKept fresh s) (k : FaultKind) (c : HoldCause) :
    BufferKept fresh (holdOnReport k c s) :=
  ((bufferKept_storeFree fresh).raise h _).enterHold c

theorem strayReport (h : BufferKept fresh s) : BufferKept fresh (strayReport .carrier s) :=
  (bufferKept_storeFree fresh).strayReport h _

theorem reportPrinted (h : BufferKept fresh s) (n : Nat) : BufferKept fresh (reportPrinted n s) := by
  cases ho : findOrder n s with
  | none => rw [reportPrinted_of_unknown ho]; exact h.holdOnReport _ _
  | some o =>
    by_cases hold : oldestUnprinted s = some n
    · rw [reportPrinted_of_oldest ho hold]
      split
      · next hroom =>
        obtain ⟨hrun, -, hnd, hnew⟩ := h
        obtain ⟨x, hx, hxn⟩ := Option.map_eq_some_iff.mp hold
        obtain ⟨hmem, hn⟩ := findOrder_mem ho
        obtain rfl := eq_of_number hnd hmem (List.mem_of_find?_eq_some hx) (hn.trans hxn.symm)
        have hnum : orderNumbers (Machine.setOrderState n (printedState o) s) = orderNumbers s :=
          map_number_setState n _ _
        refine ⟨hrun.print hnd hx (fun y hy => if_neg fun e => hy (e.trans hn.symm)) ?_, hroom, hnum ▸ hnd, fun hf => hnum ▸ hnew hf⟩
        · rw [if_pos hn]
          unfold isPrinted printedState
          split <;> rfl
      · exact h.holdOnReport _ _
    · rw [reportPrinted_of_later ho hold]
      exact h.holdOnReport _ _

theorem reprint (h : BufferKept True s) {n : Nat} {o : Order} (ho : findOrder n s = some o)
    (hp : isPrinted o = false) (p : Nat) (x : Piece) : BufferKept False (reprint n p x s) := by
  have hr := (h.removeOrder ho hp).updatePiece p
    fun x => { x with carrier := some s.carrier.nextOrder, reprints := x.reprints + 1 }
  exact hr.issue (hr.2.2.2 trivial) x.tag x.record

theorem reportSpoiled (h : BufferKept True s) (n : Nat) : BufferKept False (reportSpoiled n s) := by
  cases ho : findOrder n s with
  | none => simpa [Machine.reportSpoiled, ho] using h.strayReport.weaken
  | some o =>
    rw [reportSpoiled_of_some ho]
    split
    · next hs =>
      have hp : isPrinted o = false := by simp [isPrinted, hs]
      unfold spoilIssued
      split
      · exact (h.removeOrder ho hp).weaken
      · split
        · exact h.reprint ho hp _ _
        · exact ((bufferKept_storeFree True).raiseOnPiece ((h.removeOrder ho hp).updatePiece _ _) _ _ _).weaken
    · split
      · next hs => exact (h.removeOrder ho (by simp [isPrinted, hs])).weaken
      · exact h.strayReport.weaken

theorem reportWithdrawn (h : BufferKept fresh s) (n : Nat) : BufferKept fresh (reportWithdrawn n s) := by
  cases ho : findOrder n s with
  | none => simpa [Machine.reportWithdrawn, ho] using h.strayReport
  | some o =>
    rw [reportWithdrawn_of_some ho]
    split
    · next hs => exact h.removeOrder ho (by simp [isPrinted, hs])
    · split
      · exact h.holdOnReport _ _
      · exact h.strayReport

theorem reportLate (h : BufferKept fresh s) (n : Nat) : BufferKept fresh (reportLate n s) := by
  cases ho : findOrder n s with
  | none => simpa [Machine.reportLate, ho] using h.strayReport
  | some o =>
    rw [reportLate_of_some ho]
    split
    · next hs => exact h.setOrderState ho (by simp [isPrinted, hs])
    · split
      · exact h
      · exact h.strayReport

theorem dumpPhase (h : BufferKept fresh s) : BufferKept fresh (dumpPhase s) := by
  unfold Machine.dumpPhase
  split
  · next o _ ho =>
    split
    · next hs => exact takeHead (s := s.setLines _) h ho (by simp [isPrinted, hs])
    · exact h
  · exact h

theorem starvePiece (h : BufferKept fresh s) (p : Nat) : BufferKept fresh (starvePiece p s) :=
  (bufferKept_storeFree fresh).starvePiece h p

theorem starveAtApply (h : BufferKept fresh s) (p : Nat) : BufferKept fresh (starveAtApply p s) := by
  have hs := h.starvePiece p
  unfold Machine.starveAtApply
  dsimp only
  split
  · exact hs
  · next o ho =>
    split
    · exact hs.giveUpOrder p (findOrder_of_liveOrder ho)
    · exact hs

theorem applyPhase (h : BufferKept fresh s) : BufferKept fresh (applyPhase s) := by
  unfold Machine.applyPhase
  dsimp only
  split
  · next x _ _ =>
    split
    · split
      · next hhead _ =>
        obtain ⟨o, ho, -, hs⟩ := headIsPrintedFor_iff.mp hhead
        refine BufferKept.updatePiece ?_ _ _
        exact takeHead (s := s.setLines _) h ho (by simp [isPrinted, hs])
      · exact h.starveAtApply _
    · exact h
  · exact h

theorem settleCarrier (h : BufferKept fresh s) : BufferKept fresh (settleCarrier s) := by
  unfold Machine.settleCarrier
  dsimp only
  split
  · exact h
  · next x _ =>
    have hs : BufferKept fresh (if x.fate = .awaiting then Machine.starvePiece ((geometryItems s).applicator + 1) s else s) := by
      split
      · exact h.starvePiece _
      · exact h
    split
    · exact hs
    · next o ho => exact hs.giveUpOrder _ (findOrder_of_liveOrder ho)

/-! ## The boundary -/

theorem enterRecord (h : BufferKept True s) (src : SourceList) (r : Record) (plan : List PlanPair)
    (bay : Option (Fin 16)) : BufferKept False (enterRecord src r plan bay s) := by
  have he : BufferKept True (enterBundle r bay (makePiece (newPiece src r plan s) (handOver src r s))) :=
    h.congr (by simp) (by simp)
  have hi := he.issue (he.2.2.2 trivial) (newPiece src r plan s).tag r
  exact hi.congr (by simp [Machine.enterRecord, setResultOfEntry]) (by simp [Machine.enterRecord, setResultOfEntry])

theorem entryWork : EntryWork (BufferKept True) (BufferKept False) where
  before := (bufferKept_storeFree True).toQuiet
  after := (bufferKept_storeFree False).toQuiet
  done := done
  putEmpty h _ he := (bufferKept_trackFree True).clearEntry h 0 he
  enterRecord h src r plan bay _ := h.enterRecord src r plan bay

theorem boundaryWork : BoundaryWork (BufferKept True) fun l => BufferKept (.entry ∈ l) where
  before := (bufferKept_storeFree True).toQuiet
  during l := (bufferKept_storeFree _).toQuiet
  advance h _ l _ _ _ := h.done
  entry {s l} hl h := by
    have ht : BufferKept True s := ⟨h.1, h.2.1, h.2.2.1, fun _ => h.2.2.2 List.mem_cons_self⟩
    have he := entryWork.entryEvent ht
    exact ⟨he.1, he.2.1, he.2.2.1, fun hm => absurd hm hl⟩
  carrier {s l} _ h := by
    have hs := h.settleCarrier
    exact ⟨hs.1, hs.2.1, hs.2.2.1, fun hm => hs.2.2.2 (List.mem_cons_of_mem _ hm)⟩
  disposition {s l} _ h := by
    have hs := dispositionBoundary_of (bufferKept_storeFree (.entry ∈ PulseTask.disposition :: l)).work
      (fun h hd => takeArrival_of_free (bufferKept_storeFree _) (bufferKept_trackFree _) h hd) h
    exact ⟨hs.1, hs.2.1, hs.2.2.1, fun hm => hs.2.2.2 (List.mem_cons_of_mem _ hm)⟩

end BufferKept

/-! ## The step -/

theorem bufferKept_reset {s : State} (h : s.carrier = .powerOn) : BufferKept True s := by
  unfold BufferKept orderNumbers
  rw [h]
  exact ⟨.nil, Nat.zero_le _, List.nodup_nil, fun _ => List.not_mem_nil⟩

theorem bufferKept_setGeometry {s : State} (h : BufferKept True s) {g : Geometry}
    (hg : geometryAgrees g s = true) (p : Port) (num : Byte) :
    BufferKept True (applyGeometry (geometryItems s) g (accept p num (s.setSetup { s.setup with geometry := some g }))) := by
  obtain ⟨-, hsetup, hcarrier, -⟩ := applyGeometry_leaves (geometryItems s) g
    (accept p num (s.setSetup { s.setup with geometry := some g }))
  obtain ⟨hrun, -, hnd, hnew⟩ := h
  obtain ⟨-, -, -, hdepth⟩ := (geometryAgrees_iff g s).mp hg
  generalize applyGeometry (geometryItems s) g (accept p num (s.setSetup { s.setup with geometry := some g })) = t at *
  unfold BufferKept orderNumbers geometryItems
  rw [hcarrier, hsetup]
  simpa [orderNumbers] using And.intro hrun (And.intro hdepth (And.intro hnd hnew))

theorem bufferKept_work : Work (BufferKept True) (BufferKept False) where
  toStoreWork := (bufferKept_storeFree True).work
  done h := h.done
  after := (bufferKept_storeFree False).toQuiet
  loseRegistration h _ := loseRegistration_of (bufferKept_storeFree True).toQuiet h
    (purgeTrack_of_free (bufferKept_storeFree True) (bufferKept_trackFree True)) BufferKept.enterHold
  enterHold := BufferKept.enterHold
  reportPrinted h _ n := h.reportPrinted n
  reportSpoiled h _ n := h.reportSpoiled n
  reportWithdrawn h _ n := h.reportWithdrawn n
  reportLate h _ n := h.reportLate n
  runCarrier h _ := h
  dumpPhase h := h.dumpPhase
  applyPhase h := h.applyPhase
  issueBoundary h _ order hn := (BufferKept.boundaryWork.issueBoundary h order hn).weaken
  powerOn _ := bufferKept_reset rfl
  restarted _ := bufferKept_reset rfl
  setGeometry h _ p num _ ha := bufferKept_setGeometry h ha p num

/-- Settles O54: HOLD is empty after each change of a step, and the buffer stands at the head while the numbers of the
queue are distinct, which they are until the step's one new order is issued. -/
theorem stepKeepsHoldEmptyAndTheBufferAtTheHead : Obligations.StepKeepsHoldEmptyAndTheBufferAtTheHead := by
  refine ⟨fun _ _ => holdIsEmpty_work.step, fun s t h hstep => ?_⟩
  obtain ⟨hrun, hdepth, -, -⟩ := bufferKept_work.step ((bufferKept_true_iff s).mpr h) hstep
  exact ⟨hrun, hdepth⟩

end Sys2Proof.Machine


/-! The orders that pieces name and the live orders of the queue, as lists (R94). -/

namespace Sys2Proof.Machine

/-! ## The claims of a track -/

/-- The order a position entry names, with the tag of its piece (R94). -/
def claimOf (e : TrackEntry) : Option (Nat × Nat) := (pieceOf e).bind orderOf

/-- The orders that the pieces of a track name, oldest piece first. -/
def claims (t : List TrackEntry) : List (Nat × Nat) := (t.filterMap claimOf).reverse

/-- The orders of a queue that belong to pieces, in its order. -/
def liveOrders (os : List Order) : List (Nat × Nat) := (os.filter isLive).map fun o => (o.number, o.tag)

/-- The claims or the live orders without those of one number. -/
def withoutNumber (n : Nat) (l : List (Nat × Nat)) : List (Nat × Nat) := l.filter fun c => c.1 ≠ n

theorem claims_eq (s : State) : claims s.track = (pieces s).reverse.filterMap orderOf := by
  rw [claims, pieces, List.filterMap_reverse, List.filterMap_filterMap]
  rfl

theorem exists_split_of_getElem? {α : Type} {t : List α} {p : Nat} {e : α} (h : t[p]? = some e) :
    ∃ a b, t = a ++ e :: b ∧ ∀ x, t.set p x = a ++ x :: b := by
  induction t generalizing p with
  | nil => simp at h
  | cons y t ih =>
    cases p with
    | zero =>
      obtain rfl := Option.some.inj h
      exact ⟨[], t, rfl, fun _ => rfl⟩
    | succ p =>
      obtain ⟨a, b, rfl, hset⟩ := ih (by simpa using h)
      exact ⟨y :: a, b, rfl, fun x => by rw [List.set_cons_succ, hset, List.cons_append]⟩

theorem claims_append (a b : List TrackEntry) : claims (a ++ b) = claims b ++ claims a := by
  simp [claims]

theorem claims_cons (e : TrackEntry) (t : List TrackEntry) : claims (e :: t) = claims t ++ (claimOf e).toList := by
  cases h : claimOf e <;> simp [claims, h]

theorem withoutNumber_append (n : Nat) (l m : List (Nat × Nat)) :
    withoutNumber n (l ++ m) = withoutNumber n l ++ withoutNumber n m := List.filter_append ..

theorem withoutNumber_of_not_mem {n : Nat} {l : List (Nat × Nat)} (h : n ∉ l.map Prod.fst) : withoutNumber n l = l :=
  List.filter_eq_self.mpr fun _ hc => decide_eq_true fun e => h (e ▸ List.mem_map_of_mem hc)

/-- A piece's claim given up. -/
theorem claims_set_of_claim {t : List TrackEntry} {p n g : Nat} {e x : TrackEntry} (h : t[p]? = some e)
    (he : claimOf e = some (n, g)) (hx : claimOf x = none) (hnd : ((claims t).map Prod.fst).Nodup) :
    claims (t.set p x) = withoutNumber n (claims t) := by
  obtain ⟨a, b, rfl, hset⟩ := exists_split_of_getElem? h
  have hclaims : claims (a ++ e :: b) = claims b ++ (n, g) :: claims a := by
    rw [claims_append, claims_cons, he]
    simp
  rw [hclaims, List.map_append, List.map_cons, List.nodup_append, List.nodup_cons] at hnd
  obtain ⟨-, ⟨ha, -⟩, hdisjoint⟩ := hnd
  have hb : n ∉ (claims b).map Prod.fst := fun hm => hdisjoint n hm n List.mem_cons_self rfl
  rw [hset, hclaims, claims_append, claims_cons, hx, withoutNumber_append, withoutNumber_of_not_mem hb]
  simp only [Option.toList_none, List.append_nil]
  rw [withoutNumber, List.filter_cons_of_neg (by simp), ← withoutNumber, withoutNumber_of_not_mem ha]

/-- An entry replaced by one that names the same order. -/
theorem claims_set_of_same {t : List TrackEntry} {p : Nat} {e x : TrackEntry} (h : t[p]? = some e)
    (hx : claimOf x = claimOf e) : claims (t.set p x) = claims t := by
  obtain ⟨a, b, rfl, hset⟩ := exists_split_of_getElem? h
  rw [hset, claims_append, claims_append, claims_cons, claims_cons, hx]

theorem claims_of_map {t u : List TrackEntry} (h : u.map claimOf = t.map claimOf) : claims u = claims t := by
  have hmap (l : List TrackEntry) : l.filterMap claimOf = (l.map claimOf).filterMap id := by
    rw [List.filterMap_map]
    rfl
  rw [claims, claims, hmap, hmap, h]

theorem mem_claims {t : List TrackEntry} {c : Nat × Nat} :
    c ∈ claims t ↔ ∃ (p : Nat) (x : Piece), t[p]? = some (.piece x) ∧ orderOf x = some c := by
  simp only [claims, List.mem_reverse, List.mem_filterMap, claimOf, Option.bind_eq_some_iff]
  constructor
  · rintro ⟨e, he, x, hx, hc⟩
    obtain ⟨p, hp⟩ := List.getElem?_of_mem he
    cases e with
    | piece y =>
      obtain rfl := Option.some.inj hx
      exact ⟨p, y, hp, hc⟩
    | _ => simp [pieceOf] at hx
  · rintro ⟨p, x, hp, hc⟩
    exact ⟨_, List.mem_of_getElem? hp, x, rfl, hc⟩

theorem claims_eq_nil_iff {t : List TrackEntry} :
    claims t = [] ↔ ∀ (p : Nat) (x : Piece), t[p]? = some (.piece x) → x.carrier = none := by
  rw [List.eq_nil_iff_forall_not_mem]
  constructor
  · intro h p x hx
    cases hc : x.carrier with
    | none => rfl
    | some n => exact absurd (mem_claims.mpr ⟨p, x, hx, by simp [orderOf, hc]⟩) (h (n, x.tag))
  · rintro h c hc
    obtain ⟨p, x, hx, ho⟩ := mem_claims.mp hc
    simp [orderOf, h p x hx] at ho

theorem claimOf_of_essence {e x : TrackEntry} (h : essence x = essence e) : claimOf x = claimOf e := by
  have hread (e : TrackEntry) : claimOf e = (essence e).bind fun c => c.2.2.1.map fun n => (n, c.2.2.2) := by
    cases e <;> rfl
  rw [hread, hread, h]

/-- The owner of a number is the one piece that names it. -/
theorem eq_of_claim {t : List TrackEntry} {p q n g k : Nat} {x y : Piece} (hnd : ((claims t).map Prod.fst).Nodup)
    (hp : t[p]? = some (.piece x)) (hq : t[q]? = some (.piece y)) (hx : orderOf x = some (n, g))
    (hy : orderOf y = some (n, k)) : p = q := by
  by_contra hne
  have hnd' := hnd
  obtain ⟨a, b, rfl, hset⟩ := exists_split_of_getElem? hp
  have hcleared : claims ((a ++ .piece x :: b).set p (.empty none 0)) = withoutNumber n (claims (a ++ .piece x :: b)) :=
    claims_set_of_claim hp (by exact hx) rfl hnd
  have hmem : (n, k) ∈ claims ((a ++ .piece x :: b).set p (.empty none 0)) :=
    mem_claims.mpr ⟨q, y, by rwa [List.getElem?_set_ne hne], hy⟩
  rw [hcleared] at hmem
  simpa using of_decide_eq_true (List.mem_filter.mp hmem).2

/-- The last claim replaced by another: it stays the last. -/
theorem claims_set_last {t : List TrackEntry} {p n g : Nat} {e y : TrackEntry} {c : Nat × Nat} (h : t[p]? = some e)
    (he : claimOf e = some (n, g)) (hy : claimOf y = some c) (hlast : (claims t).getLast?.map Prod.fst = some n)
    (hnd : ((claims t).map Prod.fst).Nodup) : claims (t.set p y) = withoutNumber n (claims t) ++ [c] := by
  obtain ⟨a, b, rfl, hset⟩ := exists_split_of_getElem? h
  have hclaims : claims (a ++ e :: b) = claims b ++ (n, g) :: claims a := by
    rw [claims_append, claims_cons, he]
    simp
  rw [hclaims, List.map_append, List.map_cons, List.nodup_append, List.nodup_cons] at hnd
  obtain ⟨-, ⟨ha, -⟩, hdisjoint⟩ := hnd
  have hb : n ∉ (claims b).map Prod.fst := fun hm => hdisjoint n hm n List.mem_cons_self rfl
  have hnil : claims a = [] := by
    rcases List.eq_nil_or_concat (claims a) with hnil | ⟨l, z, hz⟩
    · exact hnil
    · rw [hclaims, hz, List.concat_eq_append, ← List.cons_append, ← List.append_assoc, List.getLast?_concat] at hlast
      refine absurd ?_ ha
      rw [hz, ← Option.some.inj hlast]
      simp
  rw [hset, hclaims, hnil, claims_append, claims_cons, hy, hnil, withoutNumber_append, withoutNumber_of_not_mem hb]
  simp [withoutNumber]

/-! ## The live orders of a queue -/

theorem liveOrders_append (os ps : List Order) : liveOrders (os ++ ps) = liveOrders os ++ liveOrders ps := by
  simp [liveOrders]

theorem mem_liveOrders {os : List Order} {c : Nat × Nat} :
    c ∈ liveOrders os ↔ ∃ o ∈ os, isLive o = true ∧ (o.number, o.tag) = c := by
  simp [liveOrders, and_assoc]

theorem numbers_liveOrders (os : List Order) : ((liveOrders os).map Prod.fst).Sublist (os.map Order.number) := by
  rw [liveOrders, List.map_map]
  exact List.filter_sublist.map _

/-- An order leaves the queue. -/
theorem liveOrders_filter (n : Nat) (os : List Order) :
    liveOrders (os.filter fun o => o.number ≠ n) = withoutNumber n (liveOrders os) := by
  simp only [liveOrders, withoutNumber, List.filter_map, List.filter_filter]
  congr 1
  exact List.filter_congr fun o _ => by simp [Bool.and_comm]

/-- The state of an order changes, its piece's as before. -/
theorem liveOrders_map_same {os : List Order} {f : Order → Order}
    (hf : ∀ o ∈ os, isLive (f o) = isLive o ∧ (f o).number = o.number ∧ (f o).tag = o.tag) :
    liveOrders (os.map f) = liveOrders os := by
  induction os with
  | nil => rfl
  | cons o os ih =>
    obtain ⟨hlive, hnum, htag⟩ := hf o List.mem_cons_self
    have hrest := ih fun x hx => hf x (List.mem_cons_of_mem o hx)
    simp only [liveOrders] at hrest
    by_cases hl : isLive o = true
    · simp [liveOrders, hlive, hl, hnum, htag, hrest]
    · simp [liveOrders, hlive, hl, hrest]

/-- The order of a number ceases to be a piece's. -/
theorem liveOrders_map_given {os : List Order} {n : Nat} {x : OrderState}
    (hx : ∀ o : Order, isLive { o with state := x } = false) :
    liveOrders (os.map fun o => if o.number = n then { o with state := x } else o) = withoutNumber n (liveOrders os) := by
  induction os with
  | nil => rfl
  | cons o os ih =>
    rw [List.map_cons, ← List.singleton_append, liveOrders_append, ih, ← List.singleton_append (l := os),
      liveOrders_append, withoutNumber_append]
    congr 1
    by_cases hn : o.number = n
    · have hgiven : isLive { number := n, tag := o.tag, state := x } = false := hx { o with number := n }
      by_cases hl : isLive o = true <;> simp [liveOrders, withoutNumber, hn, hgiven, hl]
    · by_cases hl : isLive o = true <;> simp [liveOrders, withoutNumber, hn, hl]

end Sys2Proof.Machine


/-! The live orders stand in the entry order of their pieces (R94): what the carrier unit's operations keep. -/

namespace Sys2Proof.Machine

/-- The live orders of a queue of distinct numbers are the claims of the pieces, none of which stands more than `k`
positions past the applicator; and the next number is new, where `fresh` (R93, R94). -/
structure OrdersKept (fresh : Prop) (k : Nat) (s : State) : Prop where
  claims : claims s.track = liveOrders s.carrier.queue
  behind : ∀ q x, pieceAt q s = some x → x.carrier ≠ none → q ≤ (geometryItems s).applicator + k
  distinct : (orderNumbers s).Nodup
  new : fresh → s.carrier.nextOrder ∉ orderNumbers s

theorem ordersKept_iff (s : State) : OrdersKept True 0 s ↔ OrdersMatchPieces s ∧ OrdersDistinct s := by
  constructor
  · rintro ⟨hclaims, hbehind, hnd, hnew⟩
    exact ⟨⟨(claims_eq s).symm.trans hclaims, hbehind⟩, hnd, hnew trivial⟩
  · rintro ⟨⟨hclaims, hbehind⟩, hnd, hnew⟩
    exact ⟨(claims_eq s).trans hclaims, hbehind, hnd, fun _ => hnew⟩

theorem getElem?_of_map {β : Type} {t x : List TrackEntry} {g : TrackEntry → β} (h : x.map g = t.map g) {p : Nat}
    {e : TrackEntry} (he : x[p]? = some e) : ∃ a, t[p]? = some a ∧ g a = g e := by
  have hp : (t.map g)[p]? = some (g e) := by rw [← h, List.getElem?_map, he]; rfl
  rw [List.getElem?_map] at hp
  exact Option.map_eq_some_iff.mp hp

theorem sublist_of_eq {α : Type} {l m : List α} (h : l = m) : l.Sublist m := h ▸ List.Sublist.refl l

theorem ordersKept_storeFree (fresh : Prop) (k : Nat) : StoreFree (OrdersKept fresh k) where
  pins h _ := ⟨h.1, h.2, h.3, h.4⟩
  pending h _ := ⟨h.1, h.2, h.3, h.4⟩
  calls h _ := ⟨h.1, h.2, h.3, h.4⟩
  free h _ := ⟨h.1, h.2, h.3, h.4⟩
  link h _ _ := ⟨h.1, h.2, h.3, h.4⟩
  claim h _ := ⟨h.1, h.2, h.3, h.4⟩
  gate h _ _ _ := ⟨h.1, h.2, h.3, h.4⟩
  latch h := ⟨h.1, h.2, h.3, h.4⟩
  unlatch h := ⟨h.1, h.2, h.3, h.4⟩
  fault h _ _ := ⟨h.1, h.2, h.3, h.4⟩
  stations h _ := ⟨h.1, h.2, h.3, h.4⟩
  lines h _ _ := ⟨h.1, h.2, h.3, h.4⟩
  verify h _ _ := ⟨h.1, h.2, h.3, h.4⟩
  entry h _ _ := ⟨h.1, h.2, h.3, h.4⟩
  reg h _ _ := ⟨h.1, h.2, h.3, h.4⟩
  disp h _ _ := ⟨h.1, h.2, h.3, h.4⟩
  track h x hx := by
    refine ⟨(claims_of_map ?_).trans h.claims, fun q y hy hc => ?_, h.distinct, h.new⟩
    · have hcongr (l : List TrackEntry) : l.map claimOf = (l.map essence).map
          fun e => e.bind fun c => c.2.2.1.map fun n => (n, c.2.2.2) := by
        rw [List.map_map]
        exact List.map_congr_left fun e _ => by cases e <;> rfl
      rw [State.setTrack_track, hcongr, hcongr, hx]
    · obtain ⟨a, ha, hay⟩ := getElem?_of_map hx (pieceAt_eq_some_iff.mp hy)
      cases a with
      | piece z =>
        refine h.behind q z (pieceAt_eq_some_iff.mpr ha) ?_
        have hzy : z.carrier = y.carrier := by
          simp only [essence, pieceOf, Option.map_some, Option.some.injEq, Prod.mk.injEq] at hay
          exact hay.2.2.1
        rwa [hzy]
      | _ => simp [essence, pieceOf] at hay
  bundle h _ _ _ := ⟨h.1, h.2, h.3, h.4⟩
  removeBundle h _ := ⟨h.1, h.2, h.3, h.4⟩
  job h _ _ _ _ := ⟨h.1, h.2, h.3, h.4⟩
  store h _ _ := ⟨h.1, h.2, h.3, h.4⟩

namespace OrdersKept

variable {fresh : Prop} {k : Nat} {s : State}

theorem congr {t : State} (h : OrdersKept fresh k s) (ht : t.track = s.track) (hc : t.carrier = s.carrier)
    (hs : t.setup = s.setup) : OrdersKept fresh k t := by
  obtain ⟨hclaims, hbehind, hnd, hnew⟩ := h
  constructor
  · rw [ht, hc]; exact hclaims
  · simpa only [pieceAt, geometryItems, ht, hs] using hbehind
  · simpa only [orderNumbers, hc] using hnd
  · simpa only [orderNumbers, hc] using hnew

theorem weaken (h : OrdersKept fresh k s) : OrdersKept False k s := ⟨h.claims, h.behind, h.distinct, False.elim⟩

theorem nodup_claims (h : OrdersKept fresh k s) : ((Machine.claims s.track).map Prod.fst).Nodup := by
  rw [h.claims]
  exact h.distinct.sublist (numbers_liveOrders _)

/-- Nothing in the queue and no claim. -/
theorem of_nothing (hq : s.carrier.queue = []) (hc : ∀ q x, pieceAt q s = some x → x.carrier = none) :
    OrdersKept fresh k s where
  claims := by
    rw [hq]
    exact claims_eq_nil_iff.mpr fun p x hx => hc p x (pieceAt_eq_some_iff.mpr hx)
  behind q x hx hn := absurd (hc q x hx) hn
  distinct := by simp [orderNumbers, hq]
  new _ := by simp [orderNumbers, hq]

theorem of_no_pieces (hq : s.carrier.queue = []) (hp : pieces s = []) : OrdersKept fresh k s := by
  refine of_nothing hq fun q x hx => ?_
  exact absurd (pieceAt_eq_some_iff.mp hx) ((no_pieces_iff _).mp hp q x)

/-! ## Orders that change -/

/-- The queue changes and its live orders stay. -/
theorem setCarrier (h : OrdersKept fresh k s) (c : CarrierUnit)
    (hl : liveOrders c.queue = liveOrders s.carrier.queue) (hn : (c.queue.map Order.number).Sublist (orderNumbers s))
    (hnext : c.nextOrder = s.carrier.nextOrder) : OrdersKept fresh k (s.setCarrier c) where
  claims := h.claims.trans hl.symm
  behind := h.behind
  distinct := h.distinct.sublist hn
  new hf hm := h.new hf (hn.subset (hnext ▸ hm))

/-- A piece's claim and its live order go together. -/
theorem clear (h : OrdersKept fresh k s) {p n : Nat} {x y : Piece} (hx : pieceAt p s = some x)
    (hc : x.carrier = some n) (hy : y.carrier = none) (c : CarrierUnit)
    (hl : liveOrders c.queue = withoutNumber n (liveOrders s.carrier.queue))
    (hn : (c.queue.map Order.number).Sublist (orderNumbers s)) (hnext : c.nextOrder = s.carrier.nextOrder) :
    OrdersKept fresh k ((s.setTrack (s.track.set p (.piece y))).setCarrier c) where
  claims := by
    rw [State.setCarrier_track, State.setTrack_track, State.setCarrier_carrier, hl, ← h.claims]
    exact claims_set_of_claim (g := x.tag) (pieceAt_eq_some_iff.mp hx) (by simp [claimOf, pieceOf, orderOf, hc])
      (by simp [claimOf, pieceOf, orderOf, hy]) h.nodup_claims
  behind q z hz hzc := by
    rw [pieceAt_eq_some_iff] at hz
    by_cases hq : p = q
    · subst hq
      obtain ⟨hlt, -⟩ := List.getElem?_eq_some_iff.mp (pieceAt_eq_some_iff.mp hx)
      simp only [State.setCarrier_track, State.setTrack_track, List.getElem?_set_self hlt, Option.some.injEq,
        TrackEntry.piece.injEq] at hz
      exact absurd (hz ▸ hy) hzc
    · rw [State.setCarrier_track, State.setTrack_track, List.getElem?_set_ne hq] at hz
      exact h.behind q z (pieceAt_eq_some_iff.mpr hz) hzc
  distinct := h.distinct.sublist hn
  new hf hm := h.new hf (hn.subset (hnext ▸ hm))

/-- The order of a piece that names one stands in the queue, and is live. -/
theorem isLive_of_claim (h : OrdersKept fresh k s) {p : Nat} {x : Piece} {o : Order} (hx : pieceAt p s = some x)
    (hc : x.carrier = some o.number) (ho : findOrder o.number s = some o) : isLive o = true := by
  have hmem : (o.number, x.tag) ∈ liveOrders s.carrier.queue := by
    rw [← h.claims]
    exact mem_claims.mpr ⟨p, x, pieceAt_eq_some_iff.mp hx, by simp [orderOf, hc]⟩
  obtain ⟨a, ha, hlive, hao⟩ := mem_liveOrders.mp hmem
  obtain ⟨hmo, -⟩ := findOrder_mem ho
  rwa [← eq_of_number h.distinct ha hmo (congrArg Prod.fst hao)]

theorem removeOrder_of_dead (h : OrdersKept fresh k s) {n : Nat} {o : Order} (ho : findOrder n s = some o)
    (hl : isLive o = false) : OrdersKept fresh k (removeOrder n s) := by
  obtain ⟨hmem, hn⟩ := findOrder_mem ho
  refine h.setCarrier _ ((liveOrders_filter n _).trans (withoutNumber_of_not_mem fun hm => ?_))
    (List.filter_sublist.map _) rfl
  obtain ⟨c, hc, hcn⟩ := List.mem_map.mp hm
  obtain ⟨a, ha, hlive, rfl⟩ := mem_liveOrders.mp hc
  rw [eq_of_number h.distinct ha hmem (hcn.trans hn.symm), hl] at hlive
  exact absurd hlive (by simp)

theorem setOrderState_of_same (h : OrdersKept fresh k s) {n : Nat} {o : Order} (ho : findOrder n s = some o)
    {x : OrderState} (hl : isLive { o with state := x } = isLive o) : OrdersKept fresh k (setOrderState n x s) := by
  obtain ⟨hmem, hn⟩ := findOrder_mem ho
  refine h.setCarrier _ (liveOrders_map_same fun y hy => ?_) (sublist_of_eq (map_number_setState n x _)) rfl
  split
  · next hyn =>
    obtain rfl := eq_of_number h.distinct hy hmem (hyn.trans hn.symm)
    exact ⟨hl, rfl, rfl⟩
  · exact ⟨rfl, rfl, rfl⟩

theorem giveUpOrder (h : OrdersKept fresh k s) {p : Nat} {x : Piece} {o : Order} (hx : pieceAt p s = some x)
    (hc : x.carrier = some o.number) (ho : findOrder o.number s = some o) :
    OrdersKept fresh k (giveUpOrder p o.number o s) := by
  have hlive := h.isLive_of_claim hx hc ho
  have hgiven (st : OrderState) (hst : ∀ y : Order, isLive { y with state := st } = false) :
      OrdersKept fresh k ((s.setTrack (s.track.set p (.piece { x with carrier := none }))).setCarrier { s.carrier with
        queue := s.carrier.queue.map fun y => if y.number = o.number then { y with state := st } else y }) :=
    h.clear hx hc rfl _ (liveOrders_map_given hst) (sublist_of_eq (map_number_setState o.number st _)) rfl
  cases hs : o.state with
  | issued =>
    rw [giveUpOrder_of_issued hx _ hs]
    exact (ordersKept_storeFree fresh k).post (hgiven .withdrawing fun _ => rfl) _ _
  | printed =>
    rw [giveUpOrder_of_printed hx _ hs]
    exact hgiven .waste fun _ => rfl
  | withdrawing => simp [isLive, hs] at hlive
  | wastePending => simp [isLive, hs] at hlive
  | waste => simp [isLive, hs] at hlive

theorem voidCarrier (h : OrdersKept fresh k s) {n p : Nat} {x : Piece} (hx : orderOwner n s = some (p, x)) :
    OrdersKept fresh k (voidCarrier n p s) := by
  obtain ⟨hp, hc⟩ := pieceAt_of_orderOwner hx
  refine (ordersKept_storeFree fresh k).raiseOnPiece ?_ _ _ _
  rw [removeOrder, updatePiece_setCarrier, updatePiece_of_some hp]
  exact h.clear hp hc rfl _ (liveOrders_filter n _) (List.filter_sublist.map _) rfl

theorem takeHead_of_dead (h : OrdersKept fresh k s) {o : Order} (ho : s.carrier.queue.head? = some o)
    (hl : isLive o = false) : OrdersKept fresh k (takeHead s) := by
  obtain ⟨rest, hq⟩ := List.head?_eq_some_iff.mp ho
  refine h.setCarrier _ ?_ ((List.tail_sublist _).map _) rfl
  simp [liveOrders, hq, hl]

theorem applyCarrier (h : OrdersKept fresh k s) {p : Nat} {x : Piece} {o : Order} (hx : pieceAt p s = some x)
    (hc : x.carrier = some o.number) (ho : s.carrier.queue.head? = some o) :
    OrdersKept fresh k (applyCarrier p o.number s) := by
  obtain ⟨rest, hq⟩ := List.head?_eq_some_iff.mp ho
  have hnd := h.distinct
  rw [orderNumbers, hq, List.map_cons, List.nodup_cons] at hnd
  have hrest : s.carrier.queue.filter (fun y => y.number ≠ o.number) = s.carrier.queue.tail := by
    rw [hq, List.filter_cons_of_neg (by simp), List.tail_cons]
    exact List.filter_eq_self.mpr fun y hy => decide_eq_true fun e : y.number = o.number =>
      hnd.1 (e ▸ List.mem_map_of_mem hy)
  have hcleared := h.clear (y := { x with fate := .applied, carrier := none, applied := some o.number }) hx hc rfl
    { s.carrier with queue := s.carrier.queue.tail, printedCount := s.carrier.printedCount - 1 }
    (hrest ▸ liveOrders_filter o.number _) ((List.tail_sublist _).map _) rfl
  have hup : Machine.applyCarrier p o.number s = ((s.setTrack (s.track.set p (.piece
      { x with fate := .applied, carrier := none, applied := some o.number }))).setCarrier
      { s.carrier with queue := s.carrier.queue.tail, printedCount := s.carrier.printedCount - 1 }).setLines
        { s.lines with apply := some (s.reg.phase + (geometryItems s).applyWidth) } := by
    rw [Machine.applyCarrier]
    refine (updatePiece_of_some (x := x) ?_ _).trans rfl
    exact hx
  rw [hup]
  exact hcleared.congr rfl rfl rfl

/-! ## HOLD and the loss of registration -/

theorem enterHold (h : OrdersKept fresh k s) (c : HoldCause) : OrdersKept fresh k (enterHold c s) := by
  by_cases hm : s.carrier.mode = .run
  · have hq : (Machine.enterHold c s).carrier.queue = [] := by
      rw [enterHold_of_run hm]
      simp [(heldUp_rules c s).1]
    have hd := discarded_discardOrders s.carrier.queue (holding c s)
    refine of_nothing hq fun q y hy => ?_
    rw [pieceAt_congr (enterHold_track hm)] at hy
    cases hx : pieceAt q s with
    | none => rw [pieceAt_of_entryAt (hd.none q hx), show pieceAt q (holding c s) = none from hx] at hy; simp at hy
    | some x =>
      cases hc : x.carrier with
      | none =>
        obtain ⟨z, hz, hxz⟩ := hd.some q x hx
        obtain rfl := Option.some.inj (hz.symm.trans hy)
        rw [hxz.unclaimed hc, hc]
      | some n =>
        have hmem : (n, x.tag) ∈ Machine.claims s.track :=
          mem_claims.mpr ⟨q, x, pieceAt_eq_some_iff.mp hx, by simp [orderOf, hc]⟩
        rw [h.claims] at hmem
        obtain ⟨o, ho, -, hon⟩ := mem_liveOrders.mp hmem
        obtain ⟨rfl, -⟩ := Prod.mk.inj hon
        have hown : orderOwner o.number s = some (q, x) := by
          refine orderOwner_eq_some_iff.mpr ⟨hx, hc, fun p hp z hz hzc => ?_⟩
          have hpq := eq_of_claim h.nodup_claims (pieceAt_eq_some_iff.mp hz) (pieceAt_eq_some_iff.mp hx)
            (n := o.number) (g := z.tag) (k := x.tag) (by simp [orderOf, hzc]) (by simp [orderOf, hc])
          exact absurd hpq (Nat.ne_of_lt hp)
        obtain ⟨z, hz, hun, -⟩ := unclaimed_discardOrders (s := holding c s) ho hown
        obtain rfl := Option.some.inj (hz.symm.trans hy)
        exact hun
  · rwa [enterHold_of_hold hm]

theorem holdOnReport (h : OrdersKept fresh k s) (f : FaultKind) (c : HoldCause) :
    OrdersKept fresh k (holdOnReport f c s) :=
  ((ordersKept_storeFree fresh k).raise h _).enterHold c

end OrdersKept

end Sys2Proof.Machine


/-! Every step keeps the live orders with their pieces (O55). -/

namespace Sys2Proof.Machine

namespace OrdersKept

variable {fresh : Prop} {k : Nat} {s : State}

/-! ## The printer's reports -/

theorem strayReport (h : OrdersKept fresh k s) : OrdersKept fresh k (strayReport .carrier s) :=
  (ordersKept_storeFree fresh k).strayReport h _

theorem reportPrinted (h : OrdersKept fresh k s) (n : Nat) : OrdersKept fresh k (reportPrinted n s) := by
  cases ho : findOrder n s with
  | none => rw [reportPrinted_of_unknown ho]; exact h.holdOnReport _ _
  | some o =>
    by_cases hold : oldestUnprinted s = some n
    · rw [reportPrinted_of_oldest ho hold]
      split
      · obtain ⟨x, hx, hxn⟩ := Option.map_eq_some_iff.mp hold
        obtain ⟨hmem, hn⟩ := findOrder_mem ho
        have hun : isUnprinted o = true := by
          rw [eq_of_number h.distinct hmem (List.mem_of_find?_eq_some hx) (hn.trans hxn.symm)]
          exact List.find?_some hx
        have hset : OrdersKept fresh k (setOrderState n (printedState o) s) := by
          refine h.setOrderState_of_same ho ?_
          unfold isUnprinted at hun
          unfold isLive printedState
          cases hs : o.state <;> simp_all
        exact hset.setCarrier _ rfl (List.Sublist.refl _) rfl
      · exact h.holdOnReport _ _
    · rw [reportPrinted_of_later ho hold]
      exact h.holdOnReport _ _

/-- A reprinted order comes to the tail, as its piece is the youngest that names one (R100). -/
theorem reprint (h : OrdersKept True 0 s) {n p : Nat} {x : Piece} {o : Order} (hown : orderOwner n s = some (p, x))
    (ho : findOrder n s = some o) (hs : o.state = .issued)
    (hlast : s.carrier.queue.getLast?.map Order.number = some n) : OrdersKept False 0 (reprint n p x s) := by
  obtain ⟨hx, hc⟩ := pieceAt_of_orderOwner hown
  obtain ⟨hmem, hn⟩ := findOrder_mem ho
  have hclaim : claimOf (.piece x) = some (n, x.tag) := by simp [claimOf, pieceOf, orderOf, hc]
  have hlive : (Machine.claims s.track).getLast?.map Prod.fst = some n := by
    obtain ⟨a, ha, han⟩ := Option.map_eq_some_iff.mp hlast
    obtain ⟨os, hos⟩ := List.getLast?_eq_some_iff.mp ha
    obtain rfl := eq_of_number h.distinct hmem (List.mem_of_getLast? ha) (hn.trans han.symm)
    rw [h.claims, hos, liveOrders_append]
    simp [liveOrders, isLive, hs, hn]
  rw [reprint_eq, updatePiece_of_some hx]
  refine (ordersKept_storeFree False 0).post ⟨?_, fun q y hy hyc => ?_, ?_, False.elim⟩ _ _
  · rw [State.setCarrier_track, State.setTrack_track, claims_set_last (pieceAt_eq_some_iff.mp hx) hclaim
      (c := (s.carrier.nextOrder, x.tag)) rfl hlive h.nodup_claims, State.setCarrier_carrier, liveOrders_append,
      liveOrders_filter, h.claims]
    rfl
  · by_cases hq : q = p
    · subst hq
      exact h.behind q x hx (by simp [hc])
    · rw [pieceAt_eq_some_iff, State.setCarrier_track, State.setTrack_track, List.getElem?_set_ne (Ne.symm hq)] at hy
      exact h.behind q y (pieceAt_eq_some_iff.mpr hy) hyc
  · have hnew := h.new trivial
    simp only [orderNumbers, State.setCarrier_carrier, List.map_append, List.map_cons, List.map_nil]
    refine (h.distinct.sublist (List.filter_sublist.map _)).append (List.nodup_singleton _) ?_
    rw [List.disjoint_singleton]
    exact fun hm => hnew ((List.filter_sublist.map _).subset hm)

theorem reportSpoiled (h : OrdersKept True 0 s) (n : Nat) : OrdersKept False 0 (reportSpoiled n s) := by
  cases ho : findOrder n s with
  | none => simpa [Machine.reportSpoiled, ho] using h.strayReport.weaken
  | some o =>
    rw [reportSpoiled_of_some ho]
    split
    · next hs =>
      cases hown : orderOwner n s with
      | none =>
        have hno : n ∉ (Machine.claims s.track).map Prod.fst := fun hm => by
          obtain ⟨c, hc, rfl⟩ := List.mem_map.mp hm
          obtain ⟨p, x, hx, hxc⟩ := mem_claims.mp hc
          obtain ⟨m, hcarrier, rfl⟩ := Option.map_eq_some_iff.mp hxc
          exact orderOwner_eq_none_iff.mp hown p x (pieceAt_eq_some_iff.mpr hx) hcarrier
        have hspoil : spoilIssued n s = removeOrder n s := by simp only [spoilIssued, hown]
        rw [hspoil, removeOrder]
        refine OrdersKept.weaken (fresh := True) (h.setCarrier _ ((liveOrders_filter n _).trans ?_)
          (List.filter_sublist.map _) rfl)
        rw [← h.claims, withoutNumber_of_not_mem hno]
      | some e =>
        obtain ⟨p, x⟩ := e
        rw [spoilIssued_of_owner hown]
        split
        · next hdue => exact h.reprint hown ho hs (reprintDue_iff.mp hdue).1
        · exact (h.voidCarrier hown).weaken
    · split
      · next hs => exact (h.removeOrder_of_dead ho (by simp [isLive, hs])).weaken
      · exact h.strayReport.weaken

theorem reportWithdrawn (h : OrdersKept fresh k s) (n : Nat) : OrdersKept fresh k (reportWithdrawn n s) := by
  cases ho : findOrder n s with
  | none => simpa [Machine.reportWithdrawn, ho] using h.strayReport
  | some o =>
    rw [reportWithdrawn_of_some ho]
    split
    · next hs => exact h.removeOrder_of_dead ho (by simp [isLive, hs])
    · split
      · exact h.holdOnReport _ _
      · exact h.strayReport

theorem reportLate (h : OrdersKept fresh k s) (n : Nat) : OrdersKept fresh k (reportLate n s) := by
  cases ho : findOrder n s with
  | none => simpa [Machine.reportLate, ho] using h.strayReport
  | some o =>
    rw [reportLate_of_some ho]
    split
    · next hs => exact h.setOrderState_of_same ho (by simp [isLive, hs])
    · split
      · exact h
      · exact h.strayReport

/-! ## The phase events and the settlement -/

theorem dumpPhase (h : OrdersKept fresh k s) : OrdersKept fresh k (dumpPhase s) := by
  unfold Machine.dumpPhase
  split
  · next o _ ho =>
    split
    · next hs =>
      have hl : OrdersKept fresh k (s.setLines { s.lines with dump := some (s.reg.phase + (geometryItems s).dumpWidth) }) :=
        h.congr rfl rfl rfl
      exact hl.takeHead_of_dead ho (by simp [isLive, hs])
    · exact h
  · exact h

theorem starvePiece (h : OrdersKept fresh k s) (p : Nat) : OrdersKept fresh k (starvePiece p s) :=
  (ordersKept_storeFree fresh k).starvePiece h p

/-- A live order of a piece is the one its carrier field names. -/
theorem carrier_of_liveOrder {p : Nat} {x : Piece} {o : Order} (hx : pieceAt p s = some x)
    (ho : liveOrder p s = some o) : x.carrier = some o.number := by
  rw [liveOrder_of_piece hx] at ho
  obtain ⟨n, hn, hf⟩ := Option.bind_eq_some_iff.mp ho
  rw [hn, (findOrder_mem hf).2]

theorem starveAtApply (h : OrdersKept fresh k s) {p : Nat} {x : Piece} (hx : pieceAt p s = some x) :
    OrdersKept fresh k (starveAtApply p s) := by
  have hs := h.starvePiece p
  obtain ⟨hpiece, -, -, -⟩ := starvePiece_rules hx
  unfold Machine.starveAtApply
  dsimp only
  split
  · exact hs
  · next o ho =>
    split
    · exact hs.giveUpOrder hpiece (carrier_of_liveOrder hpiece ho) (findOrder_of_liveOrder ho)
    · exact hs

theorem applyPhase (h : OrdersKept fresh k s) : OrdersKept fresh k (applyPhase s) := by
  unfold Machine.applyPhase
  dsimp only
  split
  · next x _ hx =>
    split
    · split
      · next n hhead hn =>
        obtain ⟨o, ho, hc, -⟩ := headIsPrintedFor_iff.mp hhead
        obtain rfl := Option.some.inj (hn.symm.trans hc)
        exact h.applyCarrier hx hc ho
      · exact h.starveAtApply hx
    · exact h
  · exact h

theorem liveOrder_of_claim (h : OrdersKept fresh k s) {p n : Nat} {x : Piece} (hx : pieceAt p s = some x)
    (hc : x.carrier = some n) : ∃ o, liveOrder p s = some o := by
  have hmem : (n, x.tag) ∈ liveOrders s.carrier.queue := by
    rw [← h.claims]
    exact mem_claims.mpr ⟨p, x, pieceAt_eq_some_iff.mp hx, by simp [orderOf, hc]⟩
  obtain ⟨o, ho, -, hon⟩ := mem_liveOrders.mp hmem
  rw [liveOrder_of_piece hx, hc, Option.bind_some]
  refine Option.isSome_iff_exists.mp (List.find?_isSome.mpr ⟨o, ho, ?_⟩)
  simpa using congrArg Prod.fst hon

theorem carrier_giveUpOrder {p n : Nat} {o : Order} {y : Piece} (hy : pieceAt p (Machine.giveUpOrder p n o s) = some y) :
    y.carrier = none := by
  have ht : (Machine.giveUpOrder p n o s).track = (updatePiece p (fun x => { x with carrier := none }) s).track := by
    unfold Machine.giveUpOrder
    dsimp only
    split <;> simp [setOrderState]
  rw [pieceAt_congr ht, pieceAt_updatePiece, if_pos rfl] at hy
  obtain ⟨x, -, rfl⟩ := Option.map_eq_some_iff.mp hy
  rfl

/-- With no claim one position past the applicator all claims stand before it. -/
theorem of_settled (h : OrdersKept fresh 1 s)
    (hp : ∀ y, pieceAt ((geometryItems s).applicator + 1) s = some y → y.carrier = none) : OrdersKept fresh 0 s :=
  { h with
    behind := fun q x hx hc => by
      have hle := h.behind q x hx hc
      have hne : q ≠ (geometryItems s).applicator + 1 := fun e => hc (hp x (e ▸ hx))
      omega }

end OrdersKept

/-- The piece that has just left the applicator starved, where it still waits (R106). -/
def starvedPast (x : Piece) (s : State) : State :=
  if x.fate = .awaiting then starvePiece ((geometryItems s).applicator + 1) s else s

section
variable {x : Piece} {s : State}

theorem settleCarrier_of_none (hx : pieceAt ((geometryItems s).applicator + 1) s = some x)
    (h : liveOrder ((geometryItems s).applicator + 1) (starvedPast x s) = none) : settleCarrier s = starvedPast x s := by
  unfold starvedPast at *
  simp only [settleCarrier, hx, h]

theorem settleCarrier_of_some {o : Order} (hx : pieceAt ((geometryItems s).applicator + 1) s = some x)
    (h : liveOrder ((geometryItems s).applicator + 1) (starvedPast x s) = some o) :
    settleCarrier s = giveUpOrder ((geometryItems s).applicator + 1) o.number o (starvedPast x s) := by
  unfold starvedPast at *
  simp only [settleCarrier, hx, h]

theorem geometryItems_starvedPast (x : Piece) (s : State) : geometryItems (starvedPast x s) = geometryItems s := by
  unfold starvedPast
  split <;> simp [geometryItems]

theorem pieceAt_starvedPast (hx : pieceAt ((geometryItems s).applicator + 1) s = some x) :
    ∃ y, pieceAt ((geometryItems s).applicator + 1) (starvedPast x s) = some y := by
  unfold starvedPast
  split
  · exact ⟨_, (starvePiece_rules hx).1⟩
  · exact ⟨x, hx⟩

end

namespace OrdersKept

variable {fresh : Prop} {k : Nat} {s : State}

/-- After the settlement no claim stands past the applicator (R106). -/
theorem settleCarrier (h : OrdersKept fresh 1 s) : OrdersKept fresh 0 (settleCarrier s) := by
  have hgeo : geometryItems (Machine.settleCarrier s) = geometryItems s := by simp [geometryItems]
  cases hx : pieceAt ((geometryItems s).applicator + 1) s with
  | none =>
    have hsame : Machine.settleCarrier s = s := by simp [Machine.settleCarrier, hx]
    rw [hsame]
    exact h.of_settled fun y hy => by simp [hx] at hy
  | some x =>
    have hu : OrdersKept fresh 1 (starvedPast x s) := by
      unfold starvedPast
      split
      · exact h.starvePiece _
      · exact h
    obtain ⟨y, hy⟩ := pieceAt_starvedPast hx
    cases ho : liveOrder ((geometryItems s).applicator + 1) (starvedPast x s) with
    | none =>
      rw [settleCarrier_of_none hx ho]
      refine hu.of_settled fun z hz => ?_
      rw [geometryItems_starvedPast, hy] at hz
      obtain rfl := Option.some.inj hz
      cases hc : y.carrier with
      | none => rfl
      | some n =>
        obtain ⟨o, hlive⟩ := hu.liveOrder_of_claim hy hc
        simp [ho] at hlive
    | some o =>
      have hg := hu.giveUpOrder hy (carrier_of_liveOrder hy ho) (findOrder_of_liveOrder ho)
      rw [settleCarrier_of_some hx ho] at hgeo ⊢
      exact hg.of_settled fun z hz => carrier_giveUpOrder (hgeo ▸ hz)

end OrdersKept

end Sys2Proof.Machine


/-! Every step keeps the live orders with their pieces (O55): the pitch boundary and the step. -/

namespace Sys2Proof.Machine

/-! ## The pocket at position 0 -/

/-- Position 0 stands in the track and holds no piece, as before the entry event of a boundary (R76). -/
def PocketFree (s : State) : Prop := ∃ e, s.track[0]? = some e ∧ pieceOf e = none

theorem pocketFree_of_map {β : Type} {t x : List TrackEntry} {g : TrackEntry → Option β}
    (hg : ∀ e, g e = none ↔ pieceOf e = none) (h : x.map g = t.map g) (ht : ∃ e, t[0]? = some e ∧ pieceOf e = none) :
    ∃ e, x[0]? = some e ∧ pieceOf e = none := by
  obtain ⟨e, he, hn⟩ := ht
  obtain ⟨a, ha, hae⟩ := getElem?_of_map h.symm he
  exact ⟨a, ha, (hg a).mp (hae.trans ((hg e).mpr hn))⟩

theorem pocketFree_storeFree : StoreFree PocketFree where
  pins h _ := h
  pending h _ := h
  calls h _ := h
  free h _ := h
  link h _ _ := h
  claim h _ := h
  gate h _ _ _ := h
  latch h := h
  unlatch h := h
  fault h _ _ := h
  stations h _ := h
  lines h _ _ := h
  verify h _ _ := h
  entry h _ _ := h
  reg h _ _ := h
  disp h _ _ := h
  track h _ hx := pocketFree_of_map essence_eq_none_iff hx h
  bundle h _ _ _ := h
  removeBundle h _ := h
  job h _ _ _ _ := h
  store h _ _ := h

theorem pocketFree_carrierFree : CarrierFree PocketFree where
  toQuiet := pocketFree_storeFree.toQuiet
  carrier h _ _ := h
  orders h _ hx := pocketFree_of_map recordEssence_eq_none_iff hx h
  anyLines h _ := h

theorem pocketFree_trackFree : TrackFree PocketFree where
  toQuiet := pocketFree_storeFree.toQuiet
  loss {s} h x hx := by
    obtain ⟨e, he, hn⟩ := h
    have hlt : 0 < x.length := hx.1 ▸ (List.getElem?_eq_some_iff.mp he).1
    refine ⟨x[0], List.getElem?_eq_getElem hlt, ?_⟩
    cases ha : x[0] with
    | piece y =>
      obtain ⟨z, hz⟩ := hx.2 0 y (ha ▸ List.getElem?_eq_getElem hlt)
      obtain rfl := Option.some.inj (he.symm.trans hz)
      simp [pieceOf] at hn
    | _ => rfl

theorem pocketFree_advance (s : State) : PocketFree (advanceTrack s) := ⟨.empty none 0, rfl, rfl⟩

theorem pocketFree_put {s : State} (h : PocketFree s) {e : TrackEntry} (he : pieceOf e = none) :
    PocketFree (setEntryAt 0 e s) := by
  obtain ⟨a, ha, -⟩ := h
  exact ⟨e, List.getElem?_set_self (List.getElem?_eq_some_iff.mp ha).1, he⟩

theorem pocketFree_disposition {s : State} (h : PocketFree s) : PocketFree (dispositionBoundary s) :=
  dispositionBoundary_of pocketFree_storeFree.work
    (fun h hd => takeArrival_of_free pocketFree_storeFree pocketFree_trackFree h hd) h

theorem claimOf_of_no_piece {e : TrackEntry} (h : pieceOf e = none) : claimOf e = none := by
  simp [claimOf, h]

/-! ## The gate -/

/-- The arrival at the gate, for an invariant that the piece there may leave. -/
theorem takeArrival_of {I : State → Prop} {s : State} (q : Quiet I) (h : I s) (hd : StoreFree.GateFree s.disp)
    (hdecide : ∀ x, pieceAt (geometryItems s).gate s = some x →
      I (decidePiece x (setEntryAt (geometryItems s).gate (.gated x.pocket x.tag) s))) : I (takeArrival s) := by
  unfold takeArrival
  dsimp only
  split
  · next x hx => exact hdecide x (pieceAt_eq_some_iff.mpr hx)
  · exact q.disp h _ (StoreFree.confirmsFit_due hd _)
  · exact h
  · exact h
  · exact h
  · exact h

/-- A track with a piece has the length of a geometry, whose positions are in order (R31, R92). -/
theorem geometry_of_piece {s : State} (h : TrackOk s) {p : Nat} {x : Piece} (hx : pieceAt p s = some x) :
    s.track.length = (geometryItems s).gate + 1 ∧ (geometryItems s).applicator + 1 < (geometryItems s).gate := by
  obtain ⟨hlt, -⟩ := List.getElem?_eq_some_iff.mp (pieceAt_eq_some_iff.mp hx)
  obtain ⟨hfit, hlen⟩ := h
  unfold geometryItems
  cases hg : s.setup.geometry with
  | none => rw [hlen, hg] at hlt; simp at hlt
  | some g =>
    obtain ⟨-, -, -, -, -, -, hwrap, -⟩ := (geometryInRange_iff g).mp (hfit g hg)
    refine ⟨by simpa [hg] using hlen, ?_⟩
    simp only [Option.getD_some]
    omega

namespace OrdersKept

variable {fresh : Prop} {k : Nat} {s : State}

/-- A piece at the gate names no order. -/
theorem carrier_at_gate (h : OrdersKept fresh k s) (hk : k ≤ 1) (ht : TrackOk s) {x : Piece}
    (hx : pieceAt (geometryItems s).gate s = some x) : x.carrier = none := by
  by_contra hc
  have hle := h.behind _ x hx hc
  obtain ⟨-, hlt⟩ := geometry_of_piece ht hx
  omega

/-- An entry without a claim replaced by one without. -/
theorem setEntryAt (h : OrdersKept fresh k s) {p : Nat} {e x : TrackEntry} (he : s.track[p]? = some e)
    (hn : claimOf e = none) (hx : pieceOf x = none) : OrdersKept fresh k (setEntryAt p x s) where
  claims := (claims_set_of_same he ((claimOf_of_no_piece hx).trans hn.symm)).trans h.claims
  behind q y hy hc := by
    rw [pieceAt_eq_some_iff] at hy
    by_cases hq : p = q
    · subst hq
      simp only [Machine.setEntryAt, State.setTrack_track, List.getElem?_set_self (List.getElem?_eq_some_iff.mp he).1,
        Option.some.injEq] at hy
      rw [hy] at hx
      simp [pieceOf] at hx
    · rw [Machine.setEntryAt, State.setTrack_track, List.getElem?_set_ne hq] at hy
      exact h.behind q y (pieceAt_eq_some_iff.mpr hy) hc
  distinct := h.distinct
  new := h.new

theorem advance (h : OrdersKept fresh 0 s) (ht : TrackOk s) : OrdersKept fresh 1 (advanceTrack s) where
  claims := by
    rw [← show Machine.claims s.track = liveOrders (advanceTrack s).carrier.queue from h.claims, advanceTrack,
      State.setTrack_track, claims_cons]
    rcases List.eq_nil_or_concat s.track with hnil | ⟨l, e, hl⟩
    · simp [hnil, claimOf, pieceOf]
    · have hlast : claimOf e = none := by
        cases e with
        | piece x =>
          have hx : pieceAt l.length s = some x := pieceAt_eq_some_iff.mpr (by simp [hl])
          obtain ⟨hlen, -⟩ := geometry_of_piece ht hx
          have hgate : l.length = (geometryItems s).gate := by simpa [hl] using hlen
          simp [claimOf, pieceOf, orderOf, h.carrier_at_gate (Nat.zero_le 1) ht (hgate ▸ hx)]
        | _ => rfl
      rw [hl, List.concat_eq_append, List.dropLast_concat, claims_append, claims_cons, hlast]
      simp [Machine.claims, claimOf, pieceOf]
  behind q x hx hc := by
    rw [pieceAt_eq_some_iff] at hx
    cases q with
    | zero => exact absurd (Option.some.inj hx) (by simp)
    | succ q =>
      have hdrop : s.track.dropLast[q]? = some (.piece x) := hx
      rw [List.getElem?_dropLast] at hdrop
      have hq : pieceAt q s = some x := pieceAt_eq_some_iff.mpr (Option.ite_none_right_eq_some.mp hdrop).2
      exact Nat.succ_le_succ (h.behind q x hq hc)
  distinct := h.distinct
  new := h.new

/-- A record enters: its order comes to the tail, and its piece is the youngest (R69, R96). -/
theorem enterRecord (h : OrdersKept True k s) (hp : PocketFree s) (src : SourceList) (r : Record)
    (plan : List PlanPair) (bay : Option (Fin 16)) : OrdersKept False k (enterRecord src r plan bay s) := by
  obtain ⟨e, he, hn⟩ := hp
  have hlt := (List.getElem?_eq_some_iff.mp he).1
  have hentered : OrdersKept False k ((s.setTrack (s.track.set 0 (.piece (newPiece src r plan s)))).setCarrier
      { s.carrier with
        queue := s.carrier.queue ++ [{ number := s.carrier.nextOrder, tag := s.entry.nextTag, state := .issued }]
        nextOrder := orderAfter s.carrier.nextOrder }) := by
    refine ⟨?_, fun q y hy hc => ?_, ?_, False.elim⟩
    · obtain ⟨t, ht⟩ : ∃ t, s.track = e :: t := by
        cases ht : s.track with
        | nil => simp [ht] at he
        | cons a t => exact ⟨t, by simpa [ht] using he⟩
      have hclaims := h.claims
      rw [ht, claims_cons, claimOf_of_no_piece hn] at hclaims
      rw [State.setCarrier_track, State.setTrack_track, State.setCarrier_carrier, ht, List.set_cons_zero, claims_cons,
        liveOrders_append, ← hclaims]
      simp [claimOf, pieceOf, orderOf, newPiece, liveOrders, isLive]
    · rw [pieceAt_eq_some_iff, State.setCarrier_track, State.setTrack_track] at hy
      cases q with
      | zero => exact Nat.zero_le _
      | succ q =>
        rw [List.getElem?_set_ne (Nat.zero_ne_add_one q)] at hy
        exact h.behind _ y (pieceAt_eq_some_iff.mpr hy) hc
    · simp only [orderNumbers, State.setCarrier_carrier, List.map_append, List.map_cons, List.map_nil]
      refine h.distinct.append (List.nodup_singleton _) ?_
      rw [List.disjoint_singleton]
      exact h.new trivial
  refine hentered.congr ?_ ?_ ?_
  · simp [Machine.enterRecord, setResultOfEntry, makePiece, Machine.setEntryAt]
  · simp [Machine.enterRecord, setResultOfEntry, issueOrder, newPiece]
  · simp [Machine.enterRecord, setResultOfEntry]

theorem entryWork : EntryWork (fun s => OrdersKept True k s ∧ PocketFree s) (OrdersKept False k) where
  before := (ordersKept_storeFree True k).toQuiet.and pocketFree_storeFree.toQuiet
  after := (ordersKept_storeFree False k).toQuiet
  done h := h.1.weaken
  putEmpty h _ he := by
    obtain ⟨hk, e, ha, hn⟩ := h
    exact ⟨hk.setEntryAt ha (claimOf_of_no_piece hn) he, pocketFree_put ⟨e, ha, hn⟩ he⟩
  enterRecord h src r plan bay _ := h.1.enterRecord h.2 src r plan bay

theorem dispositionBoundary (h : OrdersKept fresh k s) (hk : k ≤ 1) (ht : TrackOk s) :
    OrdersKept fresh k (dispositionBoundary s) := by
  have q : StoreFree fun s => OrdersKept fresh k s ∧ TrackOk s :=
    (ordersKept_storeFree fresh k).and trackOk_free.toStoreFree
  refine (dispositionBoundary_of (I := fun s => OrdersKept fresh k s ∧ TrackOk s) q.work
    (fun {u} hu hd => takeArrival_of q.toQuiet hu hd fun x hx => q.decidePiece ⟨?_, ?_⟩ (by simpa using hd) x)
    ⟨h, ht⟩).1
  · exact hu.1.setEntryAt (pieceAt_eq_some_iff.mp hx)
      (by simp [claimOf, pieceOf, orderOf, hu.1.carrier_at_gate hk hu.2 hx]) rfl
  · exact trackOk_free.toTrackFree.clearEntry hu.2 _ rfl

end OrdersKept

/-- Before the settlement a claim may stand one position past the applicator. -/
def lateBy (l : List PulseTask) : Nat := if .carrier ∈ l then 1 else 0

/-- What holds of the orders while block events of a boundary are due. -/
def OrdersDue (l : List PulseTask) (s : State) : Prop :=
  OrdersKept (.entry ∈ l) (lateBy l) s ∧ (.entry ∈ l → PocketFree s) ∧ TrackOk s

theorem lateBy_le (l : List PulseTask) : lateBy l ≤ 1 := by
  unfold lateBy
  split <;> omega

theorem OrdersKept.mono {f g : Prop} {j k : Nat} {s : State} (h : OrdersKept f j s) (hf : g → f) (hk : j ≤ k) :
    OrdersKept g k s :=
  ⟨h.claims, fun q x hx hc => (h.behind q x hx hc).trans (Nat.add_le_add_left hk _), h.distinct, fun hg => h.new (hf hg)⟩

theorem ordersDue_boundaryWork : BoundaryWork (fun s => OrdersKept True 0 s ∧ TrackOk s) OrdersDue where
  before := (ordersKept_storeFree True 0).toQuiet.and trackOk_free.toQuiet
  during l := (ordersKept_storeFree _ _).toQuiet.and ((pocketFree_storeFree.toQuiet.imp _).and trackOk_free.toQuiet)
  advance {s} h hg l he hc _ := by
    refine ⟨?_, fun _ => pocketFree_advance s, trackOk_free.advance h.2 hg⟩
    have hlate : lateBy l = 1 := if_pos hc
    exact (h.1.advance h.2).mono (fun _ => trivial) hlate.ge
  entry {s l} hl h := by
    obtain ⟨hk, hp, ht⟩ := h
    have hlate : lateBy (.entry :: l) = lateBy l := by simp [lateBy]
    have hentered := OrdersKept.entryWork.entryEvent
      ⟨hk.mono (fun _ => List.mem_cons_self) le_rfl, hp List.mem_cons_self⟩
    exact ⟨hentered.mono (fun hm => hl hm) hlate.le, fun hm => absurd hm hl, trackOk_free.entryFree.entryEvent ht⟩
  carrier {s l} hl h := by
    obtain ⟨hk, hp, ht⟩ := h
    have hlate : lateBy (.carrier :: l) = 1 := if_pos List.mem_cons_self
    rw [hlate] at hk
    exact ⟨hk.settleCarrier.mono (fun hm => List.mem_cons_of_mem _ hm) (Nat.zero_le _),
      fun hm => pocketFree_carrierFree.settleCarrier (hp (List.mem_cons_of_mem _ hm)),
      trackOk_free.toCarrierFree.settleCarrier ht⟩
  disposition {s l} _ h := by
    obtain ⟨hk, hp, ht⟩ := h
    have hlate : lateBy (.disposition :: l) = lateBy l := by simp [lateBy]
    refine ⟨(hk.dispositionBoundary (lateBy_le _) ht).mono (fun hm => List.mem_cons_of_mem _ hm) hlate.le,
      fun hm => pocketFree_disposition (hp (List.mem_cons_of_mem _ hm)), ?_⟩
    exact dispositionBoundary_of trackOk_free.toStoreFree.work
      (fun h hd => takeArrival_of_free trackOk_free.toStoreFree trackOk_free.toTrackFree h hd) ht

/-! ## The step -/

theorem ordersKept_loseRegistration {s : State} (hh : HoldIsEmpty s) (hreg : s.reg.state = .registered) :
    OrdersKept True 0 (loseRegistration s) := by
  have hmode : (loseRegistration s).carrier.mode ≠ .run := by
    unfold loseRegistration
    dsimp only
    generalize raise _ _ = u
    by_cases hm : u.carrier.mode = .run
    · rw [enterHold_of_run hm]
      simp [(heldUp_rules .lost u).1]
    · rwa [enterHold_of_hold hm]
  exact .of_no_pieces (holdIsEmpty_work.loseRegistration hh hreg hmode).1 (pieces_loseRegistration s)

theorem ordersKept_shapeFree : ShapeFree (OrdersKept True 0) where
  restart h _ := h.congr rfl rfl rfl
  resize {s} h hp x hx := by
    have hold : claims s.track = [] :=
      claims_eq_nil_iff.mpr fun p y hy => absurd hy ((no_pieces_iff _).mp hp p y)
    have hnew : claims x = [] := claims_eq_nil_iff.mpr fun p y hy => absurd hy ((no_pieces_iff _).mp hx p y)
    exact ⟨(hnew.trans hold.symm).trans h.claims,
      fun q y hy => absurd (pieceAt_eq_some_iff.mp hy) ((no_pieces_iff _).mp hx q y), h.distinct, h.new⟩

theorem ordersKept_setGeometry {s : State} (h : OrdersKept True 0 s) (ho : setupOpen s = true) (g : Geometry) (p : Port)
    (num : Byte) :
    OrdersKept True 0 (applyGeometry (geometryItems s) g (accept p num (s.setSetup { s.setup with geometry := some g }))) :=
  setGeometry_of (ordersKept_storeFree True 0).work ordersKept_shapeFree g
    ⟨h.claims, fun q x hx => absurd (pieceAt_eq_some_iff.mp hx)
      ((no_pieces_iff _).mp (pieces_of_setupOpen ho) q x), h.distinct, h.new⟩ ho p num

theorem pieces_restartedState (s : State) : pieces (restartedState s) = [] := by
  show (restartedTrack s.setup).filterMap pieceOf = []
  unfold restartedTrack
  split
  · rfl
  · exact List.filterMap_eq_nil_iff.mpr fun e he => by rw [List.eq_of_mem_replicate he]; rfl

/-- What O55 asks for and what it rests on. -/
def OrdersFit (s : State) : Prop := OrdersKept True 0 s ∧ HoldIsEmpty s ∧ TrackOk s

theorem ordersFit_work : Work OrdersFit (OrdersKept False 0) where
  toStoreWork := (ordersKept_storeFree True 0).work.and
    (holdIsEmpty_storeFree.work.and trackOk_free.toStoreFree.work)
  done h := h.1.weaken
  after := (ordersKept_storeFree False 0).toQuiet
  loseRegistration h hr := ⟨ordersKept_loseRegistration h.2.1 hr, holdIsEmpty_work.loseRegistration h.2.1 hr,
    trackOk_work.loseRegistration h.2.2 hr⟩
  enterHold h c := ⟨h.1.enterHold c, holdIsEmpty_work.enterHold h.2.1 c, trackOk_work.enterHold h.2.2 c⟩
  reportPrinted h hm n := ⟨h.1.reportPrinted n, holdIsEmpty_work.reportPrinted h.2.1 hm n,
    trackOk_work.reportPrinted h.2.2 hm n⟩
  reportSpoiled h _ n := h.1.reportSpoiled n
  reportWithdrawn h hm n := ⟨h.1.reportWithdrawn n, holdIsEmpty_work.reportWithdrawn h.2.1 hm n,
    trackOk_work.reportWithdrawn h.2.2 hm n⟩
  reportLate h hm n := ⟨h.1.reportLate n, holdIsEmpty_work.reportLate h.2.1 hm n, trackOk_work.reportLate h.2.2 hm n⟩
  runCarrier h hm := ⟨h.1.setCarrier _ rfl (List.Sublist.refl _) rfl, holdIsEmpty_work.runCarrier h.2.1 hm,
    trackOk_work.runCarrier h.2.2 hm⟩
  dumpPhase h := ⟨h.1.dumpPhase, holdIsEmpty_work.dumpPhase h.2.1, trackOk_work.dumpPhase h.2.2⟩
  applyPhase h := ⟨h.1.applyPhase, holdIsEmpty_work.applyPhase h.2.1, trackOk_work.applyPhase h.2.2⟩
  issueBoundary h _ order hn :=
    (ordersDue_boundaryWork.issueBoundary ⟨h.1, h.2.2⟩ order hn).1.mono False.elim (by simp [lateBy])
  powerOn h := ⟨.of_no_pieces rfl rfl, holdIsEmpty_work.powerOn h.2.1, trackOk_work.powerOn h.2.2⟩
  restarted h := ⟨.of_no_pieces rfl (pieces_restartedState _), holdIsEmpty_work.restarted h.2.1, trackOk_work.restarted h.2.2⟩
  setGeometry h g p num ho ha := ⟨ordersKept_setGeometry h.1 ho g p num,
    holdIsEmpty_work.setGeometry h.2.1 g p num ho ha, trackOk_work.setGeometry h.2.2 g p num ho ha⟩

/-- Settles O55: a piece's claim and its live order come and go together, and the settlement after each advance clears the
claim of the piece that has passed the applicator. -/
theorem stepKeepsOrdersWithTheirPieces : Obligations.StepKeepsOrdersWithTheirPieces := by
  rintro s t ⟨hmatch, hdistinct, hhold, hfits⟩ hstep
  have h := ordersFit_work.step ⟨(ordersKept_iff s).mpr ⟨hmatch, hdistinct⟩, hhold, (trackFits_iff s).mp hfits⟩ hstep
  exact ⟨(claims_eq t).symm.trans h.claims, h.behind⟩

end Sys2Proof.Machine


/-! Every step keeps the dispatch queue in order (O57). -/

namespace Sys2Proof.Machine

/-! ## The first-attempt records of a track -/

/-- The first-attempt records in a track, oldest first. -/
def firsts (t : List TrackEntry) : List Record :=
  ((t.filterMap pieceOf).reverse.filter fun x => x.source == .queue).map Piece.record

theorem loadedOrder_eq (s : State) : loadedOrder s = firsts s.track ++ s.store.queue := rfl

theorem firsts_eq (t : List TrackEntry) :
    firsts t = ((t.filterMap recordEssence).reverse.filter fun x => x.2 == .queue).map Prod.fst := by
  have h : t.filterMap recordEssence = (t.filterMap pieceOf).map fun x => (x.record, x.source) := by
    rw [List.map_filterMap]
    rfl
  simp [firsts, h, List.filter_map, Function.comp_def]

theorem filterMap_of_map {α β : Type} {t x : List α} {g : α → Option β} (h : x.map g = t.map g) :
    x.filterMap g = t.filterMap g := by
  simpa [List.filterMap_map, Function.comp_def] using congrArg (List.filterMap id) h

theorem recordEssence_of_map {t x : List TrackEntry} (h : x.map essence = t.map essence) :
    x.map recordEssence = t.map recordEssence := by
  have hfrom : recordEssence = Option.map (fun y : Record × SourceList × Option Nat × Nat => (y.1, y.2.1)) ∘ essence := by
    funext e
    simp [recordEssence, essence, Function.comp_def]
  rw [hfrom, ← List.map_map, h, List.map_map]

theorem firsts_of_map {t x : List TrackEntry} (h : x.map recordEssence = t.map recordEssence) : firsts x = firsts t := by
  rw [firsts_eq, firsts_eq, filterMap_of_map h]

theorem firsts_sublist {t x : List TrackEntry} (h : x.Sublist t) : (firsts x).Sublist (firsts t) :=
  (((h.filterMap _).reverse).filter _).map _

theorem firsts_append (t x : List TrackEntry) : firsts (t ++ x) = firsts x ++ firsts t := by
  simp [firsts]

theorem firsts_cons (e : TrackEntry) (t : List TrackEntry) : firsts (e :: t) = firsts t ++ firsts [e] :=
  firsts_append [e] t

theorem firsts_of_no_pieces {t : List TrackEntry} (h : t.filterMap pieceOf = []) : firsts t = [] := by
  simp [firsts, h]

theorem length_firsts_le (t : List TrackEntry) : (firsts t).length ≤ t.length := by
  simp only [firsts, List.length_map]
  exact (List.length_filter_le _ _).trans (by simpa using List.length_filterMap_le _ _)

/-- A position without a piece in the place of any entry takes no record in. -/
theorem firsts_set_sublist {t : List TrackEntry} {p : Nat} {e : TrackEntry} (he : pieceOf e = none) :
    (firsts (t.set p e)).Sublist (firsts t) := by
  by_cases hp : p < t.length
  · rw [List.set_eq_take_append_cons_drop, if_pos hp, firsts_append, firsts_cons, firsts_of_no_pieces (t := [e]) (by simp [he]),
      List.append_nil, ← firsts_append]
    refine firsts_sublist ?_
    conv_rhs => rw [← List.take_append_drop p t]
    exact (List.Sublist.refl _).append (List.drop_sublist_drop_left t (Nat.le_succ p))
  · rw [List.set_eq_of_length_le (Nat.le_of_not_lt hp)]

/-! ## Held records -/

theorem heldRecords_eq_nil_iff (s : State) :
    heldRecords s = [] ↔ s.store.queue = [] ∧ s.store.lane = [] ∧ pieces s = [] := by
  simp [heldRecords, trackRecords]

theorem loadedOrder_of_nothing {s : State} (h : heldRecords s = []) : loadedOrder s = [] := by
  obtain ⟨hq, -, hp⟩ := (heldRecords_eq_nil_iff s).mp h
  simp [loadedOrder, hq, hp]

namespace QueueInOrder

variable {s t : State}

/-- The order is kept where records leave, none changes places, and no job is gone while a record is held. -/
theorem of_sublist (h : QueueInOrder s) (hl : (loadedOrder t).Sublist (loadedOrder s))
    (hm : t.store.loadMark = s.store.loadMark) (hj : t.store.jobState = .noJob → heldRecords t = []) : QueueInOrder t := by
  obtain ⟨hpair, hmark, hroom, -⟩ := h
  exact ⟨hpair.sublist hl, fun r hr => hm ▸ hmark r (hl.subset hr), hl.length_le.trans hroom, hj⟩

theorem of_nothing (h : heldRecords t = []) : QueueInOrder t := by
  have hl := loadedOrder_of_nothing h
  exact ⟨by simp [hl], by simp [hl], by simp [hl], fun _ => h⟩

/-- A piece that leaves the track or a record that leaves a list breaks nothing. -/
theorem lose (h : QueueInOrder s) (hj : t.store.jobState = s.store.jobState) (hm : t.store.loadMark = s.store.loadMark)
    (hq : t.store.queue.Sublist s.store.queue) (hl : t.store.lane.Sublist s.store.lane)
    (hp : (pieces t).Sublist (pieces s)) : QueueInOrder t := by
  refine h.of_sublist (((hp.reverse.filter _).map _).append hq) hm fun hn => ?_
  obtain ⟨hqs, hls, hps⟩ := (heldRecords_eq_nil_iff s).mp (h.2.2.2 (hj ▸ hn))
  rw [heldRecords_eq_nil_iff]
  exact ⟨List.eq_nil_of_sublist_nil (hqs ▸ hq), List.eq_nil_of_sublist_nil (hls ▸ hl), List.eq_nil_of_sublist_nil (hps ▸ hp)⟩

end QueueInOrder

theorem pieces_eq_nil_iff_of_map {t x : List TrackEntry} (h : x.map recordEssence = t.map recordEssence) :
    x.filterMap pieceOf = [] ↔ t.filterMap pieceOf = [] :=
  ⟨no_pieces_of_map recordEssence_eq_none_iff h.symm, no_pieces_of_map recordEssence_eq_none_iff h⟩

theorem inOrder_orders {s : State} (h : QueueInOrder s) {x : List TrackEntry}
    (hx : x.map recordEssence = s.track.map recordEssence) : QueueInOrder (s.setTrack x) := by
  refine h.of_sublist (sublist_of_eq ?_) rfl fun hn => ?_
  · rw [loadedOrder_eq, State.setTrack_track, firsts_of_map hx]
    rfl
  · obtain ⟨hq, hl, hp⟩ := (heldRecords_eq_nil_iff s).mp (h.2.2.2 hn)
    exact (heldRecords_eq_nil_iff _).mpr ⟨hq, hl, (pieces_eq_nil_iff_of_map hx).mpr hp⟩

theorem inOrder_carrierFree : CarrierFree QueueInOrder where
  pins h _ := h
  pending h _ := h
  calls h _ := h
  free h _ := h
  link h _ _ := h
  claim h _ := h
  gate h _ _ _ := h
  latch h := h
  unlatch h := h
  fault h _ _ := h
  stations h _ := h
  lines h _ _ := h
  verify h _ _ := h
  entry h _ _ := h
  reg h _ _ := h
  disp h _ _ := h
  track h _ hx := inOrder_orders h (recordEssence_of_map hx)
  bundle h _ _ _ := h
  removeBundle h _ := h
  job {s} h j n m hj := by
    have hheld : s.store.jobState = .noJob ∨ heldRecords s = [] → heldRecords s = [] := fun e => e.elim h.2.2.2 id
    rcases hj.mark with rfl | hnone
    · exact h.of_sublist (List.Sublist.refl _) rfl fun e => hheld (hj.none e)
    · exact .of_nothing (hheld hnone)
  carrier h _ _ := h
  orders h _ hx := inOrder_orders h hx
  anyLines h _ := h

end Sys2Proof.Machine


/-! Every step keeps the dispatch queue in order (O57): the store, the gate, the entry and the step. -/

namespace Sys2Proof.Machine

/-! ## The dispatch store -/

/-- What O57 asks for, with the track's length, which bounds the first-attempt records in it. -/
def OrderFit (s : State) : Prop := QueueInOrder s ∧ TrackOk s

theorem length_track_le {s : State} (h : TrackOk s) : s.track.length ≤ 251 := by
  obtain ⟨hfit, hlen⟩ := h
  cases hg : s.setup.geometry with
  | none => simp [hlen, hg]
  | some g =>
    obtain ⟨-, -, -, -, -, ⟨-, hgate⟩, -⟩ := (geometryInRange_iff g).mp (hfit g hg)
    simpa [hlen, hg, Nat.lt_succ_iff] using hgate

theorem inOrder_loaded {s : State} (h : QueueInOrder s) (hfirsts : (firsts s.track).length ≤ 251) {r : Record}
    (hr : LoadFits r s) : QueueInOrder (loaded r s) := by
  obtain ⟨hpair, hmark, -, -⟩ := h
  have hl : loadedOrder (loaded r s) = loadedOrder s ++ [r] := by simp [loadedOrder, loaded, pieces]
  refine ⟨?_, ?_, ?_, fun hn => ?_⟩
  · rw [hl, List.pairwise_append]
    refine ⟨hpair, List.pairwise_singleton _ _, fun a ha b hb => ?_⟩
    obtain rfl := List.mem_singleton.mp hb
    exact (hmark a ha).trans hr.order
  · rw [hl]
    intro a ha
    rcases List.mem_append.mp ha with ha | ha
    · exact (hmark a ha).trans (le_max_left _ _)
    · obtain rfl := List.mem_singleton.mp ha
      exact le_max_right _ _
  · have hqueue : s.store.queue.length < 512 := hr.room
    rw [hl, loadedOrder_eq, List.length_append, List.length_append, List.length_singleton]
    omega
  · exact absurd (hr.job.symm.trans hn) (by decide)

theorem inOrder_forgotten {s : State} (h : QueueInOrder s) (r : Record) : QueueInOrder (forgotten r s) :=
  h.lose rfl rfl List.filter_sublist List.filter_sublist (List.Sublist.refl _)

/-- The store keeps its order beside an invariant that bounds the first-attempt records in the track. -/
theorem inOrder_storeWork {K : State → Prop} (hK : StoreFree K) (hfirsts : ∀ s, K s → (firsts s.track).length ≤ 251) :
    StoreWork fun s => QueueInOrder s ∧ K s where
  toQuiet := inOrder_carrierFree.toQuiet.and hK.toQuiet
  load h r hr := ⟨inOrder_loaded h.1 (hfirsts _ h.2) hr, hK.work.load h.2 r hr⟩
  dropEntry h e rest hb hn := ⟨h.1, hK.work.dropEntry h.2 e rest hb hn⟩
  releaseEntry h o rest r hb hr := ⟨inOrder_forgotten h.1 r, hK.work.releaseEntry h.2 o rest r hb hr⟩
  forget h r hr hb := ⟨inOrder_forgotten h.1 r, hK.work.forget h.2 r hr hb⟩
  enterBacklog h o rs hs := ⟨h.1, hK.work.enterBacklog h.2 o rs hs⟩

theorem orderFit_storeWork : StoreWork OrderFit :=
  inOrder_storeWork trackOk_free.toStoreFree fun _ ht => (length_firsts_le _).trans (length_track_le ht)

/-! ## Records in hand -/

theorem orderFit_endLife {s : State} (h : OrderFit s) (e : RecordEnd) (r : Record) : OrderFit (endLife .track e r s) :=
  orderFit_storeWork.afterLife (s := forgetRecord r s) h .track e r

theorem lane_endLife_track (e : RecordEnd) (r : Record) (s : State) : (endLife .track e r s).store.lane = s.store.lane := by
  rw [(checked_endLife .track e r s).lane, store_recordOut]
  rfl

/-- A record in hand goes to the lane, or its life ends with the lane full: either way the job stays. -/
theorem orderFit_sendToLane {s : State} (h : OrderFit s) (hj : s.store.jobState ≠ .noJob) (o : OffReason) (r : Record) :
    OrderFit (sendToLane o r s) ∧ (sendToLane o r s).store.jobState ≠ .noJob := by
  unfold sendToLane
  split
  · exact ⟨⟨h.1.of_sublist (List.Sublist.refl _) rfl fun hn => absurd hn hj, h.2⟩, hj⟩
  · next hfull =>
    have he := orderFit_endLife h (.offSequence o) r
    refine ⟨he, fun hn => hfull ?_⟩
    obtain ⟨-, hl, -⟩ := (heldRecords_eq_nil_iff _).mp (he.1.2.2.2 hn)
    rw [lane_endLife_track] at hl
    simp [hl, Config.laneCapacity]

theorem orderFit_sendToLanes (o : OffReason) (rs : List Record) {s : State} (h : OrderFit s)
    (hj : rs ≠ [] → s.store.jobState ≠ .noJob) : OrderFit (rs.foldl (fun s r => sendToLane o r s) s) := by
  induction rs generalizing s with
  | nil => exact h
  | cons r rs ih =>
    obtain ⟨hr, hjr⟩ := orderFit_sendToLane h (hj (List.cons_ne_nil r rs)) o r
    exact ih hr fun _ => hjr

/-- The state with a purge's first-attempt records back before the queue (R58). -/
def broughtBack (rs : List Record) (s : State) : State :=
  rs.foldl (fun s r => returnToQueue r s) (s.setStore { s.store with queue := rs ++ s.store.queue })

theorem placePurged_eq (xs : List Piece) (s : State) : placePurged xs s =
    ((xs.filter fun x => x.source == .lane).map Piece.record).foldl (fun s r => sendToLane .purge r s)
      (broughtBack ((xs.filter fun x => x.source == .queue).map Piece.record) s) := rfl

theorem store_returnToQueues (rs : List Record) (s : State) :
    (rs.foldl (fun s r => returnToQueue r s) s).store = { s.store with
      map := rs.foldl (fun m r => insertPlace r.key .queue m) s.store.map } := by
  induction rs generalizing s with
  | nil => rfl
  | cons r rs ih => exact ih _

theorem store_broughtBack (rs : List Record) (s : State) : (broughtBack rs s).store = { s.store with
    queue := rs ++ s.store.queue
    map := rs.foldl (fun m r => insertPlace r.key .queue m) s.store.map } :=
  store_returnToQueues rs _

theorem broughtBack_keeps (rs : List Record) (s : State) :
    (broughtBack rs s).track = s.track ∧ (broughtBack rs s).setup = s.setup := by
  simp [broughtBack]

theorem no_pieces_purged (t : List TrackEntry) : (t.map purgedEntry).filterMap pieceOf = [] := by
  refine List.filterMap_eq_nil_iff.mpr fun e he => ?_
  obtain ⟨a, -, rfl⟩ := List.mem_map.mp he
  cases a <;> rfl

/-- The first-attempt records of a purged track go back before the queue in their order (R58). -/
theorem inOrder_broughtBack {s : State} (h : QueueInOrder s) :
    QueueInOrder (broughtBack (firsts s.track) (s.setTrack (s.track.map purgedEntry))) := by
  have hnone := no_pieces_purged s.track
  obtain ⟨htrack, -⟩ := broughtBack_keeps (firsts s.track) (s.setTrack (s.track.map purgedEntry))
  refine h.of_sublist (sublist_of_eq ?_) (by rw [store_broughtBack]; rfl) fun hn => ?_
  · rw [loadedOrder_eq, store_broughtBack, htrack, State.setTrack_track, firsts_of_no_pieces hnone]
    rfl
  · rw [store_broughtBack] at hn
    obtain ⟨hq, hl, hp⟩ := (heldRecords_eq_nil_iff s).mp (h.2.2.2 hn)
    rw [heldRecords_eq_nil_iff, store_broughtBack, pieces, htrack]
    exact ⟨by simpa [firsts_of_no_pieces hp] using hq, hl, hnone⟩

theorem orderFit_purgeTrack {s : State} (h : OrderFit s) : OrderFit (purgeTrack s) := by
  obtain ⟨htrack, hsetup⟩ := broughtBack_keeps (firsts s.track) (s.setTrack (s.track.map purgedEntry))
  have hok : TrackOk (s.setTrack (s.track.map purgedEntry)) := trackOk_free.loss h.2 _ (trackLoss_purged _)
  have hback : OrderFit (broughtBack (firsts s.track) (s.setTrack (s.track.map purgedEntry))) :=
    ⟨inOrder_broughtBack h.1, by rwa [TrackOk, htrack, hsetup]⟩
  have hplaced : OrderFit (placePurged (pieces s).reverse (s.setTrack (s.track.map purgedEntry))) := by
    rw [placePurged_eq]
    refine orderFit_sendToLanes .purge _ hback fun hne hn => hne ?_
    rw [show (broughtBack _ _).store.jobState = _ from congrArg Store.jobState (store_broughtBack _ _)] at hn
    obtain ⟨-, -, hp⟩ := (heldRecords_eq_nil_iff s).mp (h.1.2.2.2 hn)
    simp [hp]
  unfold purgeTrack returnPurged
  dsimp only
  split
  · exact orderFit_storeWork.completionCheck (orderFit_storeWork.drainBacklog hplaced)
  · exact orderFit_storeWork.completionCheck hplaced

/-! ## The gate -/

theorem orderFit_placeRejected {s : State} (h : OrderFit s) (hj : s.store.jobState ≠ .noJob) (x : Piece) :
    OrderFit (placeRejected x s) := by
  unfold placeRejected
  dsimp only
  split
  · exact orderFit_endLife h _ _
  · split
    · exact orderFit_endLife h _ _
    · split
      · exact (orderFit_sendToLane h hj _ _).1
      · split
        · exact (orderFit_sendToLane h hj _ _).1
        · exact orderFit_endLife h _ _

theorem orderFit_decidePiece {s : State} (h : OrderFit s) (hj : s.store.jobState ≠ .noJob) (x : Piece) :
    OrderFit (decidePiece x s) := by
  unfold decidePiece
  split
  · exact orderFit_placeRejected h hj x
  · split
    · exact orderFit_placeRejected (s := s.setDisp { s.disp with proofPending := false }) h hj { x with proof := true }
    · exact orderFit_endLife (orderFit_storeWork.post h _ _) _ _

theorem orderFit_takeArrival {s : State} (h : OrderFit s) (hd : StoreFree.GateFree s.disp) : OrderFit (takeArrival s) := by
  refine takeArrival_of orderFit_storeWork.toQuiet h hd fun x hx => orderFit_decidePiece ⟨?_, ?_⟩ (fun hn => ?_) x
  · have hs : (firsts (s.track.set (geometryItems s).gate (.gated x.pocket x.tag))).Sublist (firsts s.track) :=
      firsts_set_sublist rfl
    refine h.1.of_sublist (hs.append (List.Sublist.refl _)) rfl fun hn => ?_
    obtain ⟨hq, hl, hp⟩ := (heldRecords_eq_nil_iff s).mp (h.1.2.2.2 hn)
    exact absurd (pieceAt_eq_some_iff.mp hx) ((no_pieces_iff _).mp hp _ x)
  · exact trackOk_free.toTrackFree.clearEntry h.2 _ rfl
  · obtain ⟨-, -, hp⟩ := (heldRecords_eq_nil_iff s).mp (h.1.2.2.2 hn)
    exact (no_pieces_iff _).mp hp _ x (pieceAt_eq_some_iff.mp hx)

/-! ## The entry -/

theorem store_enterRecord (src : SourceList) (r : Record) (plan : List PlanPair) (bay : Option (Fin 16)) (s : State) :
    (enterRecord src r plan bay s).store = { s.store with
      queue := s.store.queue.filter fun x => x.key ≠ r.key
      lane := s.store.lane.filter fun x => x.key ≠ r.key
      map := insertPlace r.key .track s.store.map } := by
  cases src <;> cases bay <;>
    simp [enterRecord, setResultOfEntry, enterBundle, createBundle, makePiece, handOver, setPlace, removeWaiting]

theorem track_enterRecord (src : SourceList) (r : Record) (plan : List PlanPair) (bay : Option (Fin 16)) (s : State) :
    (enterRecord src r plan bay s).track = s.track.set 0 (.piece (newPiece src r plan s)) := by
  simp [enterRecord, setResultOfEntry, makePiece, setEntryAt]

/-- The record at the queue's head becomes the youngest piece's, and a remake takes no part in the order. -/
theorem loadedOrder_enterRecord {src : SourceList} {r : Record} {bay : Option (Fin 16)} {s : State}
    (h : Entering src r bay s) (plan : List PlanPair) :
    (loadedOrder (enterRecord src r plan bay s)).Sublist (loadedOrder s) := by
  rw [loadedOrder_eq, store_enterRecord, track_enterRecord, loadedOrder_eq]
  cases ht : s.track with
  | nil => exact List.filter_sublist
  | cons e t =>
    rw [List.set_cons_zero, firsts_cons, firsts_cons e]
    simp only [List.append_assoc]
    refine (List.Sublist.refl _).append ?_
    cases src with
    | lane => exact List.filter_sublist.trans (List.sublist_append_right _ _)
    | queue =>
      obtain ⟨-, hhead, -⟩ := h.queue rfl
      obtain ⟨rest, hrest⟩ : ∃ rest, s.store.queue = r :: rest := by
        cases hq : s.store.queue with
        | nil => simp [hq] at hhead
        | cons a rest => exact ⟨rest, by simpa [hq] using hhead⟩
      have hpiece : firsts [.piece (newPiece .queue r plan s)] = [r] := rfl
      have hgone : ((r :: rest).filter fun x => x.key ≠ r.key) = rest.filter fun x => x.key ≠ r.key := by simp
      rw [hrest, hpiece, hgone]
      exact (List.filter_sublist.cons_cons r).trans (List.sublist_append_right _ _)

theorem orderFit_enterRecord {s : State} (h : OrderFit s) (src : SourceList) (r : Record) (plan : List PlanPair)
    (bay : Option (Fin 16)) (hin : Entering src r bay s) : OrderFit (enterRecord src r plan bay s) := by
  refine ⟨h.1.of_sublist (loadedOrder_enterRecord hin plan) (by rw [store_enterRecord]) fun hn => ?_,
    trackOk_free.entryFree.enterRecord h.2 src r plan bay hin.bay hin.registered hin.mode hin.room⟩
  rw [store_enterRecord] at hn
  obtain ⟨hq, hl, -⟩ := (heldRecords_eq_nil_iff s).mp (h.1.2.2.2 hn)
  cases src with
  | lane => exact absurd (hin.lane rfl) (by simp [hl])
  | queue => exact absurd (hin.queue rfl).2.1 (by simp [hq])

theorem orderFit_entryWork : EntryWork OrderFit OrderFit where
  before := orderFit_storeWork.toQuiet
  after := orderFit_storeWork.toQuiet
  done h := h
  putEmpty {s} h e he := by
    refine ⟨h.1.of_sublist ((firsts_set_sublist he).append (List.Sublist.refl _)) rfl fun hn => ?_,
      trackOk_free.toTrackFree.clearEntry h.2 0 he⟩
    obtain ⟨hq, hl, hp⟩ := (heldRecords_eq_nil_iff s).mp (h.1.2.2.2 hn)
    exact (heldRecords_eq_nil_iff _).mpr ⟨hq, hl, no_pieces_of_loss (trackLoss_set he) hp⟩
  enterRecord := orderFit_enterRecord

/-! ## The step -/

theorem orderFit_advance {s : State} (h : OrderFit s) (hg : ∃ g, s.setup.geometry = some g) : OrderFit (advanceTrack s) :=
  ⟨h.1.lose rfl rfl (List.Sublist.refl _) (List.Sublist.refl _) ((List.dropLast_sublist s.track).filterMap pieceOf),
    trackOk_free.advance h.2 hg⟩

theorem orderFit_boundaryWork : BoundaryWork OrderFit fun _ => OrderFit where
  before := orderFit_storeWork.toQuiet
  during _ := orderFit_storeWork.toQuiet
  advance h hg _ _ _ _ := orderFit_advance h hg
  entry _ h := orderFit_entryWork.entryEvent h
  carrier _ h := ⟨inOrder_carrierFree.settleCarrier h.1, trackOk_free.toCarrierFree.settleCarrier h.2⟩
  disposition _ h := dispositionBoundary_of orderFit_storeWork orderFit_takeArrival h

/-- The first-attempt records in the track are no more than the longest track. -/
def FirstsFit (s : State) : Prop := (firsts s.track).length ≤ 251

theorem firstsFit_storeFree : StoreFree FirstsFit where
  pins h _ := h
  pending h _ := h
  calls h _ := h
  free h _ := h
  link h _ _ := h
  claim h _ := h
  gate h _ _ _ := h
  latch h := h
  unlatch h := h
  fault h _ _ := h
  stations h _ := h
  lines h _ _ := h
  verify h _ _ := h
  entry h _ _ := h
  reg h _ _ := h
  disp h _ _ := h
  track {s} h x hx := by
    rw [FirstsFit, State.setTrack_track, firsts_of_map (recordEssence_of_map hx)]
    exact h
  bundle h _ _ _ := h
  removeBundle h _ := h
  job h _ _ _ _ := h
  store h _ _ := h

theorem inOrder_shapeFree : ShapeFree fun s => QueueInOrder s ∧ FirstsFit s where
  restart h _ := h
  resize {s} h hp x hx := by
    refine ⟨h.1.lose rfl rfl (List.Sublist.refl _) (List.Sublist.refl _) (sublist_of_eq (hx.trans hp.symm)), ?_⟩
    rw [FirstsFit, State.setTrack_track, firsts_of_no_pieces hx]
    exact Nat.zero_le _

theorem inOrder_setGeometry {s : State} (h : OrderFit s) (ho : setupOpen s = true) (g : Geometry) (p : Port) (num : Byte) :
    QueueInOrder (applyGeometry (geometryItems s) g (accept p num (s.setSetup { s.setup with geometry := some g }))) := by
  have hfirsts : FirstsFit s := (length_firsts_le _).trans (length_track_le h.2)
  exact (setGeometry_of (inOrder_storeWork firstsFit_storeFree fun _ => id) inOrder_shapeFree g ⟨h.1, hfirsts⟩ ho p num).1

theorem inOrder_loseRegistration {s : State} (h : OrderFit s) : QueueInOrder (loseRegistration s) := by
  have hlost : OrderFit (s.setReg
      { s.reg with state := .lost, faultWindow := none, goodMarks := 0, chainClearPending := true }) := h
  have w := orderFit_storeWork
  have hp := orderFit_purgeTrack (w.postState (w.postState hlost (.registration .lost)) (.chainClear true))
  exact inOrder_carrierFree.enterHold (w.raise hp (homeFault .registrationLost s)).1 .lost

theorem orderFit_work : Work OrderFit OrderFit where
  toStoreWork := orderFit_storeWork
  done h := h
  after := orderFit_storeWork.toQuiet
  loseRegistration h hr := ⟨inOrder_loseRegistration h, trackOk_work.loseRegistration h.2 hr⟩
  enterHold h c := ⟨inOrder_carrierFree.enterHold h.1 c, trackOk_work.enterHold h.2 c⟩
  reportPrinted h hm n := ⟨inOrder_carrierFree.reportPrinted h.1 n, trackOk_work.reportPrinted h.2 hm n⟩
  reportSpoiled h hm n := ⟨inOrder_carrierFree.reportSpoiled h.1 n, trackOk_work.reportSpoiled h.2 hm n⟩
  reportWithdrawn h hm n := ⟨inOrder_carrierFree.reportWithdrawn h.1 n, trackOk_work.reportWithdrawn h.2 hm n⟩
  reportLate h hm n := ⟨inOrder_carrierFree.reportLate h.1 n, trackOk_work.reportLate h.2 hm n⟩
  runCarrier h _ := h
  dumpPhase h := ⟨inOrder_carrierFree.dumpPhase h.1, trackOk_work.dumpPhase h.2⟩
  applyPhase h := ⟨inOrder_carrierFree.applyPhase h.1, trackOk_work.applyPhase h.2⟩
  issueBoundary h _ order hn := orderFit_boundaryWork.issueBoundary h order hn
  powerOn h := ⟨.of_nothing rfl, trackOk_work.powerOn h.2⟩
  restarted h := ⟨.of_nothing ((heldRecords_eq_nil_iff _).mpr ⟨rfl, rfl, pieces_restartedState _⟩),
    trackOk_work.restarted h.2⟩
  setGeometry h g p num ho ha := ⟨inOrder_setGeometry h ho g p num, trackOk_work.setGeometry h.2 g p num ho ha⟩

/-- Settles O57: records leave the order anywhere, come to its tail only by a LOAD, and pass from the queue's head to the
youngest piece and back without changing places. -/
theorem stepKeepsTheDispatchQueueInOrder : Obligations.StepKeepsTheDispatchQueueInOrder := by
  rintro s t ⟨ho, hfits⟩ hstep
  exact (orderFit_work.step ⟨ho, (trackFits_iff s).mp hfits⟩ hstep).1

end Sys2Proof.Machine


/-! Each held record stands in one place, named by the record map, with its text counted (O56): the books of the store, as a
relation between three lists of records and the map, the text count and the backlog. -/

namespace Sys2Proof.Machine

/-! ## The record map -/

theorem mem_insertPlace {k : Nat} {p : Place} {m : List (Nat × Place)} (h : (m.map Prod.fst).Pairwise (· < ·))
    (e : Nat × Place) : e ∈ insertPlace k p m ↔ e = (k, p) ∨ e ∈ m ∧ e.1 ≠ k := by
  induction m with
  | nil => simp [insertPlace]
  | cons a rest ih =>
    rw [List.map_cons, List.pairwise_cons] at h
    obtain ⟨ha, hrest⟩ := h
    have hafter (c : Nat × Place) (hc : c ∈ rest) : a.1 < c.1 := ha _ (List.mem_map_of_mem hc)
    unfold insertPlace
    split
    · next hlt =>
      have hne : ∀ c ∈ a :: rest, c.1 ≠ k := by
        intro c hc
        rcases List.mem_cons.mp hc with rfl | hc
        · exact hlt.ne'
        · exact (hlt.trans (hafter c hc)).ne'
      rw [List.mem_cons]
      exact or_congr_right ⟨fun hm => ⟨hm, hne e hm⟩, fun hm => hm.1⟩
    · split
      · next heq =>
        have hne : ∀ c ∈ rest, c.1 ≠ k := fun c hc => by have := hafter c hc; omega
        rw [List.mem_cons, List.mem_cons]
        refine or_congr_right ⟨fun hm => ⟨.inr hm, hne e hm⟩, fun ⟨hm, hn⟩ => hm.resolve_left ?_⟩
        rintro rfl
        exact hn heq.symm
      · next hne =>
        rw [List.mem_cons, ih hrest, List.mem_cons]
        constructor
        · rintro (rfl | rfl | ⟨hm, hn⟩)
          · exact .inr ⟨.inl rfl, fun e => hne e.symm⟩
          · exact .inl rfl
          · exact .inr ⟨.inr hm, hn⟩
        · rintro (rfl | ⟨rfl | hm, hn⟩)
          · exact .inr (.inl rfl)
          · exact .inl rfl
          · exact .inr (.inr ⟨hm, hn⟩)

theorem ascending_insertPlace (k : Nat) (p : Place) {m : List (Nat × Place)} (h : (m.map Prod.fst).Pairwise (· < ·)) :
    ((insertPlace k p m).map Prod.fst).Pairwise (· < ·) := by
  induction m with
  | nil => simp [insertPlace]
  | cons a rest ih =>
    have hall := h
    rw [List.map_cons, List.pairwise_cons] at h
    obtain ⟨ha, hrest⟩ := h
    unfold insertPlace
    split
    · next hlt =>
      rw [List.map_cons, List.pairwise_cons]
      refine ⟨fun n hn => ?_, hall⟩
      rcases List.mem_cons.mp hn with rfl | hn
      · exact hlt
      · exact hlt.trans (ha n hn)
    · split
      · next heq => simpa [heq] using hall
      · rw [List.map_cons, List.pairwise_cons]
        refine ⟨fun n hn => ?_, ih hrest⟩
        obtain ⟨e, he, rfl⟩ := List.mem_map.mp hn
        rcases (mem_insertPlace hrest e).mp he with rfl | ⟨hm, -⟩
        · omega
        · exact ha _ (List.mem_map_of_mem hm)

/-- Without one record, the records of a list of distinct keys are the others. -/
theorem perm_cons_without {l : List Record} {r : Record} (hnd : (l.map Record.key).Nodup) (hr : r ∈ l) :
    l.Perm (r :: l.filter fun x => x.key ≠ r.key) := by
  obtain ⟨a, b, rfl⟩ := List.append_of_mem hr
  rw [List.map_append, List.map_cons, List.nodup_middle, List.nodup_cons] at hnd
  obtain ⟨hnot, -⟩ := hnd
  have hall : ∀ x ∈ a ++ b, x.key ≠ r.key := fun x hx he => hnot (by
    rw [← List.map_append, ← he]
    exact List.mem_map_of_mem hx)
  have hfilter : ((a ++ r :: b).filter fun x => x.key ≠ r.key) = a ++ b := by
    rw [List.filter_append, List.filter_cons_of_neg (by simp), ← List.filter_append, List.filter_eq_self]
    exact fun x hx => by simpa using hall x hx
  rw [hfilter]
  exact List.perm_middle

/-! ## The books -/

/-- The keys of the records in a place. -/
def keysAt (queue lane track : List Record) : Place → List Nat
  | .queue => queue.map Record.key
  | .lane => lane.map Record.key
  | .track => track.map Record.key

/-- Each record of the three lists stands in one place and the map names it, the text count is that of their texts, and
the backlog holds waiting records, each once (R45, R46, R55). -/
structure Books (queue lane track : List Record) (map : List (Nat × Place)) (text : Nat)
    (backlog : List (Nat × BacklogOutcome)) : Prop where
  distinct : ((queue ++ lane ++ track).map Record.key).Nodup
  ascending : (map.map Prod.fst).Pairwise (· < ·)
  listed : ∀ p key, (key, p) ∈ map ↔ key ∈ keysAt queue lane track p
  counted : text = ((queue ++ lane ++ track).map textSize).sum
  once : (backlog.map Prod.fst).Nodup
  waits : ∀ e ∈ backlog, e.1 ∈ (queue ++ lane).map Record.key

theorem mem_keysAt {queue lane track : List Record} {p : Place} {k : Nat} (h : k ∈ keysAt queue lane track p) :
    k ∈ (queue ++ lane ++ track).map Record.key := by
  simp only [List.map_append, List.mem_append]
  cases p
  · exact .inl (.inl h)
  · exact .inl (.inr h)
  · exact .inr h

/-- A key stands in one place. -/
theorem place_unique {queue lane track : List Record} (h : ((queue ++ lane ++ track).map Record.key).Nodup) {k : Nat}
    {p x : Place} (hp : k ∈ keysAt queue lane track p) (hx : k ∈ keysAt queue lane track x) : x = p := by
  rw [List.map_append, List.map_append, List.nodup_append', List.nodup_append'] at h
  obtain ⟨⟨-, -, hql⟩, -, ht⟩ := h
  rw [List.disjoint_append_left] at ht
  obtain ⟨hqt, hlt⟩ := ht
  cases p <;> cases x
  · rfl
  · exact (hql hp hx).elim
  · exact (hqt hp hx).elim
  · exact (hql hx hp).elim
  · rfl
  · exact (hlt hp hx).elim
  · exact (hqt hx hp).elim
  · exact (hlt hx hp).elim
  · rfl

namespace Books

variable {q l t q' l' t' : List Record} {m : List (Nat × Place)} {n : Nat} {b : List (Nat × BacklogOutcome)} {r : Record}

/-- The order of the records in a list does not matter. -/
theorem perm (h : Books q l t m n b) (hq : q'.Perm q) (hl : l'.Perm l) (ht : t'.Perm t) : Books q' l' t' m n b := by
  have hall : (q' ++ l' ++ t').Perm (q ++ l ++ t) := (hq.append hl).append ht
  refine ⟨(hall.map _).nodup_iff.mpr h.distinct, h.ascending, fun p key => (h.listed p key).trans ?_,
    h.counted.trans (hall.map _).sum_eq.symm, h.once, fun e he => ((hq.append hl).map _).mem_iff.mpr (h.waits e he)⟩
  cases p
  · exact (hq.map _).mem_iff.symm
  · exact (hl.map _).mem_iff.symm
  · exact (ht.map _).mem_iff.symm

/-- A record that changes its list takes its map entry along. -/
theorem move (h : Books q l t m n b) {p : Place} (hall : (q' ++ l' ++ t').Perm (q ++ l ++ t))
    (hin : r.key ∈ keysAt q' l' t' p)
    (hsame : ∀ x, ∀ key ≠ r.key, key ∈ keysAt q' l' t' x ↔ key ∈ keysAt q l t x)
    (hwaits : ∀ e ∈ b, e.1 ∈ (q' ++ l').map Record.key) : Books q' l' t' (insertPlace r.key p m) n b := by
  have hnd := (hall.map Record.key).nodup_iff.mpr h.distinct
  refine ⟨hnd, ascending_insertPlace _ _ h.ascending, fun x key => ?_, h.counted.trans (hall.map _).sum_eq.symm, h.once,
    hwaits⟩
  rw [mem_insertPlace h.ascending, h.listed, Prod.mk.injEq]
  by_cases hk : key = r.key
  · subst hk
    simp only [ne_eq, not_true_eq_false, and_false, or_false, true_and]
    exact ⟨fun e => e ▸ hin, fun hx => place_unique hnd hin hx⟩
  · simp only [hk, false_and, false_or, ne_eq, not_false_eq_true, and_true]
    exact (hsame x key hk).symm

/-- A record that leaves all lists takes its map entry and its text along. -/
theorem drop (h : Books q l t m n b) (hall : (q ++ l ++ t).Perm (r :: (q' ++ l' ++ t')))
    (hsame : ∀ x, ∀ key ≠ r.key, key ∈ keysAt q' l' t' x ↔ key ∈ keysAt q l t x)
    (hwaits : ∀ e ∈ b, e.1 ∈ (q' ++ l').map Record.key) :
    Books q' l' t' (m.filter fun e => e.1 ≠ r.key) (n - textSize r) b := by
  have hnd := (hall.map Record.key).nodup_iff.mp h.distinct
  rw [List.map_cons, List.nodup_cons] at hnd
  obtain ⟨hnot, hnd⟩ := hnd
  refine ⟨hnd, h.ascending.sublist (List.filter_sublist.map _), fun x key => ?_, ?_, h.once, hwaits⟩
  · rw [List.mem_filter, h.listed, decide_eq_true_eq]
    constructor
    · exact fun ⟨hm, hk⟩ => (hsame x key hk).mpr hm
    · intro hm
      have hk : key ≠ r.key := fun e => hnot (e ▸ mem_keysAt hm)
      exact ⟨(hsame x key hk).mp hm, hk⟩
  · rw [h.counted, (hall.map textSize).sum_eq, List.map_cons, List.sum_cons, Nat.add_sub_cancel_left]

/-- A new record at the tail of the queue. -/
theorem load (h : Books q l t m n b) (hfresh : ∀ e ∈ m, e.1 ≠ r.key) :
    Books (q ++ [r]) l t (insertPlace r.key .queue m) (n + textSize r) b := by
  have hall : (q ++ [r] ++ l ++ t).Perm (r :: (q ++ l ++ t)) := by
    simp only [List.append_assoc, List.singleton_append]
    exact List.perm_middle
  have hnot (p : Place) : r.key ∉ keysAt q l t p := fun hk => hfresh _ ((h.listed p _).mpr hk) rfl
  have hnd : ((q ++ [r] ++ l ++ t).map Record.key).Nodup := by
    rw [(hall.map _).nodup_iff, List.map_cons, List.nodup_cons]
    refine ⟨fun hk => ?_, h.distinct⟩
    simp only [List.map_append, List.mem_append] at hk
    rcases hk with (hk | hk) | hk
    · exact hnot .queue hk
    · exact hnot .lane hk
    · exact hnot .track hk
  refine ⟨hnd, ascending_insertPlace _ _ h.ascending, fun p key => ?_, ?_, h.once, fun e he => ?_⟩
  · rw [mem_insertPlace h.ascending, Prod.mk.injEq]
    constructor
    · rintro (⟨rfl, rfl⟩ | ⟨hm, -⟩)
      · simp [keysAt]
      · have hm := (h.listed p key).mp hm
        cases p
        · simpa [keysAt] using Or.inl hm
        · exact hm
        · exact hm
    · intro hm
      by_cases hk : key = r.key
      · exact .inl ⟨hk, place_unique hnd (k := key) (by simp [keysAt, hk]) hm⟩
      · refine .inr ⟨(h.listed p key).mpr ?_, hk⟩
        cases p
        · simpa [keysAt, hk] using hm
        · exact hm
        · exact hm
  · rw [h.counted, (hall.map textSize).sum_eq, List.map_cons, List.sum_cons, Nat.add_comm]
  · have := h.waits e he
    simp only [List.map_append, List.mem_append] at this ⊢
    exact this.imp_left Or.inl

theorem nodup_waiting (h : Books q l t m n b) : ((q ++ l).map Record.key).Nodup := by
  have := h.distinct
  rw [List.map_append, List.nodup_append'] at this
  exact this.1

/-- The waiting records without one, when it is one of them. -/
theorem perm_without (h : Books q l t m n b) (hr : r ∈ q ++ l) :
    (q ++ l ++ t).Perm (r :: ((q.filter fun x => x.key ≠ r.key) ++ (l.filter fun x => x.key ≠ r.key) ++ t)) := by
  rw [← List.filter_append]
  exact (perm_cons_without h.nodup_waiting hr).append_right t

theorem mem_map_filter_iff {k : Nat} {xs : List Record} (hk : k ≠ r.key) :
    k ∈ (xs.filter fun x => x.key ≠ r.key).map Record.key ↔ k ∈ xs.map Record.key := by
  simp only [List.mem_map, List.mem_filter, decide_eq_true_eq]
  exact ⟨fun ⟨x, hx, e⟩ => ⟨x, hx.1, e⟩, fun ⟨x, hx, e⟩ => ⟨x, ⟨hx, fun he => hk (e ▸ he)⟩, e⟩⟩

theorem keysAt_without {k : Nat} (hk : k ≠ r.key) (p : Place) :
    k ∈ keysAt (q.filter fun x => x.key ≠ r.key) (l.filter fun x => x.key ≠ r.key) t p ↔ k ∈ keysAt q l t p := by
  cases p
  · exact mem_map_filter_iff hk
  · exact mem_map_filter_iff hk
  · exact Iff.rfl

/-- A waiting record outside the backlog leaves the store. -/
theorem forget (h : Books q l t m n b) (hr : r ∈ q ++ l) (hb : ∀ e ∈ b, e.1 ≠ r.key) :
    Books (q.filter fun x => x.key ≠ r.key) (l.filter fun x => x.key ≠ r.key) t
      (m.filter fun e => e.1 ≠ r.key) (n - textSize r) b := by
  refine h.drop (h.perm_without hr) (fun p k hk => keysAt_without hk p) fun e he => ?_
  rw [← List.filter_append]
  exact (mem_map_filter_iff (hb e he)).mpr (h.waits e he)

/-- A waiting record comes into the track, with no record in the backlog. -/
theorem enter (h : Books q l t m n []) (hr : r ∈ q ++ l) :
    Books (q.filter fun x => x.key ≠ r.key) (l.filter fun x => x.key ≠ r.key) (r :: t)
      (insertPlace r.key .track m) n [] := by
  refine h.move ((List.perm_middle).trans (h.perm_without hr).symm) (by simp [keysAt]) (fun p k hk => ?_)
    fun e he => absurd he (by simp)
  refine Iff.trans ?_ (keysAt_without hk p)
  cases p
  · exact Iff.rfl
  · exact Iff.rfl
  · simp [keysAt, hk]

/-- A record of the track leaves the store. -/
theorem finish (h : Books q l (r :: t) m n b) : Books q l t (m.filter fun e => e.1 ≠ r.key) (n - textSize r) b := by
  refine h.drop List.perm_middle (fun p k hk => ?_) h.waits
  cases p
  · exact Iff.rfl
  · exact Iff.rfl
  · simp [keysAt, hk]

/-- A record of the track comes before the queue. -/
theorem toQueue (h : Books q l (r :: t) m n b) : Books (r :: q) l t (insertPlace r.key .queue m) n b := by
  refine h.move (by simpa using (List.perm_middle (l₁ := q ++ l)).symm) (by simp [keysAt]) (fun p k hk => ?_) fun e he => ?_
  · cases p
    · simp [keysAt, hk]
    · exact Iff.rfl
    · simp [keysAt, hk]
  · exact List.mem_cons_of_mem _ (h.waits e he)

/-- A record of the track comes to the lane's tail. -/
theorem toLane (h : Books q l (r :: t) m n b) : Books q (l ++ [r]) t (insertPlace r.key .lane m) n b := by
  refine h.move (by simp) (by simp [keysAt]) (fun p k hk => ?_) fun e he => ?_
  · cases p
    · exact Iff.rfl
    · simp [keysAt, hk]
    · simp [keysAt, hk]
  · have := h.waits e he
    simp only [List.map_append, List.mem_append] at this ⊢
    exact this.imp_right Or.inl

/-- A change of a record of the track that leaves its key and its text. -/
theorem relabel (h : Books q l (r :: t) m n b) {x : Record} (hk : x.key = r.key) (hs : textSize x = textSize r) :
    Books q l (x :: t) m n b where
  distinct := by simpa [hk] using h.distinct
  ascending := h.ascending
  listed p key := by
    rw [h.listed]
    cases p
    · exact Iff.rfl
    · exact Iff.rfl
    · simp [keysAt, hk]
  counted := by simpa [hs] using h.counted
  once := h.once
  waits := h.waits

theorem backlogTail {e : Nat × BacklogOutcome} (h : Books q l t m n (e :: b)) : Books q l t m n b :=
  { h with
    once := (List.nodup_cons.mp h.once).2
    waits := fun x hx => h.waits x (List.mem_cons_of_mem e hx) }

/-- Waiting records come into the backlog, each where it is not there yet. -/
theorem enterBacklog (h : Books q l t m n b) (o : BacklogOutcome) {rs : List Record} (hrs : rs.Sublist (q ++ l))
    {test : Record → Bool} (htest : ∀ r, test r = true → r.key ∉ b.map Prod.fst) :
    Books q l t m n (b ++ (rs.filter test).map fun r => (r.key, o)) where
  distinct := h.distinct
  ascending := h.ascending
  listed := h.listed
  counted := h.counted
  once := by
    rw [List.map_append, List.map_map, List.nodup_append']
    refine ⟨h.once, h.nodup_waiting.sublist ((List.filter_sublist.trans hrs).map Record.key), ?_⟩
    intro k hk hm
    obtain ⟨r, hr, rfl⟩ := List.mem_map.mp hm
    exact htest r (List.mem_filter.mp hr).2 hk
  waits e he := by
    rcases List.mem_append.mp he with he | he
    · exact h.waits e he
    · obtain ⟨r, hr, rfl⟩ := List.mem_map.mp he
      exact List.mem_map_of_mem (hrs.subset (List.mem_filter.mp hr).1)

/-- Records of the track come before the queue in their order. -/
theorem toQueues (rs : List Record) (h : Books q l (rs ++ t) m n b) :
    Books (rs ++ q) l t (rs.foldl (fun m r => insertPlace r.key .queue m) m) n b := by
  induction rs generalizing q m with
  | nil => exact h
  | cons r rs ih => exact (ih h.toQueue).perm List.perm_middle.symm (List.Perm.refl _) (List.Perm.refl _)

end Books

end Sys2Proof.Machine


/-! Every step keeps the records accounted for and the gate position free of pieces (O56). -/

namespace Sys2Proof.Machine

/-! ## The books of a state -/

/-- The books of a state whose track holds the records `t`. -/
def Accounted (t : List Record) (s : State) : Prop :=
  Books s.store.queue s.store.lane t s.store.map s.store.textUsed s.store.backlog

theorem not_mem_backlog_of_outcome {key : Nat} {s : State} (h : backlogOutcome key s = none) :
    ∀ e ∈ s.store.backlog, e.1 ≠ key := by
  simpa [backlogOutcome] using h

theorem accounted_storeWork (t : List Record) : StoreWork (Accounted t) where
  pins h _ := h
  pending h _ := h
  calls h _ := h
  free h _ := h
  link h _ _ := h
  claim h _ := h
  gate h _ _ _ := h
  latch h := h
  unlatch h := h
  fault h _ _ := h
  stations h _ := h
  lines h _ _ := h
  verify h _ _ := h
  entry h _ _ := h
  reg h _ _ := h
  disp h _ _ := h
  track h _ _ := h
  bundle h _ _ _ := h
  removeBundle h _ := h
  job h _ _ _ _ := h
  load h r hr := h.load (placeOf_eq_none_iff.mp hr.fresh)
  dropEntry {s} h e rest hb _ := by
    rw [Accounted, hb] at h
    exact h.backlogTail
  releaseEntry {s} h o rest r hb hr := by
    rw [Accounted, hb] at h
    obtain ⟨hnot, -⟩ := List.nodup_cons.mp h.once
    exact h.backlogTail.forget (waitingRecord_mem hr).1 fun e he hk => hnot (List.mem_map.mpr ⟨e, he, hk⟩)
  forget h r hr hb := Books.forget h (waitingRecord_mem hr).1 (not_mem_backlog_of_outcome hb)
  enterBacklog h o rs hrs := Books.enterBacklog h o hrs fun r hr hmem => by
    obtain ⟨e, he, hk⟩ := List.mem_map.mp hmem
    exact not_mem_backlog_of_outcome (Option.isNone_iff_eq_none.mp hr) e he hk

/-! ## Records in hand -/

variable {s : State} {t : List Record}

theorem accounted_endLife {r : Record} (h : Accounted (r :: t) s) (e : RecordEnd) : Accounted t (endLife .track e r s) :=
  (accounted_storeWork t).afterLife (s := forgetRecord r s) (Books.finish h) .track e r

theorem accounted_sendToLane {r : Record} (h : Accounted (r :: t) s) (o : OffReason) : Accounted t (sendToLane o r s) := by
  unfold sendToLane
  split
  · exact Books.toLane h
  · exact accounted_endLife h _

theorem accounted_sendToLanes (o : OffReason) (rs : List Record) (h : Accounted (rs ++ t) s) :
    Accounted t (rs.foldl (fun s r => sendToLane o r s) s) := by
  induction rs generalizing s with
  | nil => exact h
  | cons r rs ih => exact ih (accounted_sendToLane h o)

theorem accounted_broughtBack (rs : List Record) (h : Accounted (rs ++ t) s) : Accounted t (broughtBack rs s) := by
  rw [Accounted, store_broughtBack]
  exact Books.toQueues rs h

theorem queue_sendToLane (o : OffReason) (r : Record) (s : State) : (sendToLane o r s).store.queue = s.store.queue := by
  unfold sendToLane
  split
  · rfl
  · rw [(checked_endLife .track _ r s).queue, store_recordOut]
    rfl

theorem queue_sendToLanes (o : OffReason) (rs : List Record) (s : State) :
    (rs.foldl (fun s r => sendToLane o r s) s).store.queue = s.store.queue := by
  induction rs generalizing s with
  | nil => rfl
  | cons r rs ih => exact (ih _).trans (queue_sendToLane o r s)

/-- The pieces by the list their records came from. -/
theorem perm_sources (xs : List Piece) :
    (xs.map Piece.record).Perm ((xs.filter fun x => x.source == .lane).map Piece.record ++
      (xs.filter fun x => x.source == .queue).map Piece.record) := by
  have hlane : (fun x : Piece => x.source == .lane) = fun x => !(x.source == .queue) := by
    funext x
    cases x.source <;> rfl
  rw [← List.map_append, hlane]
  exact ((List.perm_append_comm.trans (List.filter_append_perm (fun x : Piece => x.source == .queue) xs)).map _).symm

/-- The purge places every record that the track held (R58, R80). -/
theorem accounted_returnPurged {xs : List Piece} (h : Accounted (xs.map Piece.record) s) :
    Accounted [] (returnPurged xs s) := by
  have hperm := (perm_sources xs).trans List.perm_append_comm
  have hplaced : Accounted [] (placePurged xs s) := by
    rw [placePurged_eq]
    refine accounted_sendToLanes _ _ (accounted_broughtBack _ ?_)
    rw [List.append_nil]
    exact Books.perm h (List.Perm.refl _) (List.Perm.refl _) hperm.symm
  have hqueue : (placePurged xs s).store.queue =
      (xs.filter fun x => x.source == .queue).map Piece.record ++ s.store.queue := by
    rw [placePurged_eq, queue_sendToLanes, store_broughtBack]
  have w := accounted_storeWork []
  unfold returnPurged
  dsimp only
  split
  · refine w.completionCheck (w.drainBacklog (w.enterBacklog hplaced .aborted _ ?_))
    rw [placedRecords, hqueue]
    exact (List.sublist_append_left _ _).append List.filter_sublist
  · exact w.completionCheck hplaced

theorem accounted_placeRejected {x : Piece} (h : Accounted (x.record :: t) s) : Accounted t (placeRejected x s) := by
  unfold placeRejected
  dsimp only
  split
  · exact accounted_endLife h _
  · split
    · exact accounted_endLife h _
    · split
      · exact accounted_sendToLane h _
      · split
        · exact accounted_sendToLane (r := { x.record with attempt := x.record.attempt + 1 }) (Books.relabel h rfl rfl) _
        · exact accounted_endLife h _

theorem accounted_decidePiece {x : Piece} (h : Accounted (x.record :: t) s) : Accounted t (decidePiece x s) := by
  unfold decidePiece
  split
  · exact accounted_placeRejected h
  · split
    · exact accounted_placeRejected (x := { x with proof := true }) h
    · exact accounted_endLife ((accounted_storeWork _).post h _ _) _

/-! ## The records of the track -/

/-- The records of the pieces in a track, oldest first. -/
def recordsOf (t : List TrackEntry) : List Record := (t.filterMap pieceOf).reverse.map Piece.record

theorem recordsOf_of_map {t x : List TrackEntry} (h : x.map recordEssence = t.map recordEssence) :
    recordsOf x = recordsOf t := by
  have hfrom (t : List TrackEntry) : recordsOf t = (t.filterMap recordEssence).reverse.map Prod.fst := by
    have he : t.filterMap recordEssence = (t.filterMap pieceOf).map fun x => (x.record, x.source) := by
      rw [List.map_filterMap]
      rfl
    simp [recordsOf, he, Function.comp_def]
  rw [hfrom, hfrom, filterMap_of_map h]

theorem recordsOf_append (t x : List TrackEntry) : recordsOf (t ++ x) = recordsOf x ++ recordsOf t := by
  simp [recordsOf]

theorem recordsOf_cons (e : TrackEntry) (t : List TrackEntry) : recordsOf (e :: t) = recordsOf t ++ recordsOf [e] :=
  recordsOf_append [e] t

theorem recordsOf_of_no_pieces {t : List TrackEntry} (h : t.filterMap pieceOf = []) : recordsOf t = [] := by
  simp [recordsOf, h]

theorem recordsOf_of_no_piece {e : TrackEntry} (h : pieceOf e = none) : recordsOf [e] = [] := by simp [recordsOf, h]

/-- An entry without a piece in the place of another. -/
theorem recordsOf_set_same {t : List TrackEntry} {p : Nat} {e x : TrackEntry} (h : t[p]? = some e) (he : pieceOf e = none)
    (hx : pieceOf x = none) : recordsOf (t.set p x) = recordsOf t :=
  recordsOf_of_map (Quiet.map_set_of_getElem? h (by simp [recordEssence, he, hx]))

/-- A piece taken out of the track. -/
theorem recordsOf_set_of_piece {t : List TrackEntry} {p : Nat} {y : Piece} {x : TrackEntry} (h : t[p]? = some (.piece y))
    (hx : pieceOf x = none) : (recordsOf t).Perm (y.record :: recordsOf (t.set p x)) := by
  obtain ⟨a, b, rfl, hset⟩ := exists_split_of_getElem? h
  have hy : recordsOf [.piece y] = [y.record] := rfl
  rw [hset, recordsOf_append, recordsOf_append, recordsOf_cons, recordsOf_cons x, recordsOf_of_no_piece hx, hy]
  simp only [List.append_nil, List.append_assoc, List.singleton_append]
  exact List.perm_middle

/-- The books of a state and its own track. -/
def InBooks (s : State) : Prop := Accounted (recordsOf s.track) s

theorem recordsAccounted_iff (s : State) : RecordsAccounted s ↔ InBooks s := by
  constructor
  · rintro ⟨hkeys, hasc, hq, hl, ht, htext, honce, hwaits⟩
    refine ⟨hkeys, hasc, fun p key => ?_, htext, honce, fun e he => List.mem_map.mpr (hwaits e he)⟩
    cases p
    · exact (hq key).trans List.mem_map.symm
    · exact (hl key).trans List.mem_map.symm
    · exact (ht key).trans List.mem_map.symm
  · rintro ⟨hkeys, hasc, hlisted, htext, honce, hwaits⟩
    exact ⟨hkeys, hasc, fun key => (hlisted .queue key).trans List.mem_map, fun key => (hlisted .lane key).trans List.mem_map,
      fun key => (hlisted .track key).trans List.mem_map, htext, honce, fun e he => List.mem_map.mp (hwaits e he)⟩

/-- What is kept with any records in the track is kept with those that stand there. -/
theorem inBooks_of_track {s u : State} (h : Accounted (recordsOf s.track) u) (ht : recordsOf u.track = recordsOf s.track) :
    InBooks u := by
  rw [InBooks, ht]
  exact h

theorem inBooks_storeWork : StoreWork InBooks where
  pins h _ := h
  pending h _ := h
  calls h _ := h
  free h _ := h
  link h _ _ := h
  claim h _ := h
  gate h _ _ _ := h
  latch h := h
  unlatch h := h
  fault h _ _ := h
  stations h _ := h
  lines h _ _ := h
  verify h _ _ := h
  entry h _ _ := h
  reg h _ _ := h
  disp h _ _ := h
  track h _ hx := inBooks_of_track h (recordsOf_of_map (recordEssence_of_map hx))
  bundle h _ _ _ := h
  removeBundle h _ := h
  job h _ _ _ _ := h
  load h r hr := (accounted_storeWork _).load h r hr
  dropEntry h e rest hb hn := (accounted_storeWork _).dropEntry h e rest hb hn
  releaseEntry h o rest r hb hr := (accounted_storeWork _).releaseEntry h o rest r hb hr
  forget h r hr hb := (accounted_storeWork _).forget h r hr hb
  enterBacklog h o rs hrs := (accounted_storeWork _).enterBacklog h o rs hrs

theorem inBooks_carrierFree : CarrierFree InBooks where
  toQuiet := inBooks_storeWork.toQuiet
  carrier h _ _ := h
  orders h _ hx := inBooks_of_track h (recordsOf_of_map hx)
  anyLines h _ := h

theorem inBooks_purgeTrack (h : InBooks s) : InBooks (purgeTrack s) := by
  have hp : Accounted [] (purgeTrack s) :=
    accounted_returnPurged (s := s.setTrack (s.track.map purgedEntry)) (xs := (pieces s).reverse) h
  rw [InBooks, recordsOf_of_no_pieces (t := (purgeTrack s).track) (pieces_purgeTrack s)]
  exact hp

theorem inBooks_takeArrival (h : InBooks s) (hd : StoreFree.GateFree s.disp) : InBooks (takeArrival s) := by
  refine takeArrival_of inBooks_storeWork.toQuiet h hd fun x hx => ?_
  have hperm := recordsOf_set_of_piece (x := .gated x.pocket x.tag) (pieceAt_eq_some_iff.mp hx) rfl
  have hdone := accounted_decidePiece (s := setEntryAt (geometryItems s).gate (.gated x.pocket x.tag) s) (x := x)
    (Books.perm h (List.Perm.refl _) (List.Perm.refl _) hperm.symm)
  exact inBooks_of_track (s := setEntryAt (geometryItems s).gate (.gated x.pocket x.tag) s) hdone (by simp)

end Sys2Proof.Machine


/-! Every step keeps the records accounted for and the gate position free of pieces (O56): the gate position, the pitch
boundary and the step. -/

namespace Sys2Proof.Machine

variable {s : State}

/-! ## The gate position -/

theorem trackLoss_of_map {β : Type} {t x : List TrackEntry} {g : TrackEntry → Option β}
    (hg : ∀ e, g e = none ↔ pieceOf e = none) (h : x.map g = t.map g) : TrackLoss t x := by
  refine ⟨length_of_map h, fun p y hy => ?_⟩
  obtain ⟨e, he, hge⟩ := getElem?_of_map h hy
  cases e with
  | piece z => exact ⟨z, he⟩
  | _ => exact absurd ((hg _).mp (hge.symm.trans ((hg _).mpr rfl))) (by simp [pieceOf])

theorem gateHolds_loss (h : GateHoldsNoPiece s) {x : List TrackEntry} (hx : TrackLoss s.track x) :
    GateHoldsNoPiece (s.setTrack x) := by
  by_contra hp
  obtain ⟨y, hy⟩ := Option.ne_none_iff_exists'.mp hp
  obtain ⟨z, hz⟩ := hx.2 _ y (pieceAt_eq_some_iff.mp hy)
  exact absurd (h.symm.trans (pieceAt_eq_some_iff.mpr hz)) (by simp)

theorem gateHolds_of_no_pieces (h : pieces s = []) : GateHoldsNoPiece s := by
  by_contra hp
  obtain ⟨y, hy⟩ := Option.ne_none_iff_exists'.mp hp
  exact (no_pieces_iff _).mp h _ y (pieceAt_eq_some_iff.mp hy)

theorem gateHolds_storeFree : StoreFree GateHoldsNoPiece where
  pins h _ := h
  pending h _ := h
  calls h _ := h
  free h _ := h
  link h _ _ := h
  claim h _ := h
  gate h _ _ _ := h
  latch h := h
  unlatch h := h
  fault h _ _ := h
  stations h _ := h
  lines h _ _ := h
  verify h _ _ := h
  entry h _ _ := h
  reg h _ _ := h
  disp h _ _ := h
  track h _ hx := gateHolds_loss h (trackLoss_of_map essence_eq_none_iff hx)
  bundle h _ _ _ := h
  removeBundle h _ := h
  job h _ _ _ _ := h
  store h _ _ := h

theorem gateHolds_carrierFree : CarrierFree GateHoldsNoPiece where
  toQuiet := gateHolds_storeFree.toQuiet
  carrier h _ _ := h
  orders h _ hx := gateHolds_loss h (trackLoss_of_map recordEssence_eq_none_iff hx)
  anyLines h _ := h

theorem gateHolds_trackFree : TrackFree GateHoldsNoPiece where
  toQuiet := gateHolds_storeFree.toQuiet
  loss h _ hx := gateHolds_loss h hx

theorem gate_pos_of_piece (h : TrackOk s) {p : Nat} {x : TrackEntry} (hx : s.track[p]? = some x) :
    0 < (geometryItems s).gate := by
  obtain ⟨hlt, -⟩ := List.getElem?_eq_some_iff.mp hx
  obtain ⟨hfit, hlen⟩ := h
  unfold geometryItems
  cases hg : s.setup.geometry with
  | none => simp [hlen, hg] at hlt
  | some g =>
    obtain ⟨-, -, -, -, -, ⟨hgate, -⟩, -⟩ := (geometryInRange_iff g).mp (hfit g hg)
    simp only [Option.getD_some]
    omega

/-- An entry at position 0 is none at the gate. -/
theorem gateHolds_setEntryAt (h : GateHoldsNoPiece s) (ht : TrackOk s) (e : TrackEntry) :
    GateHoldsNoPiece (setEntryAt 0 e s) := by
  by_contra hp
  obtain ⟨y, hy⟩ := Option.ne_none_iff_exists'.mp hp
  have hget : (s.track.set 0 e)[(geometryItems s).gate]? = some (.piece y) := pieceAt_eq_some_iff.mp hy
  obtain ⟨hlt, -⟩ := List.getElem?_eq_some_iff.mp hget
  rw [List.length_set] at hlt
  have hpos := gate_pos_of_piece ht (List.getElem?_eq_getElem hlt)
  rw [List.getElem?_set_ne hpos.ne] at hget
  exact absurd (h.symm.trans (pieceAt_eq_some_iff.mpr hget)) (by simp)

/-- The gate position free of pieces, with the track's length, which keeps it from position 0. -/
theorem gateHolds_entryFree : EntryFree fun s => GateHoldsNoPiece s ∧ TrackOk s where
  toStoreFree := gateHolds_storeFree.and trackOk_free.toStoreFree
  createBundle h _ _ _ := h
  putPiece h hr x := ⟨gateHolds_setEntryAt h.1 h.2 _, trackOk_free.putPiece h.2 hr x⟩
  putEmpty h e he := ⟨gateHolds_trackFree.clearEntry h.1 0 he, trackOk_free.toTrackFree.clearEntry h.2 0 he⟩
  issue h hm hroom tag r := by
    refine ⟨gateHolds_storeFree.post (gateHolds_carrierFree.carrier h.1 _ ⟨fun _ => ?_, .inr rfl⟩) _ _,
      trackOk_free.entryFree.issue h.2 hm hroom tag r⟩
    simpa using Nat.succ_le_of_lt hroom

theorem gateHolds_clearEntry {e : TrackEntry} (he : pieceOf e = none) :
    GateHoldsNoPiece (setEntryAt (geometryItems s).gate e s) := by
  by_contra hp
  obtain ⟨y, hy⟩ := Option.ne_none_iff_exists'.mp hp
  have hget : (s.track.set (geometryItems s).gate e)[(geometryItems s).gate]? = some (.piece y) :=
    pieceAt_eq_some_iff.mp hy
  obtain ⟨hlt, -⟩ := List.getElem?_eq_some_iff.mp hget
  rw [List.length_set] at hlt
  rw [List.getElem?_set_self hlt] at hget
  obtain rfl := Option.some.inj hget
  simp [pieceOf] at he

/-- The arrival leaves no piece at the gate (R124). -/
theorem gateHolds_takeArrival (hd : StoreFree.GateFree s.disp) : GateHoldsNoPiece (takeArrival s) := by
  unfold takeArrival
  dsimp only
  split
  · next x _ =>
    exact gateHolds_storeFree.decidePiece (gateHolds_clearEntry rfl) (by simpa using hd) x
  all_goals
    next he =>
      simp only [GateHoldsNoPiece, pieceAt, State.setDisp_track, State.setDisp_setup, geometryItems, entryAt] at he ⊢
      rw [he]

theorem gateHolds_dispositionBoundary (s : State) : GateHoldsNoPiece (dispositionBoundary s) :=
  gateHolds_takeArrival (gateFree_cleared _ _)

/-! ## The pitch boundary -/

theorem recordsOf_advanceTrack (h : GateHoldsNoPiece s) (ht : TrackOk s) (hg : ∃ g, s.setup.geometry = some g) :
    recordsOf (advanceTrack s).track = recordsOf s.track := by
  obtain ⟨g, hg⟩ := hg
  have hlen : s.track.length = (geometryItems s).gate + 1 := by simpa [hg, geometryItems] using ht.2
  rcases List.eq_nil_or_concat s.track with hnil | ⟨l, e, hl⟩
  · simp [hnil] at hlen
  · have hgate : (geometryItems s).gate = l.length := by simpa [hl] using hlen.symm
    have he : pieceOf e = none := by
      cases e with
      | piece x =>
        have hx : pieceAt (geometryItems s).gate s = some x := pieceAt_eq_some_iff.mpr (by simp [hl, hgate])
        exact absurd (h.symm.trans hx) (by simp)
      | _ => rfl
    rw [advanceTrack, State.setTrack_track, hl, List.concat_eq_append, List.dropLast_concat, recordsOf_cons, recordsOf_append,
      recordsOf_of_no_piece he, recordsOf_of_no_piece rfl, List.append_nil, List.nil_append]

/-- What holds of the records while block events of a boundary are due. -/
def RecordsDue (l : List PulseTask) (s : State) : Prop :=
  InBooks s ∧ TrackOk s ∧ (.entry ∈ l → PocketFree s) ∧ (.disposition ∉ l → GateHoldsNoPiece s)

theorem inBooks_putEmpty (h : InBooks s) (hp : PocketFree s) {e : TrackEntry} (he : pieceOf e = none) :
    InBooks (setEntryAt 0 e s) := by
  obtain ⟨a, ha, hn⟩ := hp
  exact inBooks_of_track h (recordsOf_set_same ha hn he)

theorem inBooks_enterRecord (h : InBooks s) (hp : PocketFree s) {src : SourceList} {r : Record} {bay : Option (Fin 16)}
    (hin : Entering src r bay s) (plan : List PlanPair) : InBooks (enterRecord src r plan bay s) := by
  have hr : r ∈ s.store.queue ++ s.store.lane := by
    cases src with
    | lane => exact List.mem_append_right _ (List.mem_of_head? (hin.lane rfl))
    | queue => exact List.mem_append_left _ (List.mem_of_head? (hin.queue rfl).2.1)
  rw [InBooks, Accounted, hin.backlog] at h
  have hentered := h.enter hr
  obtain ⟨e, he, hn⟩ := hp
  have hrecords : (recordsOf (s.track.set 0 (.piece (newPiece src r plan s)))).Perm (r :: recordsOf s.track) := by
    cases ht : s.track with
    | nil => simp [ht] at he
    | cons a t =>
      obtain rfl : a = e := by simpa [ht] using he
      have hpiece : recordsOf [.piece (newPiece src r plan s)] = [r] := rfl
      rw [List.set_cons_zero, recordsOf_cons, recordsOf_cons a, recordsOf_of_no_piece hn, hpiece, List.append_nil]
      exact List.perm_append_singleton r _
  rw [InBooks, Accounted, track_enterRecord, store_enterRecord, hin.backlog]
  exact hentered.perm (List.Perm.refl _) (List.Perm.refl _) hrecords

theorem inBooks_entryWork : EntryWork (fun s => InBooks s ∧ PocketFree s) InBooks where
  before := inBooks_storeWork.toQuiet.and pocketFree_storeFree.toQuiet
  after := inBooks_storeWork.toQuiet
  done h := h.1
  putEmpty h _ he := ⟨inBooks_putEmpty h.1 h.2 he, pocketFree_put h.2 he⟩
  enterRecord h _ _ plan _ hin := inBooks_enterRecord h.1 h.2 hin plan

/-- What O56 asks for, with the track's length. -/
def RecordsFit (s : State) : Prop := InBooks s ∧ GateHoldsNoPiece s ∧ TrackOk s

theorem recordsFit_storeWork : StoreWork RecordsFit :=
  inBooks_storeWork.and (gateHolds_storeFree.work.and trackOk_free.toStoreFree.work)

theorem recordsDue_boundaryWork : BoundaryWork RecordsFit RecordsDue where
  before := recordsFit_storeWork.toQuiet
  during _ := inBooks_storeWork.toQuiet.and (trackOk_free.toQuiet.and
    ((pocketFree_storeFree.toQuiet.imp _).and (gateHolds_storeFree.toQuiet.imp _)))
  advance {s} h hg l _ _ hd := by
    obtain ⟨hbooks, hgate, ht⟩ := h
    exact ⟨inBooks_of_track hbooks (recordsOf_advanceTrack hgate ht hg), trackOk_free.advance ht hg,
      fun _ => pocketFree_advance s, fun hn => absurd hd hn⟩
  entry {s l} hl h := by
    obtain ⟨hbooks, ht, hp, hgate⟩ := h
    refine ⟨inBooks_entryWork.entryEvent ⟨hbooks, hp List.mem_cons_self⟩, trackOk_free.entryFree.entryEvent ht,
      fun hm => absurd hm hl, fun hn => ?_⟩
    exact (gateHolds_entryFree.entryEvent ⟨hgate (by simpa using hn), ht⟩).1
  carrier {s l} _ h := by
    obtain ⟨hbooks, ht, hp, hgate⟩ := h
    exact ⟨inBooks_carrierFree.settleCarrier hbooks, trackOk_free.toCarrierFree.settleCarrier ht,
      fun hm => pocketFree_carrierFree.settleCarrier (hp (List.mem_cons_of_mem _ hm)),
      fun hn => gateHolds_carrierFree.settleCarrier (hgate (by simpa using hn))⟩
  disposition {s l} _ h := by
    obtain ⟨hbooks, ht, hp, -⟩ := h
    exact ⟨dispositionBoundary_of inBooks_storeWork inBooks_takeArrival hbooks,
      dispositionBoundary_of trackOk_free.toStoreFree.work
        (fun h hd => takeArrival_of_free trackOk_free.toStoreFree trackOk_free.toTrackFree h hd) ht,
      fun hm => pocketFree_disposition (hp (List.mem_cons_of_mem _ hm)), fun _ => gateHolds_dispositionBoundary s⟩

/-! ## The step -/

theorem inBooks_shapeFree : ShapeFree InBooks where
  restart h _ := h
  resize h hp _ hx := inBooks_of_track h
    ((recordsOf_of_no_pieces hx).trans (recordsOf_of_no_pieces (t := State.track _) hp).symm)

theorem gateHolds_shapeFree : ShapeFree GateHoldsNoPiece where
  restart h _ := h
  resize _ _ _ hx := gateHolds_of_no_pieces hx

theorem inBooks_of_nothing (hs : s.store = .powerOn) (hp : pieces s = []) : InBooks s := by
  rw [InBooks, Accounted, recordsOf_of_no_pieces (t := s.track) hp, hs]
  refine ⟨List.nodup_nil, List.Pairwise.nil, fun p key => ?_, rfl, List.nodup_nil, fun _ he => nomatch he⟩
  cases p <;> simp [Store.powerOn, keysAt]

theorem recordsFit_work : Work RecordsFit RecordsFit where
  toStoreWork := recordsFit_storeWork
  done h := h
  after := recordsFit_storeWork.toQuiet
  loseRegistration h hr := ⟨loseRegistration_of inBooks_storeWork.toQuiet h.1 inBooks_purgeTrack
      (fun h => inBooks_carrierFree.enterHold h),
    gateHolds_of_no_pieces (pieces_loseRegistration _), trackOk_work.loseRegistration h.2.2 hr⟩
  enterHold h c := ⟨inBooks_carrierFree.enterHold h.1 c, gateHolds_carrierFree.enterHold h.2.1 c,
    trackOk_work.enterHold h.2.2 c⟩
  reportPrinted h hm n := ⟨inBooks_carrierFree.reportPrinted h.1 n, gateHolds_carrierFree.reportPrinted h.2.1 n,
    trackOk_work.reportPrinted h.2.2 hm n⟩
  reportSpoiled h hm n := ⟨inBooks_carrierFree.reportSpoiled h.1 n, gateHolds_carrierFree.reportSpoiled h.2.1 n,
    trackOk_work.reportSpoiled h.2.2 hm n⟩
  reportWithdrawn h hm n := ⟨inBooks_carrierFree.reportWithdrawn h.1 n, gateHolds_carrierFree.reportWithdrawn h.2.1 n,
    trackOk_work.reportWithdrawn h.2.2 hm n⟩
  reportLate h hm n := ⟨inBooks_carrierFree.reportLate h.1 n, gateHolds_carrierFree.reportLate h.2.1 n,
    trackOk_work.reportLate h.2.2 hm n⟩
  runCarrier h _ := h
  dumpPhase h := ⟨inBooks_carrierFree.dumpPhase h.1, gateHolds_carrierFree.dumpPhase h.2.1, trackOk_work.dumpPhase h.2.2⟩
  applyPhase h := ⟨inBooks_carrierFree.applyPhase h.1, gateHolds_carrierFree.applyPhase h.2.1,
    trackOk_work.applyPhase h.2.2⟩
  issueBoundary h _ order hn := by
    obtain ⟨hbooks, ht, -, hgate⟩ := recordsDue_boundaryWork.issueBoundary h order hn
    exact ⟨hbooks, hgate (List.not_mem_nil), ht⟩
  powerOn h := ⟨inBooks_of_nothing rfl rfl, gateHolds_of_no_pieces rfl, trackOk_work.powerOn h.2.2⟩
  restarted h := ⟨inBooks_of_nothing rfl (pieces_restartedState _), gateHolds_of_no_pieces (pieces_restartedState _),
    trackOk_work.restarted h.2.2⟩
  setGeometry h g p num ho ha := ⟨setGeometry_of inBooks_storeWork inBooks_shapeFree g h.1 ho p num,
    setGeometry_of gateHolds_storeFree.work gateHolds_shapeFree g (gateHolds_of_no_pieces (pieces_of_setupOpen ho)) ho p num,
    trackOk_work.setGeometry h.2.2 g p num ho ha⟩

/-- Settles O56: a record that changes its list takes its map entry along, and one that ends its life its text too; a piece
is decided by the disposition event of the boundary that brings it to the gate. -/
theorem stepKeepsRecordsAccounted : Obligations.StepKeepsRecordsAccounted := by
  rintro s t ⟨hrecords, hgate, hfits⟩ hstep
  obtain ⟨hb, hg, -⟩ :=
    recordsFit_work.step ⟨(recordsAccounted_iff s).mp hrecords, hgate, (trackFits_iff s).mp hfits⟩ hstep
  exact ⟨(recordsAccounted_iff t).mpr hb, hg⟩

end Sys2Proof.Machine


/-! The arrival at the gate and the placing of a rejected record (R124 to R127). -/

namespace Sys2Proof.Machine

/-! ## A bundle after the end of a record's life -/

/-- The close check leaves a bundle that stays its counts (R140, R141). -/
theorem counts_of_closeCheck {n : Nat} {x y : Bundle} {s : State} (hx : findBundle n s = some x)
    (hy : findBundle n (closeCheck n s) = some y) : ∃ a e, y = { x with state := a, tieTimer := e } := by
  by_cases hr : closeReady x s = true
  · by_cases hd : x.delivered = 0 ∧ x.suspects = 0
    · rw [findBundle_closeCheck_emptied hx hr hd.1 hd.2] at hy
      cases hy
    · rw [findBundle_closeCheck_broken hx hr hd] at hy
      exact ⟨_, _, (Option.some.inj hy).symm⟩
  · rw [closeCheck_of_not_ready hx hr, hx] at hy
    exact ⟨x.state, x.tieTimer, (Option.some.inj hy).symm⟩

theorem findBundle_post (p : Port) (f : Frame) (n : Nat) (s : State) : findBundle n (post p f s) = findBundle n s :=
  findBundle_congr (by simp) n

theorem findBundle_completionCheck (n : Nat) (s : State) : findBundle n (completionCheck s) = findBundle n s :=
  findBundle_congr (by simp) n

theorem number_countEnd (p : Place) (e : RecordEnd) (v : BitVec 24) (b : Bundle) : (countEnd p e v b).number = b.number :=
  (bundleKept_countEnd p e v).number b

/-- The counts of the record's bundle after the end of its life (R57 step 3, R138). -/
theorem counts_of_endLife {p : Place} {e : RecordEnd} {r : Record} {x y : Bundle} {s : State}
    (hx : findBundle r.bundle s = some x) (hy : findBundle r.bundle (endLife p e r s) = some y) :
    ∃ a m, y = { countEnd p e (Config.freeCount s.freeTaken) x with state := a, tieTimer := m } := by
  have hout : findBundle r.bundle (post .address (outcomeFrame r e) (recordOut p e r s)) =
      some (countEnd p e (Config.freeCount s.freeTaken) x) := by
    rw [findBundle_post, findBundle_congr (bundles_recordOut p e r s), findBundle_updateBundle_same (number_countEnd p e _),
      hx]
    rfl
  exact counts_of_closeCheck hout (by rwa [endLife_eq, findBundle_completionCheck] at hy)

/-- The end of a record's life as it is told of states with the same store and messages to the address port. -/
theorem RecordEnded.congr {e : RecordEnd} {r : Record} {s t u v : State} (h : RecordEnded e r u v)
    (hstore : u.store = s.store) (hqueue : txQueue .address u = txQueue .address s) (htstore : t.store = v.store)
    (htqueue : txQueue .address t = txQueue .address v) : RecordEnded e r s t := by
  obtain ⟨hplace, htext, hnotice⟩ := h
  rw [txHasRoom, hqueue, ← htqueue] at hnotice
  exact ⟨by rwa [placeOf, htstore], by rw [htstore, htext, hstore], hnotice⟩

/-- The end of the life of a record of the track, off sequence (R57). -/
theorem offSequence_of_endLife {o : OffReason} {r : Record} {b : Bundle} {s t u v : State}
    (hv : endLife .track (.offSequence o) r u = v) (hb : findBundle r.bundle u = some b) (hstore : u.store = s.store)
    (hlink : u.link = s.link) (htstore : t.store = v.store) (htlink : t.link = v.link) (htbundles : t.bundles = v.bundles) :
    RecordEnded (.offSequence o) r s t ∧ t.store.lane = s.store.lane ∧
      ∃ v : BitVec 24, ∀ y, findBundle r.bundle t = some y →
        y.inFlight = b.inFlight - 1 ∧ y.inLane = b.inLane ∧ y.delivered = b.delivered ∧ y.suspects = b.suspects ∧
          y.offSequence = if b.offSequence < 16777215 then b.offSequence + 1 else v.toNat := by
  subst hv
  refine ⟨(recordEnded_endLife .track _ r u).congr hstore ?_ htstore ?_, ?_, Config.freeCount u.freeTaken, fun y hy => ?_⟩
  · simp only [txQueue, portState, hlink]
  · simp only [txQueue, portState, htlink]
  · rw [htstore, lane_endLife_track, hstore]
  · rw [findBundle_congr htbundles] at hy
    obtain ⟨a, m, rfl⟩ := counts_of_endLife hb hy
    exact ⟨rfl, rfl, rfl, rfl, rfl⟩

/-! ## The arrival -/

section
variable {x : Piece} {b : Bundle} {s : State}

/-- The state in which a rejected piece is placed: its entry GATED, and the proof request taken by a GOOD piece. -/
def arrived (x : Piece) (s : State) : State :=
  (setEntryAt (geometryItems s).gate (.gated x.pocket x.tag) s).setDisp
    { s.disp with proofPending := x.rejectDue && s.disp.proofPending }

theorem takeArrival_of_piece (hx : entryAt (geometryItems s).gate s = some (.piece x)) :
    takeArrival s = decidePiece x (setEntryAt (geometryItems s).gate (.gated x.pocket x.tag) s) := by
  simp only [takeArrival, hx]

theorem takeArrival_of_reject (hx : entryAt (geometryItems s).gate s = some (.piece x))
    (h : x.rejectDue = true ∨ s.disp.proofPending = true) :
    takeArrival s = rejectPiece { x with proof := x.proof || !x.rejectDue } (arrived x s) := by
  rw [takeArrival_of_piece hx, decidePiece]
  by_cases hr : x.rejectDue = true
  · have hproof : (x.proof || !x.rejectDue) = x.proof := by simp [hr]
    have hpending : (x.rejectDue && s.disp.proofPending) = s.disp.proofPending := by simp [hr]
    rw [if_pos hr, arrived, hproof, hpending]
    rfl
  · have hproof : (x.proof || !x.rejectDue) = true := by simp [hr]
    have hpending : (x.rejectDue && s.disp.proofPending) = false := by simp [hr]
    rw [if_neg hr, if_pos (by simpa [hr] using h), arrived, hproof, hpending]
    rfl

theorem bayOf_of_findBundle {n : Nat} (hb : findBundle n s = some b) : bayOf n s = b.bay := by simp [bayOf, hb]

theorem isShort_of_findBundle {n : Nat} (hb : findBundle n s = some b) : isShort n s = b.short := by simp [isShort, hb]

/-- The state in which a GOOD piece has been announced. -/
def delivered (x : Piece) (bay : Nat) (s : State) : State :=
  post .delivery (pieceFrame x.tag x.record.key x.record.bundle bay)
    (setEntryAt (geometryItems s).gate (.gated x.pocket x.tag) s)

theorem takeArrival_of_good (hx : entryAt (geometryItems s).gate s = some (.piece x)) (hr : x.rejectDue = false)
    (hp : s.disp.proofPending = false) (hb : findBundle x.record.bundle s = some b) :
    takeArrival s = endLife .track (.delivered x.tag) x.record (delivered x b.bay s) := by
  have hbay := bayOf_of_findBundle (s := setEntryAt (geometryItems s).gate (.gated x.pocket x.tag) s) hb
  rw [takeArrival_of_piece hx, decidePiece, if_neg (by simp [hr]), if_neg (by simpa using hp), goodPiece, hbay]
  rfl

theorem disp_rejectPiece (x : Piece) (s : State) :
    (rejectPiece x s).disp = { s.disp with gateDue := some { reject := some (rejectOf x s), pocket := none } } := by
  simp [rejectPiece]

theorem track_takeArrival_of_piece (hx : entryAt (geometryItems s).gate s = some (.piece x)) :
    (takeArrival s).track = s.track.set (geometryItems s).gate (.gated x.pocket x.tag) := by
  rw [takeArrival_of_piece hx]
  simp [setEntryAt]

end

/-- Settles O41: the arrival by the entry at the gate, and a piece by its reject due and the proof request. -/
theorem arrivalIsDecidedByRejectDue : Obligations.ArrivalIsDecidedByRejectDue := by
  intro x b s g
  refine ⟨fun pocket extra he => ?_, fun pocket extra he => ?_, fun pocket extra cause he => ?_,
    fun hx hb => ⟨?_, fun q hq => ?_, fun hr hp => ?_, fun h => ?_⟩⟩
  · simp only [takeArrival, show entryAt (geometryItems s).gate s = _ from he]
  · simp only [takeArrival, show entryAt (geometryItems s).gate s = _ from he]
  · simp only [takeArrival, show entryAt (geometryItems s).gate s = _ from he]
  · rw [entryAt, track_takeArrival_of_piece hx]
    exact List.getElem?_set_self (List.getElem?_eq_some_iff.mp hx).1
  · rw [entryAt, track_takeArrival_of_piece hx]
    exact List.getElem?_set_ne (Ne.symm hq)
  · have hbg : findBundle x.record.bundle (delivered x b.bay s) = some b := (findBundle_post _ _ _ _).trans hb
    have hfree : (delivered x b.bay s).freeTaken = s.freeTaken := by simp [delivered]
    rw [takeArrival_of_good hx hr hp hb]
    refine ⟨by simp [delivered], ?_, ⟨Config.freeCount s.freeTaken, fun y hy => ?_⟩, fun hroom => ?_⟩
    · exact (recordEnded_endLife .track _ _ _).congr (by simp)
        (txQueue_post_other _ (setEntryAt (geometryItems s).gate (.gated x.pocket x.tag) s) (by decide)) rfl rfl
    · obtain ⟨a, m, rfl⟩ := counts_of_endLife hbg hy
      rw [hfree]
      exact ⟨rfl, rfl, rfl, rfl, rfl⟩
    · obtain ⟨more, hmore⟩ := (Grows.endLife .track (.delivered x.tag) x.record (delivered x b.bay s)).exists_append .delivery
      refine ⟨more, ?_⟩
      rw [hmore, delivered, txQueue_post_same (s := setEntryAt (geometryItems s).gate (.gated x.pocket x.tag) s) hroom,
        List.append_assoc]
      rfl
  · rw [takeArrival_of_reject hx h, disp_rejectPiece, rejectOf]
    rw [bayOf_of_findBundle (b := b) (s := arrived x s) hb]
    rfl

theorem placeOf_insertPlace (k : Nat) (p : Place) (m : List (Nat × Place)) :
    ((insertPlace k p m).find? fun e => e.1 == k) = some (k, p) := by
  induction m with
  | nil => simp [insertPlace]
  | cons e rest ih =>
    unfold insertPlace
    split
    · simp
    · split
      · simp
      · next hne => simpa [List.find?_cons, beq_false_of_ne (Ne.symm hne)] using ih

section
variable {x : Piece} {b : Bundle} {s : State}

theorem placeRejected_of_running (hj : s.store.jobState ≠ .aborting) (hb : findBundle x.record.bundle s = some b)
    (hshort : b.short = false) : placeRejected x s =
      if x.proof then sendToLane .laneFull x.record s
      else if x.record.attempt < (geometryItems s).remakeLimit then
        sendToLane .laneFull { x.record with attempt := x.record.attempt + 1 } s
      else endLife .track (.offSequence .limit) x.record s := by
  rw [placeRejected]
  dsimp only
  rw [if_neg hj, if_neg (by simp [isShort_of_findBundle hb, hshort])]

theorem sendToLane_of_room (o : OffReason) (r : Record) (h : s.store.lane.length < 16) : sendToLane o r s = placeInLane r s :=
  if_pos h

theorem sendToLane_of_full (o : OffReason) (r : Record) (h : 16 ≤ s.store.lane.length) :
    sendToLane o r s = endLife .track (.offSequence o) r s :=
  if_neg (Nat.not_lt.mpr h)

end

/-- Settles O42: the lines of the table in their order, each the end of the record's life or its place in the lane. -/
theorem rejectedRecordIsPlacedByTheFirstLine : Obligations.RejectedRecordIsPlacedByTheFirstLine := by
  intro x b s hx hb h proof ends joins
  have htake := takeArrival_of_reject hx h
  have hbu : findBundle x.record.bundle (arrived x s) = some b := hb
  have ht : (takeArrival s).store = (placeRejected { x with proof := proof } (arrived x s)).store ∧
      (takeArrival s).link = (placeRejected { x with proof := proof } (arrived x s)).link ∧
      (takeArrival s).bundles = (placeRejected { x with proof := proof } (arrived x s)).bundles := by
    rw [htake]
    exact ⟨rfl, rfl, rfl⟩
  obtain ⟨hstore, hlink, hbundles⟩ := ht
  have hends (o : OffReason) (attempt : Nat) (hp : placeRejected { x with proof := proof } (arrived x s) =
      endLife .track (.offSequence o) { x.record with attempt := attempt } (arrived x s)) : ends o :=
    offSequence_of_endLife (r := { x.record with attempt := attempt }) hp.symm hbu rfl rfl hstore hlink hbundles
  have hjoins (r : Record) (hp : placeRejected { x with proof := proof } (arrived x s) =
      placeInLane r (arrived x s)) : joins r := by
    rw [hp] at hstore hlink hbundles
    refine ⟨hstore, ?_, hlink, hbundles⟩
    rw [placeOf, hstore]
    exact congrArg (Option.map Prod.snd) (placeOf_insertPlace r.key .lane s.store.map)
  refine ⟨fun hj => hends .abort x.record.attempt (if_pos hj), fun hj hs => hends .short x.record.attempt ?_, fun hj hs => ?_⟩
  · have hshort : isShort x.record.bundle (arrived x s) = true := (isShort_of_findBundle hbu).trans hs
    exact (if_neg hj).trans (if_pos hshort)
  · have hline := placeRejected_of_running (x := { x with proof := proof }) (s := arrived x s) hj hbu hs
    have hnot (hp : proof = false) : ¬proof = true := by simp [hp]
    refine ⟨fun hp hroom => hjoins _ ?_, fun hp hlimit hroom => hjoins _ ?_, fun hor hfull => ?_,
      fun hp hlimit => hends .limit x.record.attempt ?_⟩
    · exact hline.trans ((if_pos hp).trans (sendToLane_of_room _ _ hroom))
    · exact hline.trans ((if_neg (hnot hp)).trans ((if_pos hlimit).trans (sendToLane_of_room _ _ hroom)))
    · by_cases hp : proof = true
      · exact hends .laneFull x.record.attempt (hline.trans ((if_pos hp).trans (sendToLane_of_full _ _ hfull)))
      · have hlimit := hor.resolve_left hp
        exact hends .laneFull _ (hline.trans ((if_neg hp).trans ((if_pos hlimit).trans (sendToLane_of_full _ _ hfull))))
    · exact hline.trans ((if_neg (hnot hp)).trans (if_neg (Nat.not_lt.mpr hlimit)))

end Sys2Proof.Machine


/-! Confirms, their expiry and the gate due (R128 to R134). -/

namespace Sys2Proof.Machine

/-! ## The end of an event -/

/-- What each fault keeps, the end of an event keeps. -/
theorem settle_keeps_of {P : State → Prop} (hraise : ∀ f s, P s → P (raise f s)) (hlink : ∀ s x, P s → P (s.setLink x))
    {s : State} (h : P s) : P (settle s) := by
  have hfold (ps : List Port) : ∀ u, P u → P (ps.foldl (fun s p => raiseOverflow p s) u) := by
    induction ps with
    | nil => exact fun u hu => hu
    | cons p ps ih => exact fun u hu => ih _ (hraise _ _ hu)
  have htake (u : State) (hu : P u) : P (takeOverflows u) := hfold _ _ (hlink u _ hu)
  exact htake _ (htake _ h)

/-- The stop log's record, once entered, stays (R157). -/
theorem stopRecord_raise (r f : FaultRecord) (s : State) (h : s.fault.stopLog.map FaultLog.record = some r) :
    (raise f s).fault.stopLog.map FaultLog.record = some r := by
  by_cases ha : actionOf f.kind s = .off
  · rwa [raise_of_off ha]
  · obtain ⟨l, hl, rfl⟩ := Option.map_eq_some_iff.mp h
    rw [fault_raise ha]
    dsimp only
    split
    · rw [hl]
      rfl
    · exact h

theorem stopRecord_settle {r : FaultRecord} {s : State} (h : s.fault.stopLog.map FaultLog.record = some r) :
    (settle s).fault.stopLog.map FaultLog.record = some r :=
  settle_keeps_of (P := fun s => s.fault.stopLog.map FaultLog.record = some r) (stopRecord_raise r) (fun _ _ h => h) h

theorem stopRecord_raise_of_empty {f : FaultRecord} {s : State} (ha : actionOf f.kind s = .stop)
    (hl : s.fault.stopLog = none) : (raise f s).fault.stopLog.map FaultLog.record = some f := by
  rw [fault_raise (by simp [ha])]
  simp [ha, hl, loggedOne]

theorem stopLatch_settle {s : State} (h : s.fault.stopLatch = true) : (settle s).fault.stopLatch = true :=
  settle_keeps_of (P := fun s => s.fault.stopLatch = true) (fun f s h => by rw [latch_raise, h, Bool.true_or])
    (fun _ _ h => h) h

/-! ## A diversion that failed -/

theorem number_suspects (v : BitVec 24) (b : Bundle) :
    ({ b with suspects := raiseCount v b.suspects } : Bundle).number = b.number := rfl

theorem findBundle_endLife_other {p : Place} {e : RecordEnd} {r : Record} {m : Nat} (h : m ≠ r.bundle) (s : State) :
    findBundle m (endLife p e r s) = findBundle m s := calc
  findBundle m (endLife p e r s) = findBundle m (closeCheck r.bundle (post .address (outcomeFrame r e) (recordOut p e r s))) :=
    findBundle_completionCheck m _
  _ = findBundle m (recordOut p e r s) := (findBundle_closeCheck_other h _).trans (findBundle_post _ _ m _)
  _ = findBundle m (updateBundle r.bundle (countEnd p e (Config.freeCount s.freeTaken)) s) :=
    findBundle_congr (bundles_recordOut p e r s) m
  _ = findBundle m s := findBundle_updateBundle_other (number_countEnd p e _) h

/-- SUSPECT is queued and counted for the entry that bears the bundle's number (R131 step 2). -/
theorem sendSuspect_rules (r : Reject) (s : State) :
    (sendSuspect r s).store = s.store ∧ (sendSuspect r s).track = s.track ∧ (sendSuspect r s).disp = s.disp ∧
    (sendSuspect r s).fault = s.fault ∧ (sendSuspect r s).lines = s.lines ∧
    (sendSuspect r s).bundles = { s.bundles with table := s.bundles.table.map fun b =>
      if b.number = r.bundle then { b with suspects := raiseCount (Config.freeCount s.freeTaken) b.suspects } else b } ∧
    (sendSuspect r s).link = (post .delivery (suspectFrame r.tag r.bundle r.bay) s).link := by
  simp [sendSuspect, countBundle, updateBundle]

theorem findBundle_sendSuspect {r : Reject} {b : Bundle} {s : State} (hb : findBundle r.bundle s = some b) :
    findBundle r.bundle (sendSuspect r s) =
      some { b with suspects := raiseCount (Config.freeCount s.freeTaken) b.suspects } := by
  rw [findBundle_congr (s := updateBundle r.bundle
    (fun b => { b with suspects := raiseCount (Config.freeCount s.freeTaken) b.suspects }) s)
    (sendSuspect_rules r s).2.2.2.2.2.1, findBundle_updateBundle_same (number_suspects _), hb]
  rfl

theorem queued_of_append {p : Port} {f : Frame} {s t : State} (h : txQueue p t = txQueue p s ++ [f]) : Queued p f s t :=
  ⟨[], [], by simpa using h⟩

theorem queued_post {p : Port} {f : Frame} {s : State} (h : txHasRoom p s = true) : Queued p f s (post p f s) :=
  queued_of_append (txQueue_post_same h)

/-- What is reported of a reject, told of states with the same records and bundles and the messages between. -/
theorem SuspectReported.congr {r : Reject} {s t u v : State} (h : SuspectReported r u v) (hstore : u.store = s.store)
    (hbundles : u.bundles = s.bundles) (hgrows : Grows s u) (htstore : t.store = v.store)
    (htbundles : t.bundles = v.bundles) (htgrows : Grows v t) : SuspectReported r s t := by
  obtain ⟨hnotice, ⟨n, hn⟩, hplain, hproof⟩ := h
  have hqueued {p : Port} {f : Frame} (hq : Queued p f u v) : Queued p f s t := (hq.front hgrows).mono htgrows
  have hfind (m : Nat) := findBundle_congr hbundles m
  have htfind (m : Nat) := findBundle_congr htbundles m
  refine ⟨hqueued hnotice, ⟨n, fun b y hb hy => hn b y ((hfind _).trans hb) ((htfind _).symm.trans hy)⟩,
    fun hp => htstore.trans ((hplain hp).trans hstore), fun hp => ?_⟩
  obtain ⟨hdone, hends, hstays⟩ := hproof hp
  simp only [placeOf, waitingRecord, backlogOutcome, hstore] at hends hstays
  simp only [placeOf, waitingRecord, backlogOutcome, htstore]
  refine ⟨hqueued hdone, fun x hx hw hb => ?_, hstays⟩
  obtain ⟨hlane, hplace, htext, hnotice, hcount⟩ := hends x hx hw hb
  refine ⟨hlane, hplace, htext, hqueued hnotice, fun he => ?_⟩
  obtain ⟨m, hm⟩ := hcount he
  exact ⟨m, fun b y hb hy => hm b y ((hfind _).trans hb) ((htfind _).symm.trans hy)⟩

theorem giveUpProof_of_lane {key : Nat} {x : Record} {s : State} (hp : placeOf key s = some .lane)
    (hw : waitingRecord key s = some x) (hb : backlogOutcome key s = none) :
    giveUpProof key s = endLife .lane (.offSequence .suspect) x s := by
  simp only [giveUpProof, hp, hw, hb, Option.isNone_none, if_true]

theorem giveUpProof_of_other {key : Nat} {s : State}
    (h : placeOf key s ≠ some .lane ∨ (backlogOutcome key s).isSome = true) : giveUpProof key s = s := by
  unfold giveUpProof
  split
  · next hp _ =>
    have hb := h.resolve_left (not_not_intro hp)
    rw [if_neg (by simpa [Option.isSome_iff_ne_none] using hb)]
  · rfl

theorem suspectReject_of_plain {r : Reject} (h : r.proof = false) (s : State) :
    suspectReject (some r) s = sendSuspect r s := by
  simp [suspectReject, h]

theorem suspectReject_of_proof {r : Reject} (h : r.proof = true) (s : State) :
    suspectReject (some r) s = giveUpProof r.key (post .line (proofDoneFrame r.tag true) (sendSuspect r s)) := by
  simp [suspectReject, h]

theorem Grows.giveUpProof (key : Nat) (s : State) : Grows s (giveUpProof key s) := by
  unfold Machine.giveUpProof
  split
  · split
    · exact Grows.endLife _ _ _ _
    · exact Grows.refl s
  · exact Grows.refl s

/-- A lane record given up as SUSPECT leaves each bundle's suspect count. -/
theorem suspects_giveUpProof {key n : Nat} {b y : Bundle} {s : State} (hb : findBundle n s = some b)
    (hy : findBundle n (giveUpProof key s) = some y) : y.suspects = b.suspects := by
  have hend (p : Place) (x : Record) (hy : findBundle n (endLife p (.offSequence .suspect) x s) = some y) :
      y.suspects = b.suspects := by
    by_cases hn : n = x.bundle
    · subst hn
      obtain ⟨a, m, rfl⟩ := counts_of_endLife hb hy
      cases p <;> rfl
    · rw [findBundle_endLife_other hn, hb] at hy
      rw [← Option.some.inj hy]
  unfold giveUpProof at hy
  split at hy
  · split at hy
    · exact hend _ _ hy
    · rw [← Option.some.inj (hb.symm.trans hy)]
  · rw [← Option.some.inj (hb.symm.trans hy)]

/-- The end of the life of the lane record of a failed proof (R131 step 4). -/
theorem endLife_lane_rules (o : OffReason) (x : Record) (s : State) :
    (endLife .lane (.offSequence o) x s).store.lane = s.store.lane.filter (fun y => y.key ≠ x.key) ∧
    (endLife .lane (.offSequence o) x s).store.textUsed = s.store.textUsed - textSize x := by
  have hc := checked_endLife .lane (.offSequence o) x s
  rw [hc.lane, hc.text, store_recordOut]
  exact ⟨rfl, rfl⟩

/-- The state of a failed proof piece's reject before its lane record is looked for. -/
def proofFailed (r : Reject) (s : State) : State := post .line (proofDoneFrame r.tag true) (sendSuspect r s)

theorem proofFailed_keeps (r : Reject) (s : State) : (proofFailed r s).store = s.store ∧
    (proofFailed r s).bundles = (sendSuspect r s).bundles ∧ (proofFailed r s).track = s.track ∧
    (proofFailed r s).disp = s.disp ∧ (proofFailed r s).fault = s.fault ∧ (proofFailed r s).lines = s.lines := by
  simp [proofFailed]

theorem txQueue_sendSuspect (p : Port) (r : Reject) (s : State) :
    txQueue p (sendSuspect r s) = txQueue p (post .delivery (suspectFrame r.tag r.bundle r.bay) s) := by
  simp only [txQueue, portState, (sendSuspect_rules r s).2.2.2.2.2.2]

theorem queued_sendSuspect {r : Reject} {s : State} (h : txHasRoom .delivery s = true) :
    Queued .delivery (suspectFrame r.tag r.bundle r.bay) s (sendSuspect r s) :=
  queued_of_append ((txQueue_sendSuspect .delivery r s).trans (txQueue_post_same h))

/-- Steps 2 to 4 of R131. -/
theorem suspectReported_of_room {r : Reject} {s : State} (hroom : ∀ p, txHasRoom p s = true) :
    SuspectReported r s (suspectReject (some r) s) := by
  have hsent := queued_sendSuspect (r := r) (hroom .delivery)
  cases hp : r.proof with
  | false =>
    rw [suspectReject_of_plain hp]
    refine ⟨hsent, ⟨Config.freeCount s.freeTaken, fun b y hb hy => ?_⟩, fun _ => (sendSuspect_rules r s).1,
      fun h => absurd h (by simp [hp])⟩
    rw [findBundle_sendSuspect hb] at hy
    rw [← Option.some.inj hy]
    rfl
  | true =>
    rw [suspectReject_of_proof hp]
    obtain ⟨hstore, hbundles, -⟩ := proofFailed_keeps r s
    have hgrows := Grows.giveUpProof r.key (proofFailed r s)
    have hline : txQueue .line (sendSuspect r s) = txQueue .line s :=
      (txQueue_sendSuspect .line r s).trans (txQueue_post_other _ s (by decide))
    have haddress : txQueue .address (proofFailed r s) = txQueue .address s :=
      (txQueue_post_other _ (sendSuspect r s) (by decide)).trans
        ((txQueue_sendSuspect .address r s).trans (txQueue_post_other _ s (by decide)))
    have hdone : Queued .line (proofDoneFrame r.tag true) s (proofFailed r s) :=
      queued_of_append ((txQueue_post_same (by rw [txHasRoom, hline]; exact hroom .line)).trans (by rw [hline]))
    have hfind (b : Bundle) (hb : findBundle r.bundle s = some b) :=
      (findBundle_congr hbundles r.bundle).trans (findBundle_sendSuspect hb)
    refine ⟨(hsent.mono (Grows.post .line _ _)).mono hgrows,
      ⟨Config.freeCount s.freeTaken, fun b y hb hy => suspects_giveUpProof (hfind b hb) hy⟩,
      fun h => absurd h (by simp [hp]), fun _ => ⟨hdone.mono hgrows, fun x hplace hw hb => ?_, fun h => ?_⟩⟩
    · have hlane : giveUpProof r.key (proofFailed r s) = endLife .lane (.offSequence .suspect) x (proofFailed r s) :=
        giveUpProof_of_lane (by rwa [placeOf, hstore]) (by rwa [waitingRecord, hstore]) (by rwa [backlogOutcome, hstore])
      obtain ⟨-, hkey⟩ := waitingRecord_mem hw
      obtain ⟨hlanes, htext⟩ := endLife_lane_rules .suspect x (proofFailed r s)
      rw [hstore] at hlanes htext
      rw [show giveUpProof r.key (post .line (proofDoneFrame r.tag true) (sendSuspect r s)) = _ from hlane, ← hkey]
      refine ⟨hlanes, placeOf_endLife _ _ _ _, htext, ?_, fun he => ⟨Config.freeCount (proofFailed r s).freeTaken, fun b y hb hy => ?_⟩⟩
      · obtain ⟨more, hmore⟩ := txQueue_endLife .lane (.offSequence .suspect) x (s := proofFailed r s)
          (by rw [txHasRoom, haddress]; exact hroom .address)
        exact ⟨[], more, by rw [hmore, haddress, List.append_nil]⟩
      · have hx : findBundle x.bundle (proofFailed r s) = _ := he ▸ hfind b hb
        obtain ⟨a, m, rfl⟩ := counts_of_endLife hx (he ▸ hy)
        exact ⟨rfl, rfl⟩
    · have hother := giveUpProof_of_other (key := r.key) (s := proofFailed r s) (by rwa [placeOf, backlogOutcome, hstore])
      exact (congrArg State.store hother).trans hstore

end Sys2Proof.Machine


/-! GATE_CONFIRM, PROOF, the expiry of a confirm, and the gate due (R124, R128 to R134). -/

namespace Sys2Proof.Machine

section
variable {c : Confirm} {rest : List Confirm} {r : Reject} {s : State}

theorem Roomy.room {n : Nat} (h : Roomy (n + 1) s) (p : Port) : txHasRoom p s = true := by
  have := h.2 p
  exact decide_eq_true (show (txQueue p s).length < 32 by omega)

theorem takeConfirm_of_cons (hc : s.disp.confirms = c :: rest) :
    takeConfirm s = confirmProof c.reject (s.setDisp { s.disp with confirms := rest }) := by
  simp only [takeConfirm, hc]

theorem expireOldest_of_seen (hc : s.disp.confirms = c :: rest) (hseen : c.seen ≠ 0) :
    expireOldest s = expireConfirm c (s.setDisp { s.disp with confirms := rest }) := by
  simp only [expireOldest, hc, if_pos hseen]

/-- The state in which the fault of an expired confirm has been taken. -/
def confirmLost (f : FaultRecord) (rest : List Confirm) (s : State) : State :=
  raise f (s.setDisp { s.disp with confirms := rest })

theorem suspectReject_keeps_of_some (r : Reject) (s : State) :
    (suspectReject (some r) s).track = s.track ∧ (suspectReject (some r) s).disp = s.disp ∧
    (suspectReject (some r) s).fault = s.fault ∧ (suspectReject (some r) s).lines = s.lines := by
  simp

/-- The fault of an expired confirm that keeps a reject, then what R131 asks for it. -/
theorem expireOldest_of_reject (hc : s.disp.confirms = c :: rest) (hseen : c.seen ≠ 0) (hrej : c.reject = some r) :
    expireOldest s = suspectReject (some r) (confirmLost { plainFault .gateFail .none s with
      tag := some r.tag, key := some r.key, bundle := some r.bundle } rest s) := by
  rw [expireOldest_of_seen hc hseen, expireConfirm, hrej]
  rfl

theorem suspectReported_of_confirmLost (f : FaultRecord) (hr : Roomy 3 s) :
    SuspectReported r s (suspectReject (some r) (confirmLost f rest s)) := by
  have hlost : Roomy 1 (confirmLost f rest s) :=
    Roomy.raise (n := 1) (s := s.setDisp { s.disp with confirms := rest }) hr f
  refine (suspectReported_of_room (r := r) fun p => hlost.room (n := 0) p).congr ?_ ?_ ?_ rfl rfl (Grows.refl _)
  · simp [confirmLost]
  · simp [confirmLost]
  · exact (Grows.raise f (s.setDisp { s.disp with confirms := rest })).from_link rfl

end

/-- Settles O43: a confirm by whether it keeps a reject, and a proof piece; the expiry by whether it has seen a boundary. -/
theorem confirmsAreSatisfiedOrExpire : Obligations.ConfirmsAreSatisfiedOrExpire := by
  intro num c rest r s hr
  have hdisp : Roomy 3 (s.setDisp { s.disp with confirms := rest }) := hr
  refine ⟨fun hc => ⟨?_, ?_⟩, fun hc => ⟨fun h => ?_, fun hrej hp => ?_, fun hseen hrej => ?_, fun hseen hrej => ?_,
    fun hseen => ?_⟩, fun b hb => ?_, fun hp => ?_, fun hp => ?_⟩
  · exact answerEvent_of_roomy (n := 1) (hr.raise _) (by simp [takeConfirm, hc])
  · exact answerEvent_of_roomy hr (by simp [expireOldest, hc])
  · refine answerEvent_of_roomy hdisp ((takeConfirm_of_cons hc).trans ?_)
    rcases h with h | ⟨h, hp⟩
    · simp [confirmProof, h]
    · simp [confirmProof, h, hp]
  · exact answerEvent_post (n := 2) hdisp ((takeConfirm_of_cons hc).trans (by simp [confirmProof, hrej, hp]))
  · refine answerEvent_of_roomy (n := 1) (hdisp.raise _) ((expireOldest_of_seen hc hseen).trans ?_)
    rw [expireConfirm, hrej]
    rfl
  · have hexpire := expireOldest_of_reject hc hseen hrej
    have hrep := suspectReported_of_confirmLost (r := r) (rest := rest)
      { plainFault .gateFail .none s with tag := some r.tag, key := some r.key, bundle := some r.bundle } hr
    refine ⟨settle (expireOldest s), rfl, ?_, ?_, ?_, fun ha => ?_, fun hlog ha => ?_, fun hp => ?_⟩
    · rw [hexpire]
      simp [confirmLost]
    · rw [hexpire]
      exact hrep.congr rfl rfl (Grows.refl s) (by simp) (by simp) (Grows.settle _)
    · rw [hexpire]
      simp [confirmLost]
    · refine stopLatch_settle ?_
      rw [hexpire, (suspectReject_keeps_of_some _ _).2.2.1, confirmLost, latch_raise]
      exact Bool.or_eq_true_iff.mpr (.inr (decide_eq_true ha))
    · refine stopRecord_settle ?_
      rw [hexpire, (suspectReject_keeps_of_some _ _).2.2.1]
      exact stopRecord_raise_of_empty (s := s.setDisp { s.disp with confirms := rest }) ha hlog
    · have hlost (f : FaultRecord) : (confirmLost f rest s).bundles = s.bundles ∧
          (confirmLost f rest s).freeTaken = s.freeTaken := by simp [confirmLost]
      refine ⟨Config.freeCount s.freeTaken, ?_⟩
      rw [(settle_keeps _).2.2.2.2.2.2.2.2.2.2.2.2.1, hexpire, suspectReject_of_plain hp,
        (sendSuspect_rules _ _).2.2.2.2.2.1, (hlost _).1, (hlost _).2]
      rfl
  · exact answerEvent_of_roomy hr (by simp [expireOldest, hc, hseen])
  · exact answerMessage_reply (n := 2) hr _ _ (takeProof .line num b) (by simp [takeProof, hb, refuse])
  · refine answerMessage_effect hr (by exact rfl) _ _ (takeProof .line num []) ?_
    rw [silent_setDisp]
    simp [takeProof, hp, accept]
  · exact answerMessage_reply (n := 2) hr _ _ (takeProof .line num []) (by simp [takeProof, hp, refuse])

/-! ## The gate due -/

section
variable {d : GateDue} {r : Reject} {s : State} {g : Nat}

/-- The state in which the fault of a gate due left over has been taken. -/
def dueLost (f : FaultRecord) (s : State) : State := raise f (s.setDisp { s.disp with gateDue := none })

theorem clearGateDue_of_some (g : Nat) (h : s.disp.gateDue = some d) : clearGateDue g s =
    suspectReject d.reject (dueLost { plainFault .gateFail .none s with
      tag := d.reject.map Reject.tag, key := d.reject.map Reject.key, bundle := d.reject.map Reject.bundle,
      pocket := d.pocket, position := some g } s) := by
  simp only [clearGateDue, h]
  rfl

theorem suspectReported_of_dueLost (f : FaultRecord) (hr : Roomy 3 s) :
    SuspectReported r s (suspectReject (some r) (dueLost f s)) := by
  have hlost : Roomy 1 (dueLost f s) := Roomy.raise (n := 1) (s := s.setDisp { s.disp with gateDue := none }) hr f
  refine (suspectReported_of_room (r := r) fun p => hlost.room (n := 0) p).congr ?_ ?_ ?_ rfl rfl (Grows.refl _)
  · simp [dueLost]
  · simp [dueLost]
  · exact (Grows.raise f (s.setDisp { s.disp with gateDue := none })).from_link rfl

theorem suspectReject_keeps_disp (o : Option Reject) (s : State) :
    (suspectReject o s).track = s.track ∧ (suspectReject o s).disp = s.disp ∧
    (suspectReject o s).fault = s.fault ∧ (suspectReject o s).lines = s.lines := by
  simp

end

/-- Settles O44: the gate phase, the gate due left over and the ageing of the confirms, each by the lists they act on. -/
theorem gateIsAssertedOnceForItsDue : Obligations.GateIsAssertedOnceForItsDue := by
  intro s g
  refine ⟨fun h => ⟨by simp [gatePhase, h], by simp [clearGateDue, h]⟩, fun d h => ?_, by simp [ageConfirms], fun h => ?_,
    fun hr c r hc hseen hrej => ?_, rfl⟩
  · have hclear := clearGateDue_of_some g h
    obtain ⟨htrack, hdisp, hfault, hlines⟩ := suspectReject_keeps_disp d.reject (dueLost { plainFault .gateFail .none s with
      tag := d.reject.map Reject.tag, key := d.reject.map Reject.key, bundle := d.reject.map Reject.bundle,
      pocket := d.pocket, position := some g } s)
    rw [← hclear] at htrack hdisp hfault hlines
    refine ⟨by simp [gatePhase, h], hdisp.trans (by simp [dueLost]), hlines.trans (by simp [dueLost]),
      htrack.trans (by simp [dueLost]), hfault.trans (fault_raise_congr (by exact rfl) _), fun hn => ?_, fun hr r hrej => ?_⟩
    · rw [hclear, hn]
      simp [suspectReject, dueLost]
    · rw [hclear, hrej]
      exact suspectReported_of_dueLost _ hr
  · have hdue : (s.disp.confirms.filter fun c => c.seen ≠ 0) = [] :=
      List.filter_eq_nil_iff.mpr fun c hc => by simp [h c hc]
    have hkept : (s.disp.confirms.filter fun c => c.seen = 0) = s.disp.confirms :=
      List.filter_eq_self.mpr fun c hc => decide_eq_true (h c hc)
    rw [ageConfirms, hdue, hkept]
    rfl
  · have hage : ageConfirms s = expireConfirm c (s.setDisp { s.disp with confirms := [] }) := by
      simp [ageConfirms, hc, hseen]
    rw [hage, expireConfirm, hrej]
    exact suspectReported_of_confirmLost _ hr

end Sys2Proof.Machine


/-! The call and detect phase events of the feed stations (R81 to R86). -/

namespace Sys2Proof.Machine

/-! ## A piece changed and marked -/

section
variable {p : Nat} {x : Piece} {s : State}

/-- A piece kind handed on with a piece: its mark, the fault, and what stays. -/
theorem raiseOnPiece_rules (h : pieceAt p s = some x) (k : FaultKind) (src : Source) :
    pieceAt p (raiseOnPiece k src p s) = some (markPiece k (actionOf k s) x) ∧
    (raiseOnPiece k src p s).fault = (raise (pieceFault k src p x s) s).fault ∧
    ∀ q, q ≠ p → entryAt q (raiseOnPiece k src p s) = entryAt q s := by
  refine ⟨?_, fault_raiseMarking h _ _ _, fun q hq => entryAt_raiseMarking_other hq _ _ _ _⟩
  rw [raiseOnPiece, pieceAt_raiseMarking, if_pos rfl, h]
  rfl

/-- The same with the piece changed first, where the change leaves what the fault names. -/
theorem raiseOnChanged_rules (h : pieceAt p s = some x) {f : Piece → Piece} (ht : (f x).tag = x.tag)
    (hr : (f x).record = x.record) (hp : (f x).pocket = x.pocket) (k : FaultKind) (src : Source) :
    pieceAt p (raiseOnPiece k src p (updatePiece p f s)) = some (markPiece k (actionOf k s) (f x)) ∧
    (raiseOnPiece k src p (updatePiece p f s)).fault = (raise (pieceFault k src p x s) s).fault ∧
    ∀ q, q ≠ p → entryAt q (raiseOnPiece k src p (updatePiece p f s)) = entryAt q s := by
  have hpiece : pieceAt p (updatePiece p f s) = some (f x) := by
    rw [pieceAt_updatePiece, if_pos rfl, h]
    rfl
  have hfault : (updatePiece p f s).fault = s.fault := by simp
  have hreg : (updatePiece p f s).reg = s.reg := by simp
  obtain ⟨hmark, hraised, hother⟩ := raiseOnPiece_rules hpiece k src
  refine ⟨by rw [hmark, actionOf_congr hfault], ?_, fun q hq => (hother q hq).trans (entryAt_updatePiece_other hq f s)⟩
  rw [hraised, fault_raise_congr hfault]
  simp only [pieceFault, hreg, ht, hr, hp]

end

/-! ## The detect phase event -/

section
variable {i : Fin 12} {e : Station} {x : Piece} {s : State} {p : Nat}

theorem detectEntry_of_piece (h : pieceAt p s = some x) (reading called : Bool) :
    detectEntry i p reading called s = detectPiece i p reading called x s := by
  simp only [detectEntry, entryAt, pieceAt_eq_some_iff.mp h]

/-- An operation that changes no entry but one. -/
def TouchesOnly (p : Nat) (s t : State) : Prop := ∀ q, q ≠ p → entryAt q t = entryAt q s

theorem touchesOnly_raiseOnPiece (k : FaultKind) (src : Source) (p : Nat) (s : State) :
    TouchesOnly p s (raiseOnPiece k src p s) := fun _ hq => entryAt_raiseMarking_other hq _ _ _ _

theorem touchesOnly_updatePiece (p : Nat) (f : Piece → Piece) (s : State) : TouchesOnly p s (updatePiece p f s) :=
  fun _ hq => entryAt_updatePiece_other hq f s

theorem touchesOnly_raise (f : FaultRecord) (p : Nat) (s : State) : TouchesOnly p s (raise f s) :=
  fun q _ => entryAt_raise q f s

theorem touchesOnly_setEntryAt (p : Nat) (e : TrackEntry) (s : State) : TouchesOnly p s (setEntryAt p e s) :=
  fun _ hq => List.getElem?_set_ne (Ne.symm hq)

theorem TouchesOnly.trans {s t u : State} (h : TouchesOnly p s t) (h' : TouchesOnly p t u) : TouchesOnly p s u :=
  fun q hq => (h' q hq).trans (h q hq)

theorem touchesOnly_detectPiece (reading called : Bool) (x : Piece) :
    TouchesOnly p s (detectPiece i p reading called x s) := by
  have hchanged (k : FaultKind) (src : Source) (f : Piece → Piece) :
      TouchesOnly p s (raiseOnPiece k src p (updatePiece p f s)) :=
    (touchesOnly_updatePiece p f s).trans (touchesOnly_raiseOnPiece k src p _)
  unfold detectPiece
  split
  · split
    · split
      · unfold readCalled
        split
        · exact touchesOnly_updatePiece p _ s
        · exact hchanged _ _ _
        · exact hchanged _ _ _
        · exact hchanged _ _ _
      · exact hchanged _ _ _
    · exact fun _ _ => rfl
  · split
    · unfold readUnplanned
      split
      · exact fun _ _ => rfl
      · exact touchesOnly_raiseOnPiece _ _ p s
      · exact hchanged _ _ _
    · exact fun _ _ => rfl

theorem touchesOnly_readEmpty (pocket : Option Nat) (extra : BitVec 12) :
    TouchesOnly p s (readEmpty i p pocket extra s) := by
  unfold readEmpty
  split
  · exact fun _ _ => rfl
  · exact touchesOnly_raise _ p s
  · exact (touchesOnly_setEntryAt p _ s).trans (touchesOnly_raise _ p _)

theorem touchesOnly_readStray (pocket : Option Nat) (extra : BitVec 12) (cause : StrayCause) :
    TouchesOnly p s (readStray i p pocket extra cause s) := by
  unfold readStray
  split
  · exact fun _ _ => rfl
  · exact touchesOnly_raise _ p s
  · exact touchesOnly_setEntryAt p _ s

theorem touchesOnly_detectEntry (reading called : Bool) : TouchesOnly p s (detectEntry i p reading called s) := by
  unfold detectEntry
  split
  · exact touchesOnly_detectPiece reading called _
  · split
    · exact touchesOnly_readEmpty _ _
    · exact fun _ _ => rfl
  · split
    · exact touchesOnly_readEmpty _ _
    · exact fun _ _ => rfl
  · split
    · exact touchesOnly_readStray _ _ _
    · exact fun _ _ => rfl
  · exact fun _ _ => rfl
  · exact fun _ _ => rfl

/-- What the two detect lines of a station tell (R83). -/
theorem detectValue_of_lines {a b : Bool}
    (h : (s.pins.detectA.getLsbD i.val, s.pins.detectB.getLsbD i.val) = (a, b)) :
    detectValue i s = if a then (if b then .two else .one) else (if b then .fault else .none) := by
  obtain ⟨ha, hb⟩ := Prod.mk.injEq .. ▸ h
  simp only [detectValue, ha, hb]
  cases a <;> cases b <;> rfl

theorem detectValue_of_fed (h : (s.pins.detectA.getLsbD i.val, s.pins.detectB.getLsbD i.val).1 = true) :
    detectValue i s = .one ∨ detectValue i s = .two := by
  have hv := detectValue_of_lines (i := i) (s := s) rfl
  rw [if_pos h] at hv
  cases hb : s.pins.detectB.getLsbD i.val <;> simp [hv, hb]

/-- What is not read, or reads nothing, changes nothing. -/
theorem ite_of_unread {read : Bool} {t : State}
    (h : read = false ∨ (s.pins.detectA.getLsbD i.val, s.pins.detectB.getLsbD i.val) = (false, false))
    (ht : detectValue i s = .none → t = s) : (if read = true then t else s) = s := by
  rcases h with h | h
  · rw [if_neg (by simp [h])]
  · rw [ht (detectValue_of_lines h), ite_self]

theorem planNames_of_pending (h : planPending i x = true) : planNames i x = true := by
  obtain ⟨q, hq, hp⟩ := List.any_eq_true.mp h
  exact List.any_eq_true.mpr ⟨q, hq, (Bool.and_eq_true_iff.mp hp).1⟩

theorem detectPiece_of_called (hp : planPending i x = true) (reading : Bool) :
    detectPiece i p reading true x s = readCalled i p s := by
  simp [detectPiece, hp, planNames_of_pending hp]

theorem detectPiece_of_uncalled (hp : planPending i x = true) (reading : Bool) :
    detectPiece i p reading false x s = missUncalled i p s := by
  simp [detectPiece, hp, planNames_of_pending hp]

theorem detectPiece_of_settled (hn : planNames i x = true) (hp : planPending i x = false) (reading called : Bool) :
    detectPiece i p reading called x s = s := by
  simp [detectPiece, hp, hn]

theorem detectPiece_of_unplanned (hn : planNames i x = false) (reading called : Bool) :
    detectPiece i p reading called x s = if reading then readUnplanned i p s else s := by
  simp [detectPiece, hn]

theorem readUnplanned_of_fed (h : detectValue i s = .one ∨ detectValue i s = .two) : readUnplanned i p s =
    raiseOnPiece .feedExtra (.station i) p (updatePiece p (fun x => { x with extra := addStation i x.extra }) s) := by
  rcases h with h | h <;> simp only [readUnplanned, h]

end

/-- Settles O40: the call by the piece's plan, and the detect by the entry, the plan, the call and the two lines. -/
theorem stationCallsAndReadsThePocket : Obligations.StationCallsAndReadsThePocket := by
  intro i e s read lines unchanged pocketFaultAt
  refine ⟨fun h => by simp only [callPhase, h], by simp [detectPhase, setCallOutstanding], fun q hq => ?_, fun x hx => ?_,
    fun pocket extra he => ?_, fun pocket extra cause he => ?_⟩
  · exact touchesOnly_detectEntry _ _ q hq
  · have hdetect : detectPhase i e s =
        setCallOutstanding i false (detectPiece i e.position read s.callOutstanding[i] x s) := by
      rw [← detectEntry_of_piece hx]
      rfl
    have hchanged (k : FaultKind) (r : FeedResult) := raiseOnChanged_rules hx (f := setResult i r) rfl rfl rfl k (.station i)
    refine ⟨fun hon hp => ?_, fun h => ?_, fun hp => ?_, fun hn hp => ?_, fun hn hr => ?_, fun hn hr hl => ?_,
      fun hn hr hl => ?_⟩
    · simp only [callPhase, hx, hon, hp, Bool.and_self, if_true]
      rfl
    · simp only [callPhase, hx]
      exact if_neg (by simpa [← Bool.not_eq_true, imp_iff_not_or] using h)
    · rw [hdetect]
      obtain ⟨a, b, hl⟩ : ∃ a b, lines = (a, b) := ⟨_, _, rfl⟩
      have hvalue := detectValue_of_lines hl
      cases hc : s.callOutstanding[i] with
      | false =>
        obtain ⟨hpiece, hfault, -⟩ := hchanged .feedMiss .missed
        rw [detectPiece_of_uncalled hp]
        exact ⟨hpiece, hfault⟩
      | true =>
        rw [detectPiece_of_called hp, hl]
        cases a with
        | false =>
          cases b with
          | false =>
            obtain ⟨hpiece, hfault, -⟩ := hchanged .feedMiss .missed
            simp only [readCalled, hvalue]
            exact ⟨hpiece, hfault⟩
          | true =>
            obtain ⟨hpiece, hfault, -⟩ := hchanged .feedSensor .sensor
            simp only [readCalled, hvalue]
            exact ⟨hpiece, hfault⟩
        | true =>
          cases b with
          | false =>
            have hfault : (updatePiece e.position (setResult i .fed) s).fault = s.fault := by simp
            simp only [readCalled, hvalue]
            refine ⟨?_, hfault⟩
            exact (pieceAt_updatePiece _ _ _ _).trans (by rw [if_pos rfl, hx]; rfl)
          | true =>
            obtain ⟨hpiece, hfault, -⟩ := hchanged .feedDouble .double
            simp only [readCalled, hvalue]
            exact ⟨hpiece, hfault⟩
    · rw [hdetect, detectPiece_of_settled hn hp]
      rfl
    · rw [hdetect, detectPiece_of_unplanned hn, ite_of_unread hr fun hv => by simp [readUnplanned, hv]]
      rfl
    · have hfed := detectValue_of_fed hl
      have hextra := raiseOnChanged_rules hx (f := fun x => { x with extra := addStation i x.extra }) rfl rfl rfl .feedExtra
        (.station i)
      rw [hdetect, detectPiece_of_unplanned hn, if_pos hr, readUnplanned_of_fed hfed]
      exact ⟨hextra.1, hextra.2.1⟩
    · have hvalue := detectValue_of_lines hl
      obtain ⟨hpiece, hfault, -⟩ := raiseOnPiece_rules hx .feedSensor (.station i)
      have hread : readUnplanned i e.position s = raiseOnPiece .feedSensor (.station i) e.position s := by
        simp [readUnplanned, hvalue]
      rw [hdetect, detectPiece_of_unplanned hn, if_pos hr, hread]
      exact ⟨hpiece, hfault⟩
  · have hdetect : detectPhase i e s =
        setCallOutstanding i false (if read then readEmpty i e.position pocket extra s else s) := by
      rcases he with he | ⟨k, rfl, he⟩
      · simp only [detectPhase, detectEntry, he]
        rfl
      · simp only [detectPhase, detectEntry, he]
        rfl
    have hlt : e.position < s.track.length := by
      rcases he with he | ⟨k, -, he⟩ <;> exact (List.getElem?_eq_some_iff.mp he).1
    refine ⟨fun hr => ?_, fun hr hl => ?_, fun hr hl => ?_⟩
    · rw [hdetect, ite_of_unread hr fun hv => by simp [readEmpty, hv]]
      rfl
    · have hread : readEmpty i e.position pocket extra s = makeStray i e.position pocket extra s := by
        rcases detectValue_of_fed hl with hv | hv <;> simp only [readEmpty, hv]
      rw [hdetect, if_pos hr, hread]
      refine ⟨?_, fault_raise_congr (by rfl) _⟩
      exact (entryAt_raise _ _ _).trans (List.getElem?_set_self hlt)
    · have hvalue := detectValue_of_lines hl
      have hread : readEmpty i e.position pocket extra s = pocketFaultAt .feedSensor pocket := by
        simp [readEmpty, hvalue, pocketFaultAt, pocketFault]
      rw [hdetect, if_pos hr, hread]
      exact ⟨entryAt_raise _ _ _, rfl⟩
  · have hdetect : detectPhase i e s =
        setCallOutstanding i false (if read then readStray i e.position pocket extra cause s else s) := by
      simp only [detectPhase, detectEntry, he]
      rfl
    have hlt : e.position < s.track.length := (List.getElem?_eq_some_iff.mp he).1
    refine ⟨fun hr => ?_, fun hr hl => ?_, fun hr hl => ?_⟩
    · rw [hdetect, ite_of_unread hr fun hv => by simp [readStray, hv]]
      rfl
    · have hread : readStray i e.position pocket extra cause s =
          setEntryAt e.position (.stray pocket (addStation i extra) cause) s := by
        rcases detectValue_of_fed hl with hv | hv <;> simp only [readStray, hv]
      rw [hdetect, if_pos hr, hread]
      exact ⟨List.getElem?_set_self hlt, rfl⟩
    · have hvalue := detectValue_of_lines hl
      have hread : readStray i e.position pocket extra cause s = pocketFaultAt .feedSensor pocket := by
        simp [readStray, hvalue, pocketFaultAt, pocketFault]
      rw [hdetect, if_pos hr, hread]
      exact ⟨entryAt_raise _ _ _, rfl⟩

end Sys2Proof.Machine


/-! WRAP FAULT (R79, R121, R151). -/

namespace Sys2Proof.Machine

/-! ## The covered positions -/

theorem mem_coveredPositions {w n q : Nat} : q ∈ coveredPositions w n ↔ q ≤ w ∧ w < q + n := by
  induction n generalizing w with
  | zero => simp [coveredPositions]
  | succ n ih =>
    cases w with
    | zero =>
      simp only [coveredPositions, List.mem_singleton]
      omega
    | succ w =>
      rw [coveredPositions, List.mem_cons, ih]
      omega

theorem nodup_coveredPositions (w n : Nat) : (coveredPositions w n).Nodup := by
  induction n generalizing w with
  | zero => simp [coveredPositions]
  | succ n ih =>
    cases w with
    | zero => exact List.nodup_singleton 0
    | succ w =>
      refine List.nodup_cons.mpr ⟨fun h => ?_, ih w⟩
      have := (mem_coveredPositions.mp h).1
      omega

/-- The covered positions in the order of the track. -/
theorem length_filter_covered (w n : Nat) (test : Nat → Bool) :
    ((coveredPositions w n).filter test).length =
      ((List.range (w + 1)).filter fun q => decide (w < q + n) && test q).length := by
  refine List.Perm.length_eq ((List.perm_ext_iff_of_nodup ((nodup_coveredPositions w n).filter _)
    (List.nodup_range.filter _)).mpr fun q => ?_)
  simp only [List.mem_filter, mem_coveredPositions, List.mem_range, Nat.lt_succ_iff, Bool.and_eq_true, decide_eq_true_eq]
  exact and_assoc

/-! ## One position -/

/-- A piece after a wrap report that covers it (R121, R151, log 28). -/
def wrapMark (cause : WrapCause) (a : Action) (x : Piece) : Piece :=
  if x.wrap.isSome then markRejectDue a x else markPiece .wrapFault a { x with wrap := some cause }

/-- What a wrap report does at one position. -/
structure WrapTaken (cause : WrapCause) (p : Nat) (s t : State) : Prop where
  piece : pieceAt p t = (pieceAt p s).map (wrapMark cause (actionOf .wrapFault s))
  others : ∀ q, q ≠ p ∨ pieceAt q s = none → entryAt q t = entryAt q s
  action : actionOf .wrapFault t = actionOf .wrapFault s
  count : actionOf .wrapFault s ≠ .off → t.fault.counts[kindIndex .wrapFault] =
    if (pieceAt p s).isSome then countedOne s.fault.counts[kindIndex .wrapFault]
    else s.fault.counts[kindIndex .wrapFault]
  off : actionOf .wrapFault s = .off → t.fault = s.fault ∧ t.link = s.link
  kept : t.store = s.store ∧ t.bundles = s.bundles ∧ t.carrier = s.carrier ∧ t.reg = s.reg ∧ t.disp = s.disp

theorem counts_raise_same {f : FaultRecord} {s : State} (h : actionOf f.kind s ≠ .off) :
    (raise f s).fault.counts[kindIndex f.kind] = countedOne s.fault.counts[kindIndex f.kind] := by
  rw [counts_raise h, if_pos rfl]

/-- The wrap fault of the piece at a position, with its mark. -/
theorem wrapTaken_raise {cause : WrapCause} {p : Nat} {x y : Piece} {s u t : State} (hx : pieceAt p s = some x)
    (hu : pieceAt p u = some y) (hfault : u.fault = s.fault) (hlink : u.link = s.link)
    (hothers : ∀ q, q ≠ p → entryAt q u = entryAt q s) {m : Action → Piece → Piece}
    (hm : m (actionOf .wrapFault s) y = wrapMark cause (actionOf .wrapFault s) x)
    (hkept : u.store = s.store ∧ u.bundles = s.bundles ∧ u.carrier = s.carrier ∧ u.reg = s.reg ∧ u.disp = s.disp)
    (ht : t = raiseMarking m .wrapFault (.port .line) p u) : WrapTaken cause p s t := by
  subst ht
  have haction := actionOf_congr hfault .wrapFault
  have hraised := raiseMarking_of_some hu m .wrapFault (.port .line)
  have hne (q : Nat) (hq : q ≠ p ∨ pieceAt q s = none) : q ≠ p := hq.elim id fun hn e => by
    rw [e, hx] at hn
    cases hn
  refine ⟨?_, fun q hq => (entryAt_raiseMarking_other (hne q hq) _ _ _ _).trans (hothers q (hne q hq)), ?_, fun ha => ?_,
    fun ha => ?_, ?_⟩
  · rw [pieceAt_raiseMarking, if_pos rfl, hu, hx, haction]
    exact congrArg some hm
  · rw [← haction, hraised]
    exact (actionOf_congr (s := raise (pieceFault .wrapFault (.port .line) p y u) u) (by simp) _).trans (actionOf_raise _ _ _)
  · have hcount := counts_raise_same (f := pieceFault .wrapFault (.port .line) p y u) (s := u) (by rwa [← haction] at ha)
    rw [fault_raiseMarking hu, hx, Option.isSome_some, if_pos rfl]
    exact hcount.trans (by rw [hfault]; rfl)
  · rw [hraised, raise_of_off (f := pieceFault .wrapFault (.port .line) p y u) (haction.trans ha)]
    simp [hfault, hlink]
  · rw [hraised]
    simpa using hkept

theorem wrapTaken_position (cause : WrapCause) (p : Nat) (s : State) : WrapTaken cause p s (wrapPosition cause p s) := by
  unfold wrapPosition
  split
  · next hx => exact ⟨by simp [hx], fun _ _ => rfl, rfl, fun _ => by simp [hx], fun _ => ⟨rfl, rfl⟩, rfl, rfl, rfl, rfl, rfl⟩
  · next x hx =>
    split
    · next hw =>
      exact wrapTaken_raise hx hx rfl rfl (fun _ _ => rfl) (by rw [wrapMark, if_pos hw]) ⟨rfl, rfl, rfl, rfl, rfl⟩ rfl
    · next hw =>
      refine wrapTaken_raise (m := markPiece .wrapFault) (y := { x with wrap := some cause }) hx ?_ (by simp) (by simp)
        (fun q hq => entryAt_updatePiece_other hq _ s) (by rw [wrapMark, if_neg hw]) (by simp) rfl
      rw [pieceAt_updatePiece, if_pos rfl, hx]
      rfl

/-! ## The report -/

/-- What a wrap report does at the positions it covers. -/
structure WrapsTaken (cause : WrapCause) (ps : List Nat) (s t : State) : Prop where
  pieces : ∀ p ∈ ps, pieceAt p t = (pieceAt p s).map (wrapMark cause (actionOf .wrapFault s))
  others : ∀ q, q ∉ ps ∨ pieceAt q s = none → entryAt q t = entryAt q s
  count : actionOf .wrapFault s ≠ .off → s.fault.counts[kindIndex .wrapFault] ≤ 65535 →
    t.fault.counts[kindIndex .wrapFault] =
      min 65535 (s.fault.counts[kindIndex .wrapFault] + (ps.filter fun q => (pieceAt q s).isSome).length)
  off : actionOf .wrapFault s = .off → t.fault = s.fault ∧ t.link = s.link
  kept : t.store = s.store ∧ t.bundles = s.bundles ∧ t.carrier = s.carrier ∧ t.reg = s.reg ∧ t.disp = s.disp

theorem countedOne_eq_min {n : Nat} (h : n ≤ 65535) : countedOne n = min 65535 (n + 1) := by
  unfold countedOne
  split <;> omega

theorem wrapsTaken_fold (cause : WrapCause) {ps : List Nat} (hnd : ps.Nodup) (s : State) :
    WrapsTaken cause ps s (ps.foldl (fun s q => wrapPosition cause q s) s) := by
  induction ps generalizing s with
  | nil =>
    exact ⟨fun _ h => absurd h List.not_mem_nil, fun _ _ => rfl, fun _ hc => by simpa using hc, fun _ => ⟨rfl, rfl⟩,
      rfl, rfl, rfl, rfl, rfl⟩
  | cons p ps ih =>
    obtain ⟨hnot, hnd⟩ := List.nodup_cons.mp hnd
    have hp := wrapTaken_position cause p s
    have hps := ih hnd (wrapPosition cause p s)
    rw [List.foldl_cons]
    generalize wrapPosition cause p s = u at hp hps
    generalize ps.foldl (fun s q => wrapPosition cause q s) u = t at hps
    have hsame (q : Nat) (hq : q ∈ ps) : pieceAt q u = pieceAt q s :=
      pieceAt_of_entryAt (hp.others q (.inl fun e => hnot (e ▸ hq)))
    refine ⟨fun q hq => ?_, fun q hq => ?_, fun ha hc => ?_, fun ha => ?_, ?_⟩
    · rcases List.mem_cons.mp hq with rfl | hq
      · exact (pieceAt_of_entryAt (hps.others q (.inl hnot))).trans hp.piece
      · rw [hps.pieces q hq, hsame q hq, hp.action]
    · by_cases he : q = p
      · subst he
        have hnone := hq.resolve_left (not_not_intro List.mem_cons_self)
        exact (hps.others q (.inl hnot)).trans (hp.others q (.inr hnone))
      · have hu := hp.others q (.inl he)
        refine (hps.others q (hq.imp (fun h hm => h (List.mem_cons_of_mem p hm)) fun h => ?_)).trans hu
        exact (pieceAt_of_entryAt hu).trans h
    · have hcount := hp.count ha
      have hfilter : (ps.filter fun q => (pieceAt q u).isSome) = ps.filter fun q => (pieceAt q s).isSome :=
        List.filter_congr fun q hq => by rw [hsame q hq]
      have hle : u.fault.counts[kindIndex .wrapFault] ≤ 65535 := by
        rw [hcount]
        split
        · rw [countedOne_eq_min hc]; omega
        · exact hc
      rw [hps.count (hp.action ▸ ha) hle, hfilter, hcount, List.filter_cons]
      split
      · rw [countedOne_eq_min hc, List.length_cons]
        omega
      · rfl
    · obtain ⟨hf, hl⟩ := hp.off ha
      obtain ⟨hf', hl'⟩ := hps.off (hp.action.trans ha)
      exact ⟨hf'.trans hf, hl'.trans hl⟩
    · obtain ⟨h1, h2, h3, h4, h5⟩ := hp.kept
      obtain ⟨g1, g2, g3, g4, g5⟩ := hps.kept
      exact ⟨g1.trans h1, g2.trans h2, g3.trans h3, g4.trans h4, g5.trans h5⟩

theorem takeWrapFault_of_stray {b : List Byte} {s : State}
    (h : b.length ≠ 2 ∨ wrapCauseOfCode (field b 0 1) = none ∨ field b 1 1 = 0 ∨ 8 < field b 1 1 ∨ s.setup.geometry = none) :
    takeWrapFault .line b s = strayReport .line s := by
  unfold takeWrapFault
  split
  · rfl
  · next hn =>
    simp only [ne_eq, not_true_eq_false, false_or, not_or, not_not] at hn
    obtain ⟨hb, h0, h8⟩ := hn
    rcases h with h | h | h | h | h
    · exact absurd hb h
    · rw [h]
    · exact absurd h h0
    · exact absurd h h8
    · rw [h]
      cases wrapCauseOfCode (field b 0 1) <;> rfl

theorem takeWrapFault_of_cause {c n : Byte} {cause : WrapCause} {g : Geometry} {s : State}
    (hg : s.setup.geometry = some g) (hc : wrapCauseOfCode c.toNat = some cause) (h1 : 1 ≤ n.toNat) (h8 : n.toNat ≤ 8) :
    takeWrapFault .line [c, n] s = (coveredPositions g.wrap n.toNat).foldl (fun s q => wrapPosition cause q s) s := by
  have hfc : field [c, n] 0 1 = c.toNat := by simp [field, ofBytes]
  have hfn : field [c, n] 1 1 = n.toNat := by simp [field, ofBytes]
  unfold takeWrapFault
  rw [if_neg (by simp [hfn]; omega), hfc, hfn, hc, hg]

/-- Settles O39: the covered positions one after another, each at most once. -/
theorem wrapFaultMarksTheCoveredPieces : Obligations.WrapFaultMarksTheCoveredPieces := by
  refine ⟨fun num b s hr h => exec_stray (n := 0) hr (takeWrapFault .line b) rfl (takeWrapFault_of_stray (by simpa using h)),
    fun num c n cause g s hr hg hc h1 h8 => ?_⟩
  have htake := takeWrapFault_of_cause (s := silent .line s) (by simpa using hg) hc h1 h8
  have hw := wrapsTaken_fold cause (nodup_coveredPositions g.wrap n.toNat) (silent .line s)
  rw [← htake] at hw
  have hpiece (q : Nat) : pieceAt q (silent .line s) = pieceAt q s := pieceAt_congr (by simp) q
  have haction : actionOf .wrapFault (silent .line s) = actionOf .wrapFault s := actionOf_congr (by simp) _
  have hfault : (silent .line s).fault = s.fault := by simp
  have hexec : exec (.wrapFault .line num [c, n]) s = .next (settle (takeWrapFault .line [c, n] (silent .line s))) :=
    answerMessage_settled _ _ _
  generalize takeWrapFault .line [c, n] (silent .line s) = u at *
  obtain ⟨hstore, hbundles, hcarrier, hreg, hdisp⟩ := hw.kept
  refine ⟨settle u, hexec, fun q x hx hle hlt => ?_, fun ha hcount => ?_, fun ha => ?_, fun q hq => ?_, ?_⟩
  · have hm := hw.pieces q (mem_coveredPositions.mpr ⟨hle, hlt⟩)
    rw [hpiece, hx, haction] at hm
    have hu : pieceAt q (settle u) = pieceAt q u := pieceAt_congr (by simp) q
    rw [hu, hm]
    refine ⟨fun hnone => by simp [wrapMark, hnone], fun hsome => ?_⟩
    have hwrap : x.wrap.isSome = true := Option.isSome_iff_ne_none.mpr hsome
    rw [Option.map_some, wrapMark, if_pos hwrap]
    cases actionOf .wrapFault s <;> simp [markRejectDue]
  · have hn := hw.count (haction ▸ ha) (hfault ▸ hcount)
    rw [hfault, length_filter_covered] at hn
    rw [(overflowOnly_settle u).others _ (by decide), hn]
    simp only [hpiece]
  · obtain ⟨hf, hl⟩ := hw.off (haction.trans ha)
    have hroom : Roomy 2 u := (hr.silent .line).of_link hl
    rw [settle_of_roomy hroom, hf, hfault]
  · have hu : entryAt q (settle u) = entryAt q u := by simp [entryAt]
    have hs : entryAt q (silent .line s) = entryAt q s := by simp [entryAt]
    rw [hu, ← hs]
    refine hw.others q (hq.symm.imp (fun h hm => ?_) (hpiece q).trans)
    have := mem_coveredPositions.mp hm
    omega
  · simp [hstore, hbundles, hcarrier, hreg, hdisp]

end Sys2Proof.Machine


/-! The verify unit: CODE READ, NO READ and the settlement at a boundary (R114 to R118). -/

namespace Sys2Proof.Machine

/-! ## The tests of a reading -/

theorem pieceAtIs_iff {test : Piece → Bool} {p : Nat} {s : State} :
    pieceAtIs test p s = true ↔ ∃ x, pieceAt p s = some x ∧ test x = true := by
  unfold pieceAtIs
  cases h : pieceAt p s <;> simp

theorem awaitsReading_iff {x : Piece} : awaitsReading x = true ↔ x.fate = .applied ∧ x.verify = .pending := by
  simp [awaitsReading]

section
variable {v code : Nat} {x : Piece} {s : State}

/-- The piece at v waits for its own reading. -/
def Waits (v : Nat) (s : State) : Prop := ∃ x, pieceAt v s = some x ∧ x.fate = .applied ∧ x.verify = .pending

theorem waits_iff : pieceAtIs awaitsReading v s = true ↔ Waits v s := by
  simp only [pieceAtIs_iff, awaitsReading_iff, Waits]

theorem pieceAtIs_own_iff : pieceAtIs (fun x => awaitsReading x && codeMatches code x) v s = true ↔
    ∃ x, pieceAt v s = some x ∧ (x.fate = .applied ∧ x.verify = .pending) ∧ x.applied.map matchCode = some code := by
  simp only [pieceAtIs_iff, Bool.and_eq_true, awaitsReading_iff, codeMatches, decide_eq_true_eq]

theorem pieceAtIs_late_iff : pieceAtIs (fun x => x.verify = .unreadProvisional && codeMatches code x) v s = true ↔
    ∃ x, pieceAt v s = some x ∧ x.verify = .unreadProvisional ∧ x.applied.map matchCode = some code := by
  simp only [pieceAtIs_iff, Bool.and_eq_true, decide_eq_true_eq, codeMatches]

theorem judgeCode_of_own (hx : pieceAt v s = some x) (hw : x.fate = .applied ∧ x.verify = .pending)
    (hc : x.applied.map matchCode = some code) : judgeCode v code s = recordMatch v s :=
  if_pos (pieceAtIs_own_iff.mpr ⟨x, hx, hw, hc⟩)

theorem judgeCode_of_late (hx : pieceAt (v + 1) s = some x) (hl : x.verify = .unreadProvisional)
    (hc : x.applied.map matchCode = some code)
    (hown : ∀ y, pieceAt v s = some y → ¬((y.fate = .applied ∧ y.verify = .pending) ∧ y.applied.map matchCode = some code)) :
    judgeCode v code s = recordMatch (v + 1) s := by
  have hn : ¬pieceAtIs (fun x => awaitsReading x && codeMatches code x) v s = true := fun h => by
    obtain ⟨y, hy, hyw⟩ := pieceAtIs_own_iff.mp h
    exact hown y hy hyw
  exact (if_neg hn).trans (if_pos (pieceAtIs_late_iff.mpr ⟨x, hx, hl, hc⟩))

theorem judgeCode_of_no_fit
    (hown : ∀ y, pieceAt v s = some y → ¬((y.fate = .applied ∧ y.verify = .pending) ∧ y.applied.map matchCode = some code))
    (hlate : ∀ y, pieceAt (v + 1) s = some y → ¬(y.verify = .unreadProvisional ∧ y.applied.map matchCode = some code)) :
    judgeCode v code s = if pieceAtIs awaitsReading v s then recordMismatch v s else strayReport .carrier s := by
  have hn : ¬pieceAtIs (fun x => awaitsReading x && codeMatches code x) v s = true := fun h => by
    obtain ⟨y, hy, hyw⟩ := pieceAtIs_own_iff.mp h
    exact hown y hy hyw
  have hm : ¬pieceAtIs (fun x => x.verify = .unreadProvisional && codeMatches code x) (v + 1) s = true := fun h => by
    obtain ⟨y, hy, hyw⟩ := pieceAtIs_late_iff.mp h
    exact hlate y hy hyw
  exact (if_neg hn).trans (if_neg hm)

theorem recordMatch_of_piece (hx : pieceAt v s = some x) : recordMatch v s =
    (s.setTrack (s.track.set v (.piece { x with verify := .match_ }))).setVerify { mismatchRun := 0 } := by
  rw [recordMatch, updatePiece_of_some hx]

/-! ## A mismatch -/

/-- A piece that awaits no carrier keeps all but its claim as orders are discarded (R108 step 2). -/
theorem settled_discardOrder (n : Nat) (hx : pieceAt v s = some x) (hf : x.fate ≠ .awaiting) :
    ∃ c, pieceAt v (discardOrder n s) = some { x with carrier := c } := by
  cases ho : orderOwner n s with
  | none => exact ⟨x.carrier, by rw [discardOrder_of_none ho, hx]⟩
  | some e =>
    obtain ⟨q, y⟩ := e
    obtain ⟨hy, -⟩ := pieceAt_of_orderOwner ho
    by_cases hq : v = q
    · subst hq
      obtain rfl := Option.some.inj (hx.symm.trans hy)
      refine ⟨none, ?_⟩
      rw [discardOrder_of_settled ho hf, pieceAt_updatePiece, if_pos rfl, hx]
      rfl
    · obtain ⟨-, hother, -⟩ := discardOrder_rules ho
      exact ⟨x.carrier, by rw [pieceAt_of_entryAt (hother v hq), hx]⟩

theorem settled_discardOrders (os : List Order) (hx : pieceAt v s = some x) (hf : x.fate ≠ .awaiting) :
    ∃ c, pieceAt v (discardOrders os s) = some { x with carrier := c } := by
  induction os generalizing s x with
  | nil => exact ⟨x.carrier, hx⟩
  | cons o os ih =>
    obtain ⟨c, hc⟩ := settled_discardOrder o.number hx hf
    obtain ⟨d, hd⟩ := ih (x := { x with carrier := c }) hc hf
    exact ⟨d, hd⟩

theorem settled_enterHold (c : HoldCause) (hx : pieceAt v s = some x) (hf : x.fate ≠ .awaiting) :
    ∃ n, pieceAt v (enterHold c s) = some { x with carrier := n } := by
  by_cases hm : s.carrier.mode = .run
  · obtain ⟨n, hn⟩ := settled_discardOrders (s := holding c s) s.carrier.queue hx hf
    exact ⟨n, (pieceAt_congr (enterHold_track hm) v).trans hn⟩
  · exact ⟨x.carrier, by rw [enterHold_of_hold hm, hx]⟩

theorem mode_enterHold (c : HoldCause) (s : State) : (enterHold c s).carrier.mode ≠ .run := by
  by_cases hm : s.carrier.mode = .run
  · rw [enterHold_of_run hm]
    simp [(heldUp_rules c s).1]
  · rwa [enterHold_of_hold hm]

theorem stopLatch_raise {f : FaultRecord} (h : s.fault.stopLatch = true) : (raise f s).fault.stopLatch = true := by
  rw [latch_raise, h, Bool.true_or]

theorem stopLatch_raiseMarking {m : Action → Piece → Piece} {k : FaultKind} {src : Source} {p : Nat}
    (h : s.fault.stopLatch = true) : (raiseMarking m k src p s).fault.stopLatch = true := by
  cases hx : pieceAt p s with
  | none => simpa [raiseMarking, hx] using h
  | some y => rw [fault_raiseMarking hx]; exact stopLatch_raise h

theorem stopLatch_discardOrder (n : Nat) (h : s.fault.stopLatch = true) : (discardOrder n s).fault.stopLatch = true := by
  unfold discardOrder
  split
  · exact h
  · split
    · exact stopLatch_raiseMarking (by simpa using h)
    · simpa using h

theorem stopLatch_enterHold (c : HoldCause) (h : s.fault.stopLatch = true) : (enterHold c s).fault.stopLatch = true := by
  have hfold (os : List Order) : ∀ u : State, u.fault.stopLatch = true → (discardOrders os u).fault.stopLatch = true := by
    induction os with
    | nil => exact fun u hu => hu
    | cons o os ih => exact fun u hu => ih _ (stopLatch_discardOrder o.number hu)
  by_cases hm : s.carrier.mode = .run
  · rw [enterHold_of_run hm]
    simpa [heldUp] using hfold s.carrier.queue (holding c s) h
  · rwa [enterHold_of_hold hm]

theorem markPiece_verify (k : FaultKind) (a : Action) (x : Piece) : (markPiece k a x).verify = x.verify := by
  cases a <;> rfl

/-- The mismatch recorded, before the run is raised (R115 case 3). -/
def mismatched (v : Nat) (s : State) : State :=
  raiseOnPiece .carrierMismatch (.port .carrier) v (updatePiece v (fun x => { x with verify := .mismatch }) s)

theorem mismatched_rules (hx : pieceAt v s = some x) :
    pieceAt v (mismatched v s) =
      some (markPiece .carrierMismatch (actionOf .carrierMismatch s) { x with verify := .mismatch }) ∧
    (mismatched v s).fault = (raise (pieceFault .carrierMismatch (.port .carrier) v x s) s).fault ∧
    (mismatched v s).verify = s.verify ∧ (mismatched v s).carrier = s.carrier ∧
    (∀ n, Roomy (n + 2) s → Roomy n (mismatched v s)) := by
  obtain ⟨hpiece, hfault, -⟩ := raiseOnChanged_rules hx (f := fun x => { x with verify := .mismatch }) rfl rfl rfl
    .carrierMismatch (.port .carrier)
  refine ⟨hpiece, hfault, by simp [mismatched], by simp [mismatched], fun n hr => ?_⟩
  exact Roomy.raiseMarking (hr.of_link (by simp)) _ _ _ _

theorem recordMismatch_of_first (h : s.verify.mismatchRun = 0) :
    recordMismatch v s = (mismatched v s).setVerify { mismatchRun := 1 } := by
  have hrun : (mismatched v s).verify.mismatchRun = 0 := by simpa [mismatched] using h
  show raiseRun (mismatched v s) = _
  rw [raiseRun, hrun]
  rfl

/-- The state with CARRIER_SEQUENCE taken and the mismatch run back at 0 (R116). -/
def sequenceLost (u : State) : State :=
  (raise (plainFault .carrierSequence (.port .carrier) u) u).setVerify { mismatchRun := 0 }

theorem recordMismatch_of_second (h : s.verify.mismatchRun ≠ 0) :
    recordMismatch v s = enterHold .sequence (sequenceLost (mismatched v s)) := by
  have hrun : ¬(mismatched v s).verify.mismatchRun + 1 < 2 := by
    have : (mismatched v s).verify.mismatchRun = s.verify.mismatchRun := by simp [mismatched]
    omega
  exact if_neg hrun

/-- A second mismatch: the piece, the run and the carrier unit (R116). -/
theorem sequence_rules (hx : pieceAt v s = some x) (hf : x.fate ≠ .awaiting) :
    (∃ n, pieceAt v (enterHold .sequence (sequenceLost (mismatched v s))) = some
      { markPiece .carrierMismatch (actionOf .carrierMismatch s) { x with verify := .mismatch } with carrier := n }) ∧
    (enterHold .sequence (sequenceLost (mismatched v s))).verify.mismatchRun = 0 ∧
    (actionOf .carrierSequence s = .stop →
      (enterHold .sequence (sequenceLost (mismatched v s))).fault.stopLatch = true) := by
  obtain ⟨hpiece, -⟩ := mismatched_rules hx
  refine ⟨?_, ?_, fun ha => stopLatch_enterHold _ ?_⟩
  · have hlost : pieceAt v (sequenceLost (mismatched v s)) = pieceAt v (mismatched v s) :=
      pieceAt_congr (by simp [sequenceLost]) v
    exact settled_enterHold .sequence (hlost.trans hpiece) (by rwa [markPiece_fate])
  · simp [sequenceLost]
  · have hact : actionOf .carrierSequence (mismatched v s) = .stop := by
      refine ((fault_raiseMarking_table _ _ .carrierSequence _ _ _).1.trans ?_).trans ha
      exact actionOf_congr (by simp) _
    show (raise _ (mismatched v s)).fault.stopLatch = true
    rw [latch_raise]
    exact Bool.or_eq_true_iff.mpr (.inr (decide_eq_true hact))

/-! ## A piece unread -/

theorem recordUnread_rules (hx : pieceAt v s = some x) (src : Source) :
    pieceAt v (recordUnread src v s) =
      some (markPiece .carrierUnread (actionOf .carrierUnread s) { x with verify := .unread }) ∧
    (recordUnread src v s).fault = (raise (pieceFault .carrierUnread src v x s) s).fault ∧
    (∀ q, q ≠ v → entryAt q (recordUnread src v s) = entryAt q s) ∧
    (∀ n, Roomy (n + 2) s → Roomy n (recordUnread src v s)) := by
  obtain ⟨hpiece, hfault, hother⟩ := raiseOnChanged_rules hx (f := fun x => { x with verify := .unread }) rfl rfl rfl
    .carrierUnread src
  exact ⟨hpiece, hfault, hother, fun n hr => Roomy.raiseMarking (hr.of_link (by simp)) _ _ _ _⟩

end

end Sys2Proof.Machine


/-! The verify settlement at a boundary, and a boundary that a piece found unread brings to HALT (R24, R117, R118). -/

namespace Sys2Proof.Machine

/-! ## The settlement -/

section
variable {v : Nat} {x : Piece} {s : State}

theorem settleVerify_of_none (h : (geometryItems s).verify = none) : settleVerify s = s := by
  simp only [settleVerify, h]

theorem leaveReader_keeps (x : Piece) : (leaveReader x).tag = x.tag ∧ (leaveReader x).record = x.record := by
  unfold leaveReader
  split <;> exact ⟨rfl, rfl⟩

theorem leaveReader_eq (x : Piece) : leaveReader x = { x with
    verify := if x.verify = .pending ∧ x.fate = .applied then .unreadProvisional
      else if x.verify = .pending ∧ (x.fate = .void ∨ x.fate = .starved) then .notChecked else x.verify } := by
  obtain ⟨⟩ := x
  rename_i fate _ _ verify _ _ _ _ _
  cases verify <;> cases fate <;> rfl

/-- The state in which the piece that has just left v is settled. -/
def readerLeft (v : Nat) (s : State) : State := updatePiece (v + 1) leaveReader s

theorem readerLeft_keeps (v : Nat) (s : State) : (readerLeft v s).fault = s.fault ∧ (readerLeft v s).reg = s.reg ∧
    (readerLeft v s).verify = s.verify ∧ (readerLeft v s).carrier = s.carrier ∧ (readerLeft v s).link = s.link := by
  simp [readerLeft]

theorem entryAt_readerLeft {q : Nat} (h : q ≠ v + 1) : entryAt q (readerLeft v s) = entryAt q s :=
  entryAt_updatePiece_other h _ s

theorem pieceAt_readerLeft (hx : pieceAt (v + 1) s = some x) : pieceAt (v + 1) (readerLeft v s) = some (leaveReader x) := by
  rw [readerLeft, pieceAt_updatePiece, if_pos rfl, hx]
  rfl

theorem settleVerify_of_unread (hv : (geometryItems s).verify = some v) (hx : pieceAt (v + 2) s = some x)
    (hu : x.verify = .unreadProvisional) : settleVerify s = recordUnread .none (v + 2) (readerLeft v s) := by
  have hp : pieceAt (v + 2) (readerLeft v s) = some x :=
    (pieceAt_of_entryAt (entryAt_readerLeft (by omega))).trans hx
  simp only [settleVerify, hv]
  exact if_pos (pieceAtIs_iff.mpr ⟨x, hp, decide_eq_true hu⟩)

theorem settleVerify_of_read (hv : (geometryItems s).verify = some v)
    (hu : ∀ x, pieceAt (v + 2) s = some x → x.verify ≠ .unreadProvisional) : settleVerify s = readerLeft v s := by
  simp only [settleVerify, hv]
  refine if_neg fun h => ?_
  obtain ⟨x, hx, hxu⟩ := pieceAtIs_iff.mp h
  exact hu x ((pieceAt_of_entryAt (entryAt_readerLeft (by omega))).symm.trans hx) (of_decide_eq_true hxu)

/-- The settlement by the two positions it looks at. -/
theorem settleVerify_rules (hv : (geometryItems s).verify = some v) :
    (∀ x, pieceAt (v + 1) s = some x → pieceAt (v + 1) (settleVerify s) = some (leaveReader x)) ∧
    (∀ x, pieceAt (v + 2) s = some x → x.verify = .unreadProvisional →
      pieceAt (v + 2) (settleVerify s) =
        some (markPiece .carrierUnread (actionOf .carrierUnread s) { x with verify := .unread }) ∧
      (settleVerify s).fault = (raise (pieceFault .carrierUnread .none (v + 2) x s) s).fault) ∧
    ((∀ x, pieceAt (v + 2) s = some x → x.verify ≠ .unreadProvisional) →
      entryAt (v + 2) (settleVerify s) = entryAt (v + 2) s ∧ (settleVerify s).fault = s.fault) ∧
    ∀ q, q ≠ v + 1 → q ≠ v + 2 → entryAt q (settleVerify s) = entryAt q s := by
  obtain ⟨hfault, hreg, -⟩ := readerLeft_keeps v s
  have hp2 (x : Piece) (hx : pieceAt (v + 2) s = some x) : pieceAt (v + 2) (readerLeft v s) = some x :=
    (pieceAt_of_entryAt (entryAt_readerLeft (by omega))).trans hx
  by_cases h : ∃ x, pieceAt (v + 2) s = some x ∧ x.verify = .unreadProvisional
  · obtain ⟨y, hy, hyu⟩ := h
    obtain ⟨hpiece, hraised, hother, -⟩ := recordUnread_rules (hp2 y hy) .none
    rw [settleVerify_of_unread hv hy hyu]
    refine ⟨fun x hx => ?_, fun x hx _ => ?_, fun hn => absurd hyu (hn y hy), fun q h1 h2 => ?_⟩
    · exact (pieceAt_of_entryAt (hother (v + 1) (by omega))).trans (pieceAt_readerLeft hx)
    · obtain rfl := Option.some.inj (hx.symm.trans hy)
      rw [actionOf_congr hfault] at hpiece
      refine ⟨hpiece, hraised.trans ((fault_raise_congr hfault _).trans ?_)⟩
      simp only [pieceFault, hreg]
    · exact (hother q h2).trans (entryAt_readerLeft h1)
  · have hn : ∀ x, pieceAt (v + 2) s = some x → x.verify ≠ .unreadProvisional := fun x hx hu => h ⟨x, hx, hu⟩
    rw [settleVerify_of_read hv hn]
    exact ⟨fun x hx => pieceAt_readerLeft hx, fun x hx hu => absurd hu (hn x hx),
      fun _ => ⟨entryAt_readerLeft (by omega), hfault⟩, fun q h1 _ => entryAt_readerLeft h1⟩

end

/-! ## A boundary in HALT -/

/-- What stands at a boundary whose settlement has set the stop latch: nothing enters, and the queue stays. -/
structure Halted (q : List Record) (t : List Record) (known : Prop) (l : List PulseTask) (s : State) : Prop where
  latch : s.fault.stopLatch = true
  halts : StopHalts s
  pocket : PocketFree s
  queue : known → s.store.queue = q
  books : known → .disposition ∈ l → Accounted t s

theorem gate_of_halted {q t : List Record} {known : Prop} {l : List PulseTask} {s : State} (h : Halted q t known l s) :
    s.run.gate = .halt := h.halts.mp h.latch

/-- In HALT the pocket is left EMPTY or LOCKED (R62 to R64). -/
theorem entryEvent_of_halt {s : State} (h : s.run.gate = .halt) :
    ∃ e x, pieceOf e = none ∧ entryEvent s = (setEntryAt 0 e s).setEntry x := by
  unfold entryEvent
  split
  · exact ⟨_, _, rfl, rfl⟩
  · split
    · exact ⟨_, _, rfl, rfl⟩
    · rw [if_pos (by simp [gateAdmits, h])]
      exact ⟨_, _, rfl, rfl⟩

theorem stopLatch_settleCarrier {s : State} (h : s.fault.stopLatch = true) :
    (settleCarrier s).fault.stopLatch = true := by
  unfold settleCarrier
  dsimp only
  split
  · exact h
  · next x _ =>
    have hs : (if x.fate = .awaiting then starvePiece ((geometryItems s).applicator + 1) s else s).fault.stopLatch =
        true := by
      split
      · exact stopLatch_raiseMarking (by simpa using h)
      · exact h
    split
    · exact hs
    · simpa using hs

theorem stopLatch_expireConfirm {s : State} (c : Confirm) (h : s.fault.stopLatch = true) :
    (expireConfirm c s).fault.stopLatch = true := by
  rw [expireConfirm, (suspectReject_keeps_disp _ _).2.2.1]
  exact stopLatch_raise h

theorem stopLatch_ageConfirms {s : State} (h : s.fault.stopLatch = true) : (ageConfirms s).fault.stopLatch = true := by
  have hfold (cs : List Confirm) : ∀ u : State, u.fault.stopLatch = true →
      (cs.foldl (fun s c => expireConfirm c s) u).fault.stopLatch = true := by
    induction cs with
    | nil => exact fun u hu => hu
    | cons c cs ih => exact fun u hu => ih _ (stopLatch_expireConfirm c hu)
  exact hfold _ _ h

theorem stopLatch_clearGateDue {s : State} (g : Nat) (h : s.fault.stopLatch = true) :
    (clearGateDue g s).fault.stopLatch = true := by
  cases hd : s.disp.gateDue with
  | none => simpa [clearGateDue, hd] using h
  | some d =>
    rw [clearGateDue_of_some g hd, (suspectReject_keeps_disp _ _).2.2.1]
    exact stopLatch_raise (s := s.setDisp { s.disp with gateDue := none }) h

theorem stopLatch_dispositionBoundary {s : State} (h : s.fault.stopLatch = true) :
    (dispositionBoundary s).fault.stopLatch = true := by
  simpa [dispositionBoundary] using stopLatch_clearGateDue _ (stopLatch_ageConfirms h)

/-! ## The queue at a boundary in which nothing enters -/

section
variable {t : List Record} {s : State}

theorem mem_map_of_placeOf {key : Nat} {p : Place} (h : placeOf key s = some p) : (key, p) ∈ s.store.map := by
  obtain ⟨e, he, rfl⟩ := Option.map_eq_some_iff.mp h
  have hk : e.1 = key := by simpa using List.find?_some he
  exact hk ▸ List.mem_of_find?_eq_some he

theorem queue_giveUpProof (h : Accounted t s) (key : Nat) : (giveUpProof key s).store.queue = s.store.queue := by
  unfold giveUpProof
  split
  · next x hp hw =>
    split
    · obtain ⟨-, hkey⟩ := waitingRecord_mem hw
      have hlane : key ∈ keysAt s.store.queue s.store.lane t .lane := (h.listed .lane key).mp (mem_map_of_placeOf hp)
      rw [(checked_endLife .lane _ x s).queue, store_recordOut]
      refine List.filter_eq_self.mpr fun y hy => decide_eq_true fun he => ?_
      have hqueue : key ∈ keysAt s.store.queue s.store.lane t .queue := List.mem_map.mpr ⟨y, hy, he.trans hkey⟩
      exact absurd (place_unique h.distinct hlane hqueue) (by decide)
    · rfl
  · rfl

theorem queue_suspectReject (h : Accounted t s) (o : Option Reject) :
    (suspectReject o s).store.queue = s.store.queue := by
  cases o with
  | none => rfl
  | some r =>
    cases hp : r.proof with
    | false => rw [suspectReject_of_plain hp, (sendSuspect_rules r s).1]
    | true =>
      obtain ⟨hstore, -⟩ := proofFailed_keeps r s
      have hf : Accounted t (proofFailed r s) := by rwa [Accounted, hstore]
      rw [suspectReject_of_proof hp]
      exact (queue_giveUpProof hf r.key).trans (congrArg Store.queue hstore)

theorem queue_expireConfirm (h : Accounted t s) (c : Confirm) : (expireConfirm c s).store.queue = s.store.queue :=
  (queue_suspectReject ((accounted_storeWork t).raise h _) _).trans (by simp)

theorem queue_ageConfirms (h : Accounted t s) : (ageConfirms s).store.queue = s.store.queue := by
  have hfold (cs : List Confirm) : ∀ u : State, Accounted t u →
      (cs.foldl (fun s c => expireConfirm c s) u).store.queue = u.store.queue := by
    induction cs with
    | nil => exact fun _ _ => rfl
    | cons c cs ih =>
      exact fun u hu => (ih _ ((accounted_storeWork t).expireConfirm hu c)).trans (queue_expireConfirm hu c)
  exact hfold _ (s.setDisp _) h

theorem queue_clearGateDue (h : Accounted t s) (g : Nat) : (clearGateDue g s).store.queue = s.store.queue := by
  cases hd : s.disp.gateDue with
  | none => simp [clearGateDue, hd]
  | some d =>
    rw [clearGateDue_of_some g hd]
    refine (queue_suspectReject (t := t) ?_ _).trans (by simp [dueLost])
    exact (accounted_storeWork t).raise (s := s.setDisp { s.disp with gateDue := none }) h _

theorem queue_endLife_track (e : RecordEnd) (r : Record) (s : State) :
    (endLife .track e r s).store.queue = s.store.queue := by
  rw [(checked_endLife .track e r s).queue, store_recordOut]
  rfl

theorem queue_placeRejected (x : Piece) (s : State) : (placeRejected x s).store.queue = s.store.queue := by
  unfold placeRejected
  dsimp only
  split
  · exact queue_endLife_track _ _ s
  · split
    · exact queue_endLife_track _ _ s
    · split
      · exact queue_sendToLane _ _ s
      · split
        · exact queue_sendToLane _ _ s
        · exact queue_endLife_track _ _ s

theorem queue_decidePiece (x : Piece) (s : State) : (decidePiece x s).store.queue = s.store.queue := by
  unfold decidePiece
  split
  · exact queue_placeRejected x s
  · split
    · exact queue_placeRejected { x with proof := true } _
    · exact (queue_endLife_track _ _ _).trans (by simp)

theorem queue_takeArrival (s : State) : (takeArrival s).store.queue = s.store.queue := by
  unfold takeArrival
  dsimp only
  split
  · exact queue_decidePiece _ _
  all_goals rfl

theorem queue_dispositionBoundary (h : Accounted t s) : (dispositionBoundary s).store.queue = s.store.queue :=
  ((queue_takeArrival _).trans (queue_clearGateDue ((accounted_storeWork t).ageConfirms h) _)).trans (queue_ageConfirms h)

end

/-! ## The boundary -/

section
variable {q t : List Record} {known : Prop} {l : List PulseTask} {s : State}

theorem accounted_of_store {u : State} (hs : u.store = s.store) (h : Accounted t s) : Accounted t u := by
  rwa [Accounted, hs]

theorem Halted.settle (h : Halted q t known l s) : Halted q t known l (settle s) where
  latch := stopLatch_settle h.latch
  halts := stopHalts_free.settle h.halts
  pocket := pocketFree_storeFree.settle h.pocket
  queue hk := Eq.trans (by simp) (h.queue hk)
  books hk hd := accounted_of_store (by simp) (h.books hk hd)

theorem Halted.entryEvent (h : Halted q t known (.entry :: l) s) : Halted q t known l (entryEvent s) := by
  obtain ⟨e, x, he, hevent⟩ := entryEvent_of_halt (gate_of_halted h)
  rw [hevent]
  exact ⟨h.latch, h.halts, pocketFree_put h.pocket he, h.queue, fun hk hd => h.books hk (List.mem_cons_of_mem _ hd)⟩

theorem Halted.settleCarrier (h : Halted q t known (.carrier :: l) s) : Halted q t known l (settleCarrier s) where
  latch := stopLatch_settleCarrier h.latch
  halts := stopHalts_free.toCarrierFree.settleCarrier h.halts
  pocket := pocketFree_carrierFree.settleCarrier h.pocket
  queue hk := Eq.trans (by simp) (h.queue hk)
  books hk hd := accounted_of_store (by simp) (h.books hk (List.mem_cons_of_mem _ hd))

theorem Halted.dispositionBoundary (hl : .disposition ∉ l) (h : Halted q t known (.disposition :: l) s) :
    Halted q t known l (dispositionBoundary s) where
  latch := stopLatch_dispositionBoundary h.latch
  halts := dispositionBoundary_of stopHalts_free.toStoreFree.work
    (fun h hd => takeArrival_of_free stopHalts_free.toStoreFree stopHalts_free.toTrackFree h hd) h.halts
  pocket := pocketFree_disposition h.pocket
  queue hk := (queue_dispositionBoundary (h.books hk List.mem_cons_self)).trans (h.queue hk)
  books _ hd := absurd hd hl

/-- The block events of a boundary in HALT. -/
theorem halted_runTasks (order : List PulseTask) (h : Halted q t known (schedule order boundaryTasks) s) :
    Halted q t known [] (runTasks boundaryTask (schedule order boundaryTasks) s) := by
  refine (runTasks_induct (J := fun l u => (l.Nodup ∧ ∀ t ∈ l, t = .entry ∨ t = .carrier ∨ t = .disposition) ∧
    Halted q t known l u) (fun e l u ⟨⟨hnd, hmem⟩, hu⟩ => ?_)
    ⟨⟨nodup_schedule_boundary order, fun _ => mem_schedule_boundary.mp⟩, h⟩).2
  obtain ⟨hnot, hnd'⟩ := List.nodup_cons.mp hnd
  refine ⟨⟨hnd', fun x hx => hmem x (List.mem_cons_of_mem e hx)⟩, Halted.settle ?_⟩
  rcases hmem e List.mem_cons_self with rfl | rfl | rfl
  · exact hu.entryEvent
  · exact hu.settleCarrier
  · exact hu.dispositionBoundary hnot

end

end Sys2Proof.Machine


/-! The verify unit's statement: the readings, the settlement, and the pulse whose settlement halts the line (R114 to
R118). -/

namespace Sys2Proof.Machine

/-! ## A count that is a pitch boundary -/

section
variable {g : Geometry} {s : State}

theorem takePulse_of_count (order : List PulseTask) (hg : s.setup.geometry = some g) (hd : g.divider ≤ s.reg.remainder + 1) :
    takePulse order s = takeCount g order (s.setReg { s.reg with remainder := 0 }) := by
  simp only [takePulse, hg, if_neg (Nat.not_lt.mpr hd)]

/-- The state a boundary is issued in: the count at the new pocket index, the pulses that end released, the window looked at. -/
def boundaryReached (g : Geometry) (s : State) : State :=
  windowBoundary (releasePulses g.pitch (s.setReg { s.reg with
    remainder := 0, phase := 0, pocketIndex := (s.reg.pocketIndex + 1) % g.chainLength }))

theorem takePulse_of_boundary (order : List PulseTask) (hg : s.setup.geometry = some g)
    (hd : g.divider ≤ s.reg.remainder + 1) (hp : g.pitch ≤ s.reg.phase + 1) :
    takePulse order s = issueBoundary ((s.reg.pocketIndex + 1) % g.chainLength) order (boundaryReached g s) := by
  rw [takePulse_of_count order hg hd, takeCount]
  exact if_neg (Nat.not_lt.mpr hp)

end

/-! ## The settlement that halts the line -/

theorem pieceAt_advanceTrack {p : Nat} {s : State} (h : p + 1 < s.track.length) :
    pieceAt (p + 1) (advanceTrack s) = pieceAt p s := by
  have hget : (TrackEntry.empty none 0 :: s.track.dropLast)[p + 1]? = s.track[p]? := by
    rw [List.getElem?_cons_succ, List.getElem?_dropLast, if_pos (by omega)]
  simp only [pieceAt, advanceTrack, State.setTrack_track, hget]

theorem gate_raiseMarking_of_stop {p : Nat} {x : Piece} {k : FaultKind} {s : State} (hx : pieceAt p s = some x)
    (ha : actionOf k s = .stop) (hh : s.fault.stopLatch = false ∨ s.run.gate = .halt) (m : Action → Piece → Piece)
    (src : Source) : (raiseMarking m k src p s).run.gate = .halt := by
  have hrun : (raiseMarking m k src p s).run = (raise (pieceFault k src p x s) s).run := by
    rw [raiseMarking_of_some hx]
    simp
  have hk : (pieceFault k src p x s).kind = k := rfl
  rw [hrun, run_raise, hk, ha]
  rcases hh with hh | hh
  · simp [hh]
  · simp [hh]

/-- The settlement of a piece found unread with the action STOP halts the line (R24, R118). -/
theorem halted_settleVerify {v : Nat} {x : Piece} {s : State} (known : Prop) (l : List PulseTask)
    (hv : (geometryItems s).verify = some v) (hx : pieceAt (v + 2) s = some x) (hu : x.verify = .unreadProvisional)
    (ha : actionOf .carrierUnread s = .stop) (hh : s.fault.stopLatch = false ∨ s.run.gate = .halt) (hp : PocketFree s)
    {t : List Record} (hb : known → Accounted t s) : Halted s.store.queue t known l (settleVerify s) := by
  have hrules := (settleVerify_rules hv).2.1 x hx hu
  have hlatch : (settleVerify s).fault.stopLatch = true := by
    rw [hrules.2, latch_raise]
    exact Bool.or_eq_true_iff.mpr (.inr (decide_eq_true ha))
  have hgate : (settleVerify s).run.gate = .halt := by
    have hp2 : pieceAt (v + 2) (updatePiece (v + 2) (fun x => { x with verify := .unread }) (readerLeft v s)) =
        some { x with verify := .unread } := by
      rw [pieceAt_updatePiece, if_pos rfl, pieceAt_of_entryAt (entryAt_readerLeft (by omega)), hx]
      rfl
    rw [settleVerify_of_unread hv hx hu]
    refine gate_raiseMarking_of_stop hp2 ((actionOf_congr ?_ _).trans ha) (hh.imp (fun h => ?_) fun h => ?_) _ _
    · simp [readerLeft]
    · simpa [readerLeft] using h
    · simpa [readerLeft] using h
  exact ⟨hlatch, ⟨fun _ => hgate, fun _ => hlatch⟩, pocketFree_storeFree.settleVerify hp, fun _ => by simp,
    fun hk _ => accounted_of_store (by simp) (hb hk)⟩

/-! ## The reports -/

section
variable {num : Byte} {b : List Byte} {v : Nat} {x : Piece} {s : State}

theorem exec_codeRead (hb : b.length = 2) (hv : (geometryItems s).verify = some v) :
    exec (.codeRead .carrier num b) s = .next (settle (judgeCode v (ofBytes b) (silent .carrier s))) := by
  have htake : takeCodeRead .carrier b (silent .carrier s) = judgeCode v (ofBytes b) (silent .carrier s) := by
    simp [takeCodeRead, carrierReport, hb, field_of_length hb, reportCode, geometryItems_silent, hv]
  rw [← htake]
  exact answerMessage_settled _ _ _

theorem exec_codeRead_of_match {p : Nat} (hr : Roomy 2 s) (hb : b.length = 2) (hv : (geometryItems s).verify = some v)
    (hx : pieceAt p s = some x) (hj : judgeCode v (ofBytes b) (silent .carrier s) = recordMatch p (silent .carrier s)) :
    exec (.codeRead .carrier num b) s = .next (silent .carrier
      ((s.setTrack (s.track.set p (.piece { x with verify := .match_ }))).setVerify { mismatchRun := 0 })) := by
  have hp : pieceAt p (silent .carrier s) = some x := (pieceAt_congr (by simp) p).trans hx
  have hroom : Roomy 2 (recordMatch p (silent .carrier s)) := by
    rw [recordMatch_of_piece hp]
    exact (hr.silent .carrier).of_link rfl
  rw [exec_codeRead hb hv, hj, settle_of_roomy hroom, recordMatch_of_piece hp, silent_setVerify, silent_setTrack]
  simp

theorem fault_raise_pieceFault_silent (k : FaultKind) (src : Source) (p : Nat) (x : Piece) (q : Port) (s : State) :
    (raise (pieceFault k src p x (silent q s)) (silent q s)).fault = (raise (pieceFault k src p x s) s).fault := by
  have hrecord : pieceFault k src p x (silent q s) = pieceFault k src p x s := by simp [pieceFault]
  rw [hrecord]
  exact fault_raise_congr (by simp) _

theorem exec_codeRead_of_mismatch (hr : Roomy 2 s) (hb : b.length = 2) (hv : (geometryItems s).verify = some v)
    (hx : pieceAt v s = some x) (hw : x.fate = .applied ∧ x.verify = .pending)
    (hc : ¬x.applied.map matchCode = some (ofBytes b))
    (hlate : ∀ y, pieceAt (v + 1) s = some y → ¬(y.verify = .unreadProvisional ∧ y.applied.map matchCode = some (ofBytes b))) :
    ∃ t y, exec (.codeRead .carrier num b) s = .next t ∧ pieceAt v t = some y ∧ y.verify = .mismatch ∧
      (actionOf .carrierMismatch s = .reject ∨ actionOf .carrierMismatch s = .stop → y.rejectDue = true) ∧
      (s.verify.mismatchRun = 0 → t.verify.mismatchRun = 1 ∧ t.carrier = s.carrier ∧
        y = markPiece .carrierMismatch (actionOf .carrierMismatch s) { x with verify := .mismatch } ∧
        t.fault = (raise (pieceFault .carrierMismatch (.port .carrier) v x s) s).fault) ∧
      (s.verify.mismatchRun = 1 → t.verify.mismatchRun = 0 ∧ t.carrier.mode ≠ .run ∧
        (actionOf .carrierSequence s = .stop → t.fault.stopLatch = true)) := by
  have hpiece (q : Nat) : pieceAt q (silent .carrier s) = pieceAt q s := pieceAt_congr (by simp) q
  have haction (k : FaultKind) : actionOf k (silent .carrier s) = actionOf k s := actionOf_congr (by simp) k
  have hrun : (silent .carrier s).verify.mismatchRun = s.verify.mismatchRun := by simp
  have hu := (hpiece v).trans hx
  have hexec : exec (.codeRead .carrier num b) s = .next (settle (recordMismatch v (silent .carrier s))) := by
    rw [exec_codeRead hb hv, judgeCode_of_no_fit
      (fun y hy h => hc (Option.some.inj (hu.symm.trans hy) ▸ h.2))
      (fun y hy => hlate y ((hpiece (v + 1)).symm.trans hy)), if_pos (waits_iff.mpr ⟨x, hu, hw⟩)]
  have hdue : actionOf .carrierMismatch s = .reject ∨ actionOf .carrierMismatch s = .stop →
      (markPiece .carrierMismatch (actionOf .carrierMismatch s) { x with verify := .mismatch }).rejectDue = true := fun h => by
    rw [markPiece_rejectDue, decide_eq_true h, Bool.or_true]
  have hver : (markPiece .carrierMismatch (actionOf .carrierMismatch s) { x with verify := .mismatch }).verify =
      .mismatch := markPiece_verify _ _ _
  by_cases h0 : s.verify.mismatchRun = 0
  · obtain ⟨hy, hfault, -, hcarrier, hroom⟩ := mismatched_rules hu
    rw [haction] at hy
    have hsettle : settle ((mismatched v (silent .carrier s)).setVerify { mismatchRun := 1 }) =
        (mismatched v (silent .carrier s)).setVerify { mismatchRun := 1 } :=
      settle_of_roomy ((hroom 0 (hr.silent .carrier)).of_link rfl)
    rw [recordMismatch_of_first (hrun.trans h0), hsettle] at hexec
    refine ⟨_, _, hexec, hy, hver, hdue, fun _ => ⟨rfl, hcarrier.trans (by simp), rfl, hfault.trans ?_⟩,
      fun h1 => absurd (h0.symm.trans h1) (by decide)⟩
    exact fault_raise_pieceFault_silent _ _ _ _ _ _
  · obtain ⟨⟨n, hy⟩, hzero, hstop⟩ := sequence_rules hu (by simp [hw.1])
    rw [haction] at hy hstop
    rw [recordMismatch_of_second (by rwa [hrun])] at hexec
    have hmode := mode_enterHold .sequence (sequenceLost (mismatched v (silent .carrier s)))
    refine ⟨_, _, hexec, (pieceAt_congr (by simp) v).trans hy, hver, hdue, fun h => absurd h h0,
      fun _ => ⟨by simpa using hzero, by simpa using hmode, fun h => stopLatch_settle (hstop h)⟩⟩

theorem exec_noRead (hv : (geometryItems s).verify = some v) :
    exec (.noRead .carrier num []) s = .next (settle (if pieceAtIs awaitsReading v (silent .carrier s)
      then recordUnread (.port .carrier) v (silent .carrier s) else strayReport .carrier (silent .carrier s))) := by
  have htake : takeNoRead .carrier [] (silent .carrier s) = if pieceAtIs awaitsReading v (silent .carrier s)
      then recordUnread (.port .carrier) v (silent .carrier s) else strayReport .carrier (silent .carrier s) := by
    simp only [takeNoRead, carrierReport, reportNoRead, geometryItems_silent, hv]
    rfl
  rw [← htake]
  exact answerMessage_settled _ _ _

end

/-! ## The pulse that halts the line -/

/-- Under STOP, with a piece unread provisionally at v+1, the boundary's settlement comes to HALT. -/
theorem halted_advance {i v : Nat} {x : Piece} {s : State} {l : List PulseTask} (hv : (geometryItems s).verify = some v)
    (hx : pieceAt (v + 1) s = some x) (hu : x.verify = .unreadProvisional) (hlen : v + 2 < s.track.length)
    (ha : actionOf .carrierUnread s = .stop) (hh : s.fault.stopLatch = false ∨ s.run.gate = .halt) :
    Halted s.store.queue (recordsOf s.track) (RecordsAccounted s) l
      (advance (s.setReg { s.reg with phase := 0, issuedTo := 0, pocketIndex := i })) := by
  have hmoved : pieceAt (v + 2) (advanceTrack (s.setReg { s.reg with phase := 0, issuedTo := 0, pocketIndex := i })) =
      some x := (pieceAt_advanceTrack (by simpa using hlen)).trans hx
  refine Halted.settle (halted_settleVerify (s := advanceTrack (s.setReg
    { s.reg with phase := 0, issuedTo := 0, pocketIndex := i })) _ _ (by exact hv) hmoved hu (by exact ha) (by exact hh)
    (pocketFree_advance _) fun h => ?_)
  exact accounted_of_store (by rfl) ((recordsAccounted_iff s).mp h)

theorem recordsAccounted_congr {s t : State} (ht : t.track = s.track) (hs : t.store = s.store) :
    RecordsAccounted s → RecordsAccounted t := fun h => by
  rw [recordsAccounted_iff, InBooks, Accounted] at h ⊢
  rwa [ht, hs]

theorem pieceAt_of_pocketFree {s : State} (h : PocketFree s) : pieceAt 0 s = none := by
  obtain ⟨e, he, hn⟩ := h
  by_contra hp
  obtain ⟨y, hy⟩ := Option.ne_none_iff_exists'.mp hp
  obtain rfl := Option.some.inj (he.symm.trans (pieceAt_eq_some_iff.mp hy))
  cases hn

theorem exec_encoderPulse_halts {a b : BitVec 12} {order : List PulseTask} {g : Geometry} {v : Nat} {x : Piece} {s : State}
    (hg : s.setup.geometry = some g) (hv : g.verify = some v) (hd : g.divider ≤ s.reg.remainder + 1)
    (hp : g.pitch ≤ s.reg.phase + 1) (hx : pieceAt (v + 1) s = some x) (hu : x.verify = .unreadProvisional)
    (hlen : v + 2 < s.track.length) (ha : actionOf .carrierUnread s = .stop)
    (hh : s.fault.stopLatch = false ∨ s.run.gate = .halt) :
    ∃ t, exec (.encoderPulse a b order) s = .next t ∧ t.run.gate = .halt ∧ pieceAt 0 t = none ∧
      (RecordsAccounted s → t.store.queue = s.store.queue) := by
  have htake := takePulse_of_boundary (s := s.setPins { detectA := a, detectB := b }) order hg hd hp
  have htrack : (boundaryReached g (s.setPins { detectA := a, detectB := b })).track = s.track := by
    simp [boundaryReached]
  have hstore : (boundaryReached g (s.setPins { detectA := a, detectB := b })).store = s.store := by
    simp [boundaryReached]
  have hrun : (boundaryReached g (s.setPins { detectA := a, detectB := b })).run = s.run := by simp [boundaryReached]
  have hfault : (boundaryReached g (s.setPins { detectA := a, detectB := b })).fault = s.fault := by
    simp [boundaryReached]
  have hsetup : (boundaryReached g (s.setPins { detectA := a, detectB := b })).setup = s.setup := by
    simp [boundaryReached]
  refine ⟨_, (congrArg (fun u => Host.Outcome.next (settle u)) htake), ?_⟩
  generalize boundaryReached g (s.setPins { detectA := a, detectB := b }) = w at *
  have hhalt : Halted w.store.queue (recordsOf w.track) (RecordsAccounted w) [] (settle (issueBoundary
      ((s.reg.pocketIndex + 1) % g.chainLength) order w)) := by
    refine Halted.settle (halted_runTasks order (halted_advance (v := v) ?_ ?_ hu ?_ ?_ ?_))
    · simp [geometryItems, hsetup, hg, hv]
    · exact (pieceAt_congr htrack _).trans hx
    · rwa [htrack]
    · exact (actionOf_congr hfault _).trans ha
    · rwa [hfault, hrun]
  refine ⟨gate_of_halted hhalt, pieceAt_of_pocketFree hhalt.pocket, fun h => ?_⟩
  exact (hhalt.queue (recordsAccounted_congr htrack hstore h)).trans (congrArg Store.queue hstore)

/-- Settles O38: the readings by the piece at v and at v+1, the settlement by the two positions it looks at, and the
boundary that ends in HALT. -/
theorem readingsAreJudgedAndSettled : Obligations.ReadingsAreJudgedAndSettled := by
  refine ⟨fun num b s hr hb hv => ?_, fun num b v s hr hb hv => ?_, fun s => settleVerify_of_none, fun v s hv => ?_,
    fun a b order g v x s hg hv hd hp hx hu hlen ha hh => exec_encoderPulse_halts hg hv hd hp hx hu hlen ha hh⟩
  · constructor
    · exact exec_stray (n := 0) hr (takeCodeRead .carrier b) rfl
        (by simp [takeCodeRead, carrierReport, hb, reportCode, geometryItems_silent, hv])
    · exact exec_stray (n := 0) hr (takeNoRead .carrier []) rfl
        (by simp [takeNoRead, carrierReport, reportNoRead, geometryItems_silent, hv])
  · have hpiece (q : Nat) : pieceAt q (silent .carrier s) = pieceAt q s := pieceAt_congr (by simp) q
    have hstray : Roomy 0 (strayReport .carrier (silent .carrier s)) := (hr.silent .carrier).strayReport .carrier
    refine ⟨fun x hx hw hc => ?_, fun x hx hl hown => ?_, fun x hx hw hc hlate => ?_, fun hown hlate => ?_,
      fun x hx hw => ?_, fun hown => ?_⟩
    · exact exec_codeRead_of_match hr hb hv hx (judgeCode_of_own ((hpiece v).trans hx) hw hc)
    · exact exec_codeRead_of_match hr hb hv hx (judgeCode_of_late ((hpiece (v + 1)).trans hx) hl.1 hl.2
        fun y hy => hown y ((hpiece v).symm.trans hy))
    · exact exec_codeRead_of_mismatch hr hb hv hx hw hc hlate
    · rw [exec_codeRead hb hv, judgeCode_of_no_fit (fun y hy h => hown y ((hpiece v).symm.trans hy) h.1)
        (fun y hy => hlate y ((hpiece (v + 1)).symm.trans hy)), if_neg, settle_of_roomy hstray]
      rw [waits_iff]
      exact fun ⟨y, hy, hw⟩ => hown y ((hpiece v).symm.trans hy) hw
    · have hu := (hpiece v).trans hx
      obtain ⟨hp, hf, hother, hroom⟩ := recordUnread_rules hu (.port .carrier)
      have haction : actionOf .carrierUnread (silent .carrier s) = actionOf .carrierUnread s := actionOf_congr (by simp) _
      rw [haction] at hp
      refine ⟨recordUnread (.port .carrier) v (silent .carrier s), ?_, hp, hf.trans ?_, fun q hq => ?_, by simp, by simp⟩
      · rw [exec_noRead hv, if_pos (waits_iff.mpr ⟨x, hu, hw⟩), settle_of_roomy (hroom 0 (hr.silent .carrier))]
      · exact fault_raise_pieceFault_silent _ _ _ _ _ _
      · exact (hother q hq).trans (by simp [entryAt])
    · rw [exec_noRead hv, if_neg, settle_of_roomy hstray]
      rw [waits_iff]
      exact fun ⟨y, hy, hw⟩ => hown y ((hpiece v).symm.trans hy) hw
  · obtain ⟨hleft, hunread, hread, hother⟩ := settleVerify_rules hv
    refine ⟨fun x hx => ?_, hunread, hread, hother, by simp, by simp⟩
    rw [hleft x hx, leaveReader_eq]

end Sys2Proof.Machine


/-! Encoder pulses: the block events a count issues, and what they leave of the count and of the track (R1 to R4, R9, R61,
R76). -/

namespace Sys2Proof.Machine

/-! ## Block events in a row -/

section
variable {s : State}

theorem dropped_runTasks (task : PulseTask → State → State) (tasks : List PulseTask) (h : s.link.dropped = []) :
    (runTasks task tasks s).link.dropped = [] := by
  induction tasks generalizing s with
  | nil => exact h
  | cons t tasks ih => exact ih (settle_dropped _)

theorem settle_runTasks (task : PulseTask → State → State) (tasks : List PulseTask) (h : s.link.dropped = []) :
    settle (runTasks task tasks s) = runTasks task tasks s := settle_of_none (dropped_runTasks task tasks h)

theorem isBoundaryOrder_schedule (order : List PulseTask) : IsBoundaryOrder (schedule order boundaryTasks) :=
  schedule_perm order _ (by decide)

theorem nodup_dueTasks (s : State) : (dueTasks s).Nodup := by
  unfold dueTasks
  split <;> decide

theorem dropped_issueBoundary (n : Nat) (order : List PulseTask) (s : State) :
    (issueBoundary n order s).link.dropped = [] := dropped_runTasks _ _ (settle_dropped _)

/-! ## What the window leaves of the count -/

/-- Two registers with the same count. -/
structure SameCount (r x : Registration) : Prop where
  remainder : x.remainder = r.remainder
  phase : x.phase = r.phase
  index : x.pocketIndex = r.pocketIndex
  issued : x.issuedTo = r.issuedTo

theorem sameCount_of_eq {r x : Registration} (h : x = r) : SameCount r x := h ▸ ⟨rfl, rfl, rfl, rfl⟩

theorem SameCount.trans {r x y : Registration} (h : SameCount r x) (h' : SameCount x y) : SameCount r y :=
  ⟨h'.remainder.trans h.remainder, h'.phase.trans h.phase, h'.index.trans h.index, h'.issued.trans h.issued⟩

theorem reg_loseRegistration (s : State) : (loseRegistration s).reg =
    { s.reg with state := .lost, faultWindow := none, goodMarks := 0, chainClearPending := true } := by
  simp [loseRegistration]

theorem badEvent_of_clear (h : s.reg.faultWindow = none) : badEvent s =
    (raise (homeFault .homeFault s) s).setReg { s.reg with faultWindow := some 0 } := by
  simp only [badEvent, h]
  congr 1
  simp

theorem badEvent_of_running {n : Nat} (h : s.reg.faultWindow = some n) :
    badEvent s = loseRegistration (raise (homeFault .homeFault s) s) := by
  simp only [badEvent, h]

theorem sameCount_badEvent (s : State) : SameCount s.reg (badEvent s).reg := by
  cases h : s.reg.faultWindow with
  | none => rw [badEvent_of_clear h]; exact ⟨rfl, rfl, rfl, rfl⟩
  | some n =>
    rw [badEvent_of_running h, reg_loseRegistration]
    have hr : (raise (homeFault .homeFault s) s).reg = s.reg := by simp
    rw [hr]
    exact ⟨rfl, rfl, rfl, rfl⟩

theorem sameCount_ageFaultWindow (s : State) : SameCount s.reg (ageFaultWindow s).reg := by
  unfold ageFaultWindow
  split
  · exact ⟨rfl, rfl, rfl, rfl⟩
  · exact ⟨rfl, rfl, rfl, rfl⟩

/-- The state with the mark window closed. -/
def windowShut (s : State) : State := s.setReg { s.reg with window := { s.reg.window with isOpen := false } }

theorem closeWindow_of_idle (h : s.reg.state = .unregistered ∨ s.reg.state = .lost) : closeWindow s = windowShut s := by
  rcases h with h | h <;> simp only [closeWindow, windowShut, State.setReg_reg, h]

theorem closeWindow_of_seeking (h : s.reg.state = .seeking) :
    closeWindow s = if s.reg.window.markSeen then windowShut s else setGoodMarks 0 (windowShut s) := by
  simp only [closeWindow, windowShut, State.setReg_reg, h]

theorem closeWindow_of_registered (h : s.reg.state = .registered) :
    closeWindow s = ageFaultWindow (if s.reg.window.markSeen then windowShut s else badEvent (windowShut s)) := by
  simp only [closeWindow, windowShut, State.setReg_reg, h]

theorem sameCount_closeWindow (s : State) : SameCount s.reg (closeWindow s).reg := by
  cases h : s.reg.state with
  | unregistered => rw [closeWindow_of_idle (.inl h)]; exact ⟨rfl, rfl, rfl, rfl⟩
  | lost => rw [closeWindow_of_idle (.inr h)]; exact ⟨rfl, rfl, rfl, rfl⟩
  | seeking =>
    rw [closeWindow_of_seeking h]
    split
    · exact ⟨rfl, rfl, rfl, rfl⟩
    · exact ⟨rfl, rfl, rfl, rfl⟩
  | registered =>
    rw [closeWindow_of_registered h]
    refine SameCount.trans (x := (windowShut s).reg) ⟨rfl, rfl, rfl, rfl⟩ (SameCount.trans ?_ (sameCount_ageFaultWindow _))
    split
    · exact sameCount_of_eq rfl
    · exact sameCount_badEvent _

theorem sameCount_windowPhase (s : State) : SameCount s.reg (windowPhase s).reg := by
  unfold windowPhase
  split
  · split
    · exact sameCount_closeWindow s
    · exact sameCount_of_eq rfl
  · split
    · exact ⟨rfl, rfl, rfl, rfl⟩
    · exact sameCount_of_eq rfl

theorem sameCount_phaseTask (t : PulseTask) (s : State) : SameCount s.reg (phaseTask t s).reg := by
  cases t with
  | window => exact sameCount_windowPhase s
  | station i => exact sameCount_of_eq (by simp [phaseTask])
  | carrier =>
    refine sameCount_of_eq ?_
    dsimp only [phaseTask]
    split_ifs <;> simp
  | disposition =>
    refine sameCount_of_eq ?_
    dsimp only [phaseTask]
    split_ifs <;> simp
  | entry => exact sameCount_of_eq rfl

theorem sameCount_phaseTasks (tasks : List PulseTask) (s : State) :
    SameCount s.reg (runTasks phaseTask tasks s).reg := by
  induction tasks generalizing s with
  | nil => exact sameCount_of_eq rfl
  | cons t tasks ih =>
    refine (sameCount_phaseTask t s).trans (SameCount.trans (sameCount_of_eq ?_) (ih (settle (phaseTask t s))))
    simp

theorem windowBoundary_reg (s : State) : ∃ w, (windowBoundary s).reg = { s.reg with window := w } := by
  unfold windowBoundary
  split
  · exact ⟨_, rfl⟩
  · exact ⟨s.reg.window, rfl⟩

/-! ## The length of the track -/

/-- The track has so many positions. -/
def HasLength (n : Nat) (s : State) : Prop := s.track.length = n

theorem hasLength_storeFree (n : Nat) : StoreFree (HasLength n) where
  pins h _ := h
  pending h _ := h
  calls h _ := h
  free h _ := h
  link h _ _ := h
  claim h _ := h
  gate h _ _ _ := h
  latch h := h
  unlatch h := h
  fault h _ _ := h
  stations h _ := h
  lines h _ _ := h
  verify h _ _ := h
  entry h _ _ := h
  reg h _ _ := h
  disp h _ _ := h
  track h _ hx := (length_of_map hx).trans h
  bundle h _ _ _ := h
  removeBundle h _ := h
  job h _ _ _ _ := h
  store h _ _ := h

theorem hasLength_carrierFree (n : Nat) : CarrierFree (HasLength n) where
  toQuiet := (hasLength_storeFree n).toQuiet
  carrier h _ _ := h
  orders h _ hx := (length_of_map hx).trans h
  anyLines h _ := h

theorem hasLength_trackFree (n : Nat) : TrackFree (HasLength n) where
  toQuiet := (hasLength_storeFree n).toQuiet
  loss h _ hx := hx.1.trans h

theorem hasLength_entryFree (n : Nat) : EntryFree (HasLength n) where
  toStoreFree := hasLength_storeFree n
  createBundle h _ _ _ := h
  putPiece h _ _ := List.length_set.trans h
  putEmpty h _ _ := List.length_set.trans h
  issue h hm hroom tag r := by
    refine (hasLength_storeFree n).post ((hasLength_carrierFree n).carrier h _ ⟨fun _ => ?_, .inr rfl⟩) _ _
    simpa using Nat.succ_le_of_lt hroom

theorem hasLength_loseRegistration {n : Nat} (h : HasLength n s) : HasLength n (loseRegistration s) :=
  loseRegistration_of (hasLength_storeFree n).toQuiet h
    (purgeTrack_of_free (hasLength_storeFree n) (hasLength_trackFree n)) (hasLength_carrierFree n).enterHold

theorem hasLength_badEvent {n : Nat} (h : HasLength n s) : HasLength n (badEvent s) := by
  have hr := (hasLength_storeFree n).raise h (homeFault .homeFault s)
  cases hw : s.reg.faultWindow with
  | none => rw [badEvent_of_clear hw]; exact hr
  | some k => rw [badEvent_of_running hw]; exact hasLength_loseRegistration hr

theorem hasLength_closeWindow {n : Nat} (h : HasLength n s) : HasLength n (closeWindow s) := by
  cases hs : s.reg.state with
  | unregistered => rw [closeWindow_of_idle (.inl hs)]; exact h
  | lost => rw [closeWindow_of_idle (.inr hs)]; exact h
  | seeking =>
    rw [closeWindow_of_seeking hs]
    split
    · exact h
    · exact h
  | registered =>
    rw [closeWindow_of_registered hs]
    refine (hasLength_storeFree n).ageFaultWindow ?_
    split
    · exact h
    · exact hasLength_badEvent (s := windowShut s) h

theorem hasLength_windowPhase {n : Nat} (h : HasLength n s) : HasLength n (windowPhase s) := by
  unfold windowPhase
  split
  · split
    · exact hasLength_closeWindow h
    · exact h
  · split
    · exact h
    · exact h

theorem hasLength_phaseTask {n : Nat} (h : HasLength n s) (t : PulseTask) : HasLength n (phaseTask t s) := by
  cases t with
  | window => exact hasLength_windowPhase h
  | station i => exact (hasLength_storeFree n).stationPhase h i
  | carrier =>
    dsimp only [phaseTask]
    split_ifs
    · exact (hasLength_carrierFree n).dumpPhase h
    · exact (hasLength_carrierFree n).applyPhase h
    · exact h
  | disposition =>
    dsimp only [phaseTask]
    split_ifs
    · exact (hasLength_storeFree n).gatePhase h
    · exact h
  | entry => exact h

theorem hasLength_phaseTasks {n : Nat} (tasks : List PulseTask) (h : HasLength n s) :
    HasLength n (runTasks phaseTask tasks s) := by
  induction tasks generalizing s with
  | nil => exact h
  | cons t tasks ih => exact ih ((hasLength_storeFree n).settle (hasLength_phaseTask h t))

theorem hasLength_boundaryTask {n : Nat} (h : HasLength n s) (t : PulseTask) : HasLength n (boundaryTask t s) := by
  cases t with
  | window => exact h
  | station i => exact h
  | carrier => exact (hasLength_carrierFree n).settleCarrier h
  | disposition =>
    exact dispositionBoundary_of (hasLength_storeFree n).work
      (fun h hd => takeArrival_of_free (hasLength_storeFree n) (hasLength_trackFree n) h hd) h
  | entry => exact (hasLength_entryFree n).entryEvent h

theorem hasLength_boundaryTasks {n : Nat} (tasks : List PulseTask) (h : HasLength n s) :
    HasLength n (runTasks boundaryTask tasks s) := by
  induction tasks generalizing s with
  | nil => exact h
  | cons t tasks ih => exact ih ((hasLength_storeFree n).settle (hasLength_boundaryTask h t))

theorem hasLength_issueBoundary (i : Nat) (order : List PulseTask) (h : 0 < s.track.length) :
    HasLength s.track.length (issueBoundary i order s) := by
  have hq := (hasLength_storeFree s.track.length).toQuiet
  refine hasLength_boundaryTasks _ (hq.settle (hq.settleVerify ?_))
  simp only [HasLength, advanceTrack, State.setTrack_track, State.setReg_track, List.length_cons, List.length_dropLast]
  omega

end

/-! ## What a boundary leaves of the track -/

section
variable {s : State}

theorem entryAt_entryEvent {q : Nat} (h : q ≠ 0) (s : State) : entryAt q (entryEvent s) = entryAt q s := by
  have hset (e : TrackEntry) (u : State) (hu : u.track = s.track) : entryAt q (setEntryAt 0 e u) = entryAt q s := by
    rw [entryAt, setEntryAt, State.setTrack_track, List.getElem?_set_ne (Ne.symm h), hu]
    rfl
  have hempty (pocket : Option Nat) (r : EntryResult) (b : Option Nat) (u : State) (hu : u.track = s.track) :
      entryAt q (leaveEmpty pocket r b u) = entryAt q s := hset _ u hu
  have henter (src : SourceList) (r : Record) (plan : List PlanPair) (bay : Option (Fin 16)) (u : State)
      (hu : u.track = s.track) : entryAt q (enterRecord src r plan bay u) = entryAt q s := by
    rw [entryAt, track_enterRecord, List.getElem?_set_ne (Ne.symm h), hu]
    rfl
  have hitems (src : SourceList) (r : Record) (u : State) (hu : u.track = s.track) :
      entryAt q (checkItems src r u) = entryAt q s := by
    unfold checkItems
    split
    · have htest : (testItems r (leaveEmpty (some u.reg.pocketIndex) .itemWait none u)).track =
          (leaveEmpty (some u.reg.pocketIndex) .itemWait none u).track := by simp
      rw [entryAt, htest]
      exact hempty _ _ _ u hu
    · unfold checkBay
      split
      · exact henter _ _ _ _ u hu
      · exact henter _ _ _ _ u hu
      · exact hempty _ _ _ u hu
  have hstarve : (testStarvation s).track = s.track := by simp
  unfold entryEvent
  split
  · exact hempty _ _ _ s rfl
  · split
    · exact hset _ s rfl
    · split
      · exact hempty _ _ _ s rfl
      · split
        · exact hempty _ _ _ s rfl
        · unfold chooseRecord
          dsimp only
          split
          · exact hempty _ _ _ _ hstarve
          · exact hempty _ _ _ _ hstarve
          · exact hitems _ _ _ hstarve

theorem entryAt_settleCarrier {q : Nat} (h : q ≠ (geometryItems s).applicator + 1) :
    entryAt q (settleCarrier s) = entryAt q s := by
  have hstarve : entryAt q (starvePiece ((geometryItems s).applicator + 1) s) = entryAt q s :=
    (entryAt_raiseMarking_other h _ _ _ _).trans (entryAt_updatePiece_other h _ s)
  have hgive (n : Nat) (o : Order) (u : State) :
      entryAt q (giveUpOrder ((geometryItems s).applicator + 1) n o u) = entryAt q u := by
    have htrack (v : State) (hv : v.track = (updatePiece ((geometryItems s).applicator + 1)
        (fun x => { x with carrier := none }) u).track) : entryAt q v = entryAt q u := by
      rw [entryAt, hv]
      exact entryAt_updatePiece_other h _ u
    unfold giveUpOrder
    dsimp only
    split
    · exact htrack _ (by simp)
    · exact htrack _ (by simp)
    all_goals exact htrack _ rfl
  unfold settleCarrier
  dsimp only
  split
  · rfl
  · next x _ =>
    have hu : entryAt q (if x.fate = .awaiting then starvePiece ((geometryItems s).applicator + 1) s else s) =
        entryAt q s := by
      split
      · exact hstarve
      · rfl
    split
    · exact hu
    · exact (hgive _ _ _).trans hu

theorem entryAt_dispositionBoundary {q : Nat} (h : q ≠ (geometryItems s).gate) :
    entryAt q (dispositionBoundary s) = entryAt q s := by
  have htrack : (clearGateDue (geometryItems s).gate (ageConfirms s)).track = s.track := by simp
  have hgate : (geometryItems (clearGateDue (geometryItems s).gate (ageConfirms s))).gate = (geometryItems s).gate := by
    simp [geometryItems]
  unfold dispositionBoundary
  generalize clearGateDue (geometryItems s).gate (ageConfirms s) = u at *
  unfold takeArrival
  dsimp only
  split
  · next x _ =>
    have hd (v : State) : entryAt q (decidePiece x v) = entryAt q v := by simp [entryAt]
    rw [hd, entryAt, setEntryAt, State.setTrack_track, hgate, List.getElem?_set_ne (Ne.symm h), htrack]
    rfl
  all_goals exact congrArg (fun t => t[q]?) htrack

/-- A position that no block of a boundary looks at. -/
structure Unseen (q : Nat) (s : State) : Prop where
  entry : q ≠ 0
  carrier : q ≠ (geometryItems s).applicator + 1
  gate : q ≠ (geometryItems s).gate
  verify : ∀ v, (geometryItems s).verify = some v → q ≠ v + 1 ∧ q ≠ v + 2

theorem Unseen.congr {q : Nat} {t : State} (ht : t.setup = s.setup) (h : Unseen q s) : Unseen q t := by
  have hg : geometryItems t = geometryItems s := by rw [geometryItems, ht]; rfl
  exact ⟨h.entry, hg ▸ h.carrier, hg ▸ h.gate, hg ▸ h.verify⟩

theorem entryAt_boundaryTask {q : Nat} (h : Unseen q s) (t : PulseTask) :
    entryAt q (boundaryTask t s) = entryAt q s := by
  cases t with
  | window => rfl
  | station i => rfl
  | carrier => exact entryAt_settleCarrier h.carrier
  | disposition => exact entryAt_dispositionBoundary h.gate
  | entry => exact entryAt_entryEvent h.entry s

theorem entryAt_settle (q : Nat) (s : State) : entryAt q (settle s) = entryAt q s := by simp [entryAt]

theorem entryAt_boundaryTasks {q : Nat} (tasks : List PulseTask) (h : Unseen q s) :
    entryAt q (runTasks boundaryTask tasks s) = entryAt q s := by
  induction tasks generalizing s with
  | nil => rfl
  | cons t tasks ih =>
    have hnext : Unseen q (settle (boundaryTask t s)) := h.congr (by simp)
    exact (ih hnext).trans ((entryAt_settle q _).trans (entryAt_boundaryTask h t))

theorem entryAt_settleVerify {q : Nat} (h : Unseen q s) : entryAt q (settleVerify s) = entryAt q s := by
  cases hv : (geometryItems s).verify with
  | none => rw [settleVerify_of_none hv]
  | some v =>
    obtain ⟨-, -, -, hother⟩ := settleVerify_rules hv
    obtain ⟨h1, h2⟩ := h.verify v hv
    exact hother q h1 h2

theorem entryAt_advanceTrack {q : Nat} (h : 0 < q) (hl : q < s.track.length) :
    entryAt q (advanceTrack s) = entryAt (q - 1) s := by
  obtain ⟨p, rfl⟩ := Nat.exists_eq_add_of_lt h
  simp only [entryAt, advanceTrack, State.setTrack_track, Nat.zero_add, List.getElem?_cons_succ, Nat.add_sub_cancel]
  rw [List.getElem?_dropLast, if_pos (by omega)]

/-- A boundary moves every entry it does not look at one position on (R76). -/
theorem entryAt_issueBoundary {q : Nat} (i : Nat) (order : List PulseTask) (h : Unseen q s) (hl : q < s.track.length) :
    entryAt q (issueBoundary i order s) = entryAt (q - 1) s := by
  let u := s.setReg { s.reg with phase := 0, issuedTo := 0, pocketIndex := i }
  have hmoved : Unseen q (advanceTrack u) := h.congr (by simp [u])
  have hadvance : Unseen q (advance u) := h.congr (by simp [u])
  calc entryAt q (issueBoundary i order s)
      = entryAt q (advance u) := entryAt_boundaryTasks _ hadvance
    _ = entryAt q (settleVerify (advanceTrack u)) := entryAt_settle q _
    _ = entryAt q (advanceTrack u) := entryAt_settleVerify hmoved
    _ = entryAt (q - 1) u := entryAt_advanceTrack (Nat.pos_of_ne_zero h.entry) hl
    _ = entryAt (q - 1) s := rfl

end

/-! ## The statements -/

section
variable {a b : BitVec 12} {order : List PulseTask} {g : Geometry} {s : State}

theorem exec_encoderPulse (a b : BitVec 12) (order : List PulseTask) (s : State) : exec (.encoderPulse a b order) s =
    .next (settle (takePulse order (s.setPins { detectA := a, detectB := b }))) := rfl

theorem exec_encoderPulse_of_phase (hr : s.link.dropped = []) (hg : s.setup.geometry = some g)
    (hd : g.divider ≤ s.reg.remainder + 1) (hp : s.reg.phase + 1 < g.pitch) :
    exec (.encoderPulse a b order) s = .next (runTasks phaseTask
      (schedule order (if s.reg.issuedTo < s.reg.phase + 1 then phaseTasks else [.window]))
      (releasePulses (s.reg.phase + 1) ((s.setPins { detectA := a, detectB := b }).setReg
        { s.reg with remainder := 0, phase := s.reg.phase + 1 }))) := by
  rw [exec_encoderPulse, takePulse_of_count (s := s.setPins { detectA := a, detectB := b }) order hg hd, takeCount]
  refine congrArg Host.Outcome.next ((congrArg settle (if_pos hp)).trans (settle_runTasks _ _ ?_))
  simpa using hr

theorem exec_encoderPulse_of_boundary (hg : s.setup.geometry = some g)
    (hd : g.divider ≤ s.reg.remainder + 1) (hp : g.pitch ≤ s.reg.phase + 1) :
    exec (.encoderPulse a b order) s = .next (issueBoundary ((s.reg.pocketIndex + 1) % g.chainLength) order
      (boundaryReached g (s.setPins { detectA := a, detectB := b }))) := by
  rw [exec_encoderPulse, takePulse_of_boundary (s := s.setPins { detectA := a, detectB := b }) order hg hd hp]
  exact congrArg Host.Outcome.next (settle_of_none (dropped_issueBoundary _ _ _))

theorem reg_boundaryReached (g : Geometry) (s : State) : ∃ w, (boundaryReached g s).reg = { s.reg with
    remainder := 0, phase := 0, pocketIndex := (s.reg.pocketIndex + 1) % g.chainLength, window := w } := by
  obtain ⟨w, hw⟩ := windowBoundary_reg (releasePulses g.pitch (s.setReg { s.reg with
    remainder := 0, phase := 0, pocketIndex := (s.reg.pocketIndex + 1) % g.chainLength }))
  exact ⟨w, hw.trans (by simp)⟩

theorem reg_issueBoundary (i : Nat) (order : List PulseTask) (s : State) :
    (issueBoundary i order s).reg = { s.reg with phase := 0, issuedTo := 0, pocketIndex := i } := by
  simp [issueBoundary]

end

/-- Settles O47: the count by its cases, and the track by the positions that the blocks of a boundary look at. -/
theorem encoderPulsesCountPhasesAndPockets : Obligations.EncoderPulsesCountPhasesAndPockets := by
  intro a b order g s hr
  have hpins : (s.setPins { detectA := a, detectB := b }).link.dropped = [] := hr
  refine ⟨fun hg => ?_, fun hg hd => ?_, fun hg hd hp => ?_, fun hg hd hp hl => ?_⟩
  · have htake : takePulse order (s.setPins { detectA := a, detectB := b }) = s.setPins { detectA := a, detectB := b } := by
      simp only [takePulse, State.setPins_setup, hg]
    rw [exec_encoderPulse, htake, settle_of_none hpins]
  · have htake : takePulse order (s.setPins { detectA := a, detectB := b }) =
        (s.setPins { detectA := a, detectB := b }).setReg { s.reg with remainder := s.reg.remainder + 1 } := by
      simp only [takePulse, State.setPins_setup, hg]
      exact if_pos hd
    rw [exec_encoderPulse, htake, settle_of_none (by exact hpins)]
  · refine ⟨_, exec_encoderPulse_of_phase hr hg hd hp, ?_⟩
    have hcount := sameCount_phaseTasks (schedule order (if s.reg.issuedTo < s.reg.phase + 1 then phaseTasks else [.window]))
      (releasePulses (s.reg.phase + 1) ((s.setPins { detectA := a, detectB := b }).setReg
        { s.reg with remainder := 0, phase := s.reg.phase + 1 }))
    refine ⟨hcount.remainder, hcount.phase, hcount.index, hcount.issued, hasLength_phaseTasks _ ?_, by simp⟩
    simp [HasLength]
  · obtain ⟨w, hw⟩ := reg_boundaryReached g (s.setPins { detectA := a, detectB := b })
    have htrack : (boundaryReached g (s.setPins { detectA := a, detectB := b })).track = s.track := by
      simp [boundaryReached]
    have hsetup : (boundaryReached g (s.setPins { detectA := a, detectB := b })).setup = s.setup := by
      simp [boundaryReached]
    have hgeo : geometryItems (boundaryReached g (s.setPins { detectA := a, detectB := b })) = g := by
      simp [geometryItems, hsetup, hg]
    refine ⟨_, exec_encoderPulse_of_boundary hg hd hp, ?_⟩
    generalize boundaryReached g (s.setPins { detectA := a, detectB := b }) = u at *
    rw [reg_issueBoundary, hw]
    refine ⟨rfl, rfl, rfl, rfl, rfl, ?_, by simp [hsetup], fun q h0 hq hgate happ hver => ?_⟩
    · have := hasLength_issueBoundary (s := u) ((s.reg.pocketIndex + 1) % g.chainLength) order (htrack ▸ hl)
      exact this.trans (congrArg List.length htrack)
    · rw [entryAt_issueBoundary _ _ ⟨h0.ne', hgeo ▸ happ, hgeo ▸ hgate, hgeo ▸ hver⟩ (htrack ▸ hq), entryAt, htrack]
      rfl

/-- Settles O48: the block events in the order the pulse gives them. -/
theorem countIssuesItsBlockEvents : Obligations.CountIssuesItsBlockEvents := by
  intro a b order g s hr hg hd
  refine ⟨fun hp => ⟨_, schedule_perm order _ ?_, exec_encoderPulse_of_phase hr hg hd hp⟩,
    fun hp => ⟨_, isBoundaryOrder_schedule order, (exec_encoderPulse_of_boundary hg hd hp).trans ?_⟩,
    fun i t => ⟨fun h => ?_, fun e h => ⟨fun hc => ?_, fun hc he => ?_, fun hc he => ?_⟩⟩,
    fun t => ⟨rfl, rfl, rfl, rfl, rfl, rfl⟩, fun n t => ⟨fun i => ?_, rfl, rfl, rfl⟩⟩
  · split <;> decide
  · obtain ⟨w, hw⟩ := reg_boundaryReached g (s.setPins { detectA := a, detectB := b })
    have hreg : (boundaryReached g (s.setPins { detectA := a, detectB := b })).setReg
          { (boundaryReached g (s.setPins { detectA := a, detectB := b })).reg with
            phase := 0, issuedTo := 0, pocketIndex := (s.reg.pocketIndex + 1) % g.chainLength } =
        (boundaryReached g (s.setPins { detectA := a, detectB := b })).setReg
          { (boundaryReached g (s.setPins { detectA := a, detectB := b })).reg with issuedTo := 0 } := by
      rw [hw]
      rfl
    rw [issueBoundary, hreg]
    rfl
  · simp only [phaseTask, stationPhase, h]
  · simp only [phaseTask, stationPhase, h, if_pos hc]
  · simp only [phaseTask, stationPhase, h, if_neg hc, if_pos he]
  · simp only [phaseTask, stationPhase, h, if_neg hc, if_neg he]
  · simp [releasePulses, getElem_mapVector, releaseAt]

end Sys2Proof.Machine


/-! The loss of registration and the mark window (R8, R10 to R15, R17). -/

namespace Sys2Proof.Machine

/-! ## The notices of the loss -/

section
variable {s t u : State}

theorem Grows.sendToLane (o : OffReason) (r : Record) (s : State) : Grows s (sendToLane o r s) := by
  unfold Machine.sendToLane
  split
  · exact .of_link rfl
  · exact .endLife _ _ r s

theorem Grows.sendToLanes (o : OffReason) (rs : List Record) (s : State) :
    Grows s (rs.foldl (fun s r => Machine.sendToLane o r s) s) := by
  induction rs generalizing s with
  | nil => exact .refl s
  | cons r rs ih => exact (Grows.sendToLane o r s).trans (ih _)

theorem link_broughtBack (rs : List Record) (s : State) : (broughtBack rs s).link = s.link := by
  have hfold (rs : List Record) : ∀ u : State, (rs.foldl (fun s r => returnToQueue r s) u).link = u.link := by
    induction rs with
    | nil => exact fun _ => rfl
    | cons r rs ih => exact fun u => ih _
  exact hfold rs _

theorem Grows.purgeTrack (s : State) : Grows s (purgeTrack s) := by
  have hplaced : Grows s (placePurged (pieces s).reverse (s.setTrack (s.track.map purgedEntry))) := by
    rw [placePurged_eq]
    exact (Grows.sendToLanes _ _ _).from_link (link_broughtBack _ _)
  unfold Machine.purgeTrack returnPurged
  dsimp only
  refine Grows.trans ?_ (Grows.completionCheck _)
  split
  · exact hplaced.trans ((released_drainBacklog _).grows.from_link rfl)
  · exact hplaced

theorem Grows.discardOrders (os : List Order) (s : State) : Grows s (discardOrders os s) := by
  induction os generalizing s with
  | nil => exact .refl s
  | cons o os ih =>
    refine Grows.trans ?_ (ih (discardOrder o.number s))
    rcases discardOrder_cases o.number s with ⟨hl, -⟩ | ⟨q, x, u, hx, hl, -, heq⟩
    · exact .of_link hl
    · have hr : Grows s (Machine.raise (pieceFault .carrierVoid .none q x u) u) := (Grows.raise _ u).from_link hl
      rw [heq, raiseOnPiece, raiseMarking_of_some hx]
      exact hr.to_link (by simp)

/-- No port but the carrier unit's loses a message at the entry into HOLD. -/
theorem prefix_enterHold (c : HoldCause) (s : State) {p : Port} (hp : p ≠ .carrier) :
    txQueue p s <+: txQueue p (enterHold c s) := by
  by_cases hm : s.carrier.mode = .run
  · rw [enterHold_of_run hm]
    have hheld : txQueue p (heldUp c s) = txQueue p (discardOrders s.carrier.queue (holding c s)) := by
      rw [heldUp, txQueue_dropCarrierWork, if_neg hp]
      rfl
    have hd : Grows s (discardOrders s.carrier.queue (holding c s)) := (Grows.discardOrders _ _).from_link rfl
    exact (hheld ▸ hd p).trans (((Grows.post _ _ _).trans (Grows.postState _ _)) p)
  · rw [enterHold_of_hold hm]

/-- On the carrier port what does not ask for carrier work stays, and so does the message at the head. -/
theorem carrier_enterHold (c : HoldCause) (s : State) : ∃ more,
    txQueue .carrier (enterHold c s) = txQueue .carrier s ∨
      ∃ q, txQueue .carrier s <+: q ∧ txQueue .carrier (enterHold c s) = keptWork q ++ more := by
  by_cases hm : s.carrier.mode = .run
  · have hd : Grows s (discardOrders s.carrier.queue (holding c s)) := (Grows.discardOrders _ _).from_link rfl
    have hheld : txQueue .carrier (heldUp c s) =
        keptWork (txQueue .carrier (discardOrders s.carrier.queue (holding c s))) := by
      rw [heldUp, txQueue_dropCarrierWork, if_pos rfl]
      rfl
    have hgrow : Grows (heldUp c s) (enterHold c s) := by
      rw [enterHold_of_run hm]
      exact (Grows.post _ _ _).trans (Grows.postState _ _)
    obtain ⟨more, hmore⟩ := hgrow.exists_append .carrier
    exact ⟨more, .inr ⟨_, hd .carrier, hmore.trans (by rw [hheld])⟩⟩
  · exact ⟨[], .inl (by rw [enterHold_of_hold hm])⟩

theorem keptWork_append_pair {f g : Frame} (hf : isCarrierWork f = false) (hg : isCarrierWork g = false)
    (q m : List Frame) : keptWork (q ++ f :: g :: m) = keptWork q ++ f :: g :: m.filter fun f => !isCarrierWork f := by
  cases q with
  | nil => simp [keptWork, hg]
  | cons a q => simp [keptWork, hf, hg]

theorem filter_sublist_keptWork (q : List Frame) : (q.filter fun f => !isCarrierWork f).Sublist (keptWork q) := by
  cases q with
  | nil => exact List.Sublist.refl _
  | cons a q =>
    rw [keptWork, List.filter_cons]
    split
    · exact List.Sublist.refl _
    · exact List.sublist_cons_self _ _

/-- The two notices of the loss stand in a row, behind what the queue held. -/
theorem lossTold_of_pair (hgrow : Grows s u)
    (hpair : ∀ p, (subscription p s).state = true → ∃ m, txQueue p t = txQueue p u ++
      stateFrame (.registration .lost) :: stateFrame (.chainClear true) :: m) : LossTold s (enterHold .lost t) := by
  intro p hp
  obtain ⟨m, hm⟩ := hpair p hp
  have hbefore : ((txQueue p s).filter fun f => !isCarrierWork f).Sublist (txQueue p u) :=
    List.filter_sublist.trans (hgrow p).sublist
  by_cases hc : p = .carrier
  · subst hc
    obtain ⟨more, hsame | ⟨q, ⟨n, hn⟩, hq⟩⟩ := carrier_enterHold .lost t
    · exact ⟨txQueue .carrier u, m, hsame.trans hm, hbefore, fun h => absurd rfl h⟩
    · have hkept : keptWork q = keptWork (txQueue .carrier u) ++ stateFrame (.registration .lost) ::
          stateFrame (.chainClear true) :: (m ++ n).filter fun f => !isCarrierWork f := by
        rw [← hn, hm, List.append_assoc]
        exact keptWork_append_pair (isCarrierWork_stateFrame _) (isCarrierWork_stateFrame _) _ _
      refine ⟨keptWork (txQueue .carrier u), ((m ++ n).filter fun f => !isCarrierWork f) ++ more, ?_, ?_,
        fun h => absurd rfl h⟩
      · rw [hq, hkept, List.append_assoc]
        rfl
      · exact ((hgrow .carrier).sublist.filter _).trans (filter_sublist_keptWork _)
  · obtain ⟨n, hn⟩ := prefix_enterHold .lost t hc
    refine ⟨txQueue p u, m ++ n, ?_, hbefore, fun _ => hgrow p⟩
    rw [← hn, hm, List.append_assoc]
    rfl

/-- The registration unit in LOST, its notices not yet queued (R14). -/
def lost (s : State) : State :=
  s.setReg { s.reg with state := .lost, faultWindow := none, goodMarks := 0, chainClearPending := true }

/-- The track purged behind the two notices of the loss (R14, R80). -/
def lossPurged (s : State) : State :=
  purgeTrack (postState (.chainClear true) (postState (.registration .lost) (lost s)))

theorem loseRegistration_eq (s : State) :
    loseRegistration s = enterHold .lost (raise (homeFault .registrationLost s) (lossPurged s)) := rfl

theorem lossTold_loseRegistration (hgrow : Grows s u) (hsub : u.fault.subs = s.fault.subs) (hr : Roomy 2 u) :
    LossTold s (loseRegistration u) := by
  rw [loseRegistration_eq]
  refine lossTold_of_pair hgrow fun p hp => ?_
  have hlost : Roomy 2 (lost u) := hr.of_link rfl
  have hfirst : Roomy 1 (postState (.registration .lost) (lost u)) := by
    rw [postState_of_roomy (n := 1) hlost]
    exact hlost.announced _
  have hsub0 : (subscription p (lost u)).state = true := by
    rw [← hp]
    simp [subscription, lost, hsub]
  have hsub1 : (subscription p (postState (.registration .lost) (lost u))).state = true := by
    rw [← hsub0]
    simp [subscription]
  have hqueue : txQueue p (postState (.chainClear true) (postState (.registration .lost) (lost u))) = txQueue p u ++
      [stateFrame (.registration .lost), stateFrame (.chainClear true)] := by
    rw [txQueue_postState hfirst, txQueue_postState (n := 1) hlost, if_pos hsub0, if_pos hsub1, List.append_assoc]
    rfl
  obtain ⟨m, hm⟩ := Grows.exists_append
    ((Grows.purgeTrack (postState (.chainClear true) (postState (.registration .lost) (lost u)))).trans
      (Grows.raise (homeFault .registrationLost u) _)) p
  refine ⟨m, hm.trans ?_⟩
  rw [hqueue, List.append_assoc]
  rfl

theorem stopLatch_loseRegistration (ha : actionOf .registrationLost s = .stop) :
    (loseRegistration s).fault.stopLatch = true := by
  rw [loseRegistration_eq]
  refine stopLatch_enterHold _ ?_
  have hact : actionOf .registrationLost (lossPurged s) = .stop :=
    (actionOf_congr (by simp [lossPurged, lost]) _).trans ha
  rw [latch_raise]
  exact Bool.or_eq_true_iff.mpr (.inr (decide_eq_true hact))

theorem mode_loseRegistration (s : State) : (loseRegistration s).carrier.mode ≠ .run := by
  rw [loseRegistration_eq]
  exact mode_enterHold _ _

/-- The bad mark or the bad close that loses registration, with its HOME_FAULT before it. -/
theorem badEvent_loses {n : Nat} (h : s.reg.faultWindow = some n) :
    pieces (badEvent s) = [] ∧ (badEvent s).carrier.mode ≠ .run ∧ (Roomy 4 s → LossTold s (badEvent s)) ∧
      (actionOf .registrationLost s = .stop → (badEvent s).fault.stopLatch = true) ∧
      (badEvent s).reg =
        { s.reg with state := .lost, faultWindow := none, goodMarks := 0, chainClearPending := true } := by
  rw [badEvent_of_running h]
  refine ⟨pieces_loseRegistration _, mode_loseRegistration _, fun hr => ?_, fun ha => ?_, ?_⟩
  · exact lossTold_loseRegistration (Grows.raise _ s) (subs_raise _ s) (Roomy.raise (n := 2) hr _)
  · exact stopLatch_loseRegistration ((actionOf_raise _ _ s).trans ha)
  · rw [reg_loseRegistration]
    simp

end

/-! ## The mark window -/

section
variable {s : State}

theorem windowPhase_of_shut (h : s.reg.window.isOpen = false) :
    windowPhase s = if windowStarts s then openWindow false s else s :=
  if_neg (by simp [h])

theorem windowPhase_of_open (h : s.reg.window.isOpen = true) : windowPhase s = if windowEnds s then closeWindow s else s :=
  if_pos h

theorem windowStarts_iff : windowStarts s = true ↔ s.reg.phase + (geometryItems s).tolerance = (geometryItems s).pitch ∧
    s.reg.pocketIndex + 1 = (geometryItems s).chainLength := by
  simp [windowStarts]

theorem windowEnds_iff : windowEnds s = true ↔ s.reg.phase = s.reg.window.tolerance + 1 ∧ s.reg.pocketIndex = 0 := by
  simp [windowEnds]

theorem ageFaultWindow_of_clear (h : s.reg.faultWindow = none) : ageFaultWindow s = s := by
  simp only [ageFaultWindow, h]

theorem ageFaultWindow_eq (s : State) : ageFaultWindow s = s.setReg { s.reg with
    faultWindow := s.reg.faultWindow.bind fun n => if n + 1 < 8 then some (n + 1) else none } := by
  cases h : s.reg.faultWindow with
  | none =>
    rw [ageFaultWindow_of_clear h]
    have hreg : s.reg = { s.reg with faultWindow := none } := by rw [← h]
    simp only [Option.bind_none, ← hreg]
    rfl
  | some n => simp only [ageFaultWindow, h, Option.bind_some]

end

/-- Settles O49: the window by its being open, the close by the registration state. -/
theorem markWindowOpensAndCloses : Obligations.MarkWindowOpensAndCloses := by
  intro s
  refine ⟨fun hshut => ⟨fun ht hi => ?_, fun h => ?_, fun ht hi => ?_, fun h => ?_⟩, fun hopen => ⟨?_, fun h => ?_⟩,
    fun hopen hends => ?_⟩
  · rw [windowPhase_of_shut hshut, if_pos (windowStarts_iff.mpr ⟨ht, hi⟩)]
    rfl
  · refine (windowPhase_of_shut hshut).trans (if_neg fun hs => ?_)
    obtain ⟨ht, hi⟩ := windowStarts_iff.mp hs
    exact h.elim (fun h => h ht) fun h => h hi
  · exact if_pos ⟨hshut, ht, hi⟩
  · exact if_neg fun ⟨_, ht, hi⟩ => h.elim (fun h => h ht) fun h => h hi
  · exact if_neg fun ⟨h, _⟩ => absurd (hopen.symm.trans h) (by decide)
  · exact (windowPhase_of_open hopen).trans (if_neg fun he => h (windowEnds_iff.mp he))
  · rw [windowPhase_of_open hopen, if_pos (windowEnds_iff.mpr hends)]
    refine ⟨fun h => closeWindow_of_idle h, fun h => ?_, fun h hseen => ?_, fun h hseen hclear => ?_,
      fun h hseen n hn => ?_⟩
    · rw [closeWindow_of_seeking h]
      split
      · rfl
      · rfl
    · rw [closeWindow_of_registered h, if_pos hseen, ageFaultWindow_eq]
      rfl
    · have hage : closeWindow s = ((raise (homeFault .homeFault (windowShut s)) (windowShut s)).setReg
          { (windowShut s).reg with faultWindow := some 1 }) := by
        rw [closeWindow_of_registered h, if_neg (by simp [hseen]), badEvent_of_clear (s := windowShut s) hclear]
        rfl
      have hfault : (raise (homeFault .homeFault s) (windowShut s)).fault = (raise (homeFault .homeFault s) s).fault :=
        fault_raise_congr (s := s) (t := windowShut s) rfl _
      rw [hage]
      exact ⟨rfl, hfault, by simp [windowShut], by simp [windowShut], by simp [windowShut]⟩
    · obtain ⟨hpieces, hmode, htold, hlatch, hreg⟩ := badEvent_loses (s := windowShut s) hn
      have hclose : closeWindow s = badEvent (windowShut s) := by
        rw [closeWindow_of_registered h, if_neg (by simp [hseen]), ageFaultWindow_of_clear]
        rw [hreg]
      rw [hclose]
      exact ⟨hreg, hpieces, hmode, fun hr => htold (hr.of_link rfl), hlatch⟩

end Sys2Proof.Machine


/-! Home marks: the alignment, and good and bad marks (R7, R9 to R12, R15, R17). -/

namespace Sys2Proof.Machine

/-! ## A notice to every subscriber -/

section
variable {s : State}

/-- A port with room takes the message at its tail, whatever becomes of the others. -/
theorem txQueue_postTo_of_mem {p : Port} {ps : List Port} (f : Frame) (hp : p ∈ ps) (hroom : txHasRoom p s = true) :
    ∃ more, txQueue p (postTo ps f s) = txQueue p s ++ f :: more := by
  induction ps generalizing s with
  | nil => cases hp
  | cons q ps ih =>
    by_cases hq : p = q
    · subst hq
      obtain ⟨more, hmore⟩ := (Grows.postTo ps f (post p f s)).exists_append p
      refine ⟨more, hmore.trans ?_⟩
      rw [txQueue_post_same hroom, List.append_assoc]
      rfl
    · have hsame : txQueue p (post q f s) = txQueue p s := txQueue_post_other f s hq
      have hroom' : txHasRoom p (post q f s) = true := by rwa [txHasRoom, hsame]
      obtain ⟨more, hmore⟩ := ih ((List.mem_cons.mp hp).resolve_left hq) hroom'
      exact ⟨more, hmore.trans (by rw [hsame])⟩

end

/-! ## The subscriptions at a boundary -/

section
variable {s : State}

theorem subs_settle (s : State) : (settle s).fault.subs = s.fault.subs :=
  settle_keeps_of (P := fun u => u.fault.subs = s.fault.subs) (fun f u h => (subs_raise f u).trans h) (fun _ _ h => h) rfl

theorem subs_settleVerify (s : State) : (settleVerify s).fault.subs = s.fault.subs := by
  cases hv : (geometryItems s).verify with
  | none => rw [settleVerify_of_none hv]
  | some v =>
    obtain ⟨-, hunread, hread, -⟩ := settleVerify_rules hv
    by_cases h : ∃ x, pieceAt (v + 2) s = some x ∧ x.verify = .unreadProvisional
    · obtain ⟨x, hx, hu⟩ := h
      rw [(hunread x hx hu).2, subs_raise]
    · rw [(hread fun x hx hu => h ⟨x, hx, hu⟩).2]

theorem subs_testStarvation (s : State) : (testStarvation s).fault.subs = s.fault.subs := by
  unfold testStarvation
  split
  · exact subs_raise _ _
  · rfl

theorem subs_testItems (r : Record) (s : State) : (testItems r s).fault.subs = s.fault.subs := by
  unfold testItems
  split
  · rfl
  · exact subs_raise _ _

theorem subs_entryEvent (s : State) : (entryEvent s).fault.subs = s.fault.subs := by
  unfold entryEvent
  split
  · rfl
  · split
    · rfl
    · split
      · rfl
      · split
        · rfl
        · unfold chooseRecord
          dsimp only
          split
          · exact subs_testStarvation s
          · exact subs_testStarvation s
          · refine Eq.trans ?_ (subs_testStarvation s)
            unfold checkItems checkBay
            split
            · exact subs_testItems _ _
            · split <;> simp

theorem subs_raiseMarking (m : Action → Piece → Piece) (k : FaultKind) (src : Source) (p : Nat) (s : State) :
    (raiseMarking m k src p s).fault.subs = s.fault.subs := by
  cases hx : pieceAt p s with
  | none => simp [raiseMarking, hx]
  | some x => rw [fault_raiseMarking hx, subs_raise]

theorem subs_settleCarrier (s : State) : (settleCarrier s).fault.subs = s.fault.subs := by
  unfold settleCarrier
  dsimp only
  split
  · rfl
  · next x _ =>
    have hs : (if x.fate = .awaiting then starvePiece ((geometryItems s).applicator + 1) s else s).fault.subs =
        s.fault.subs := by
      split
      · exact (subs_raiseMarking _ _ _ _ _).trans (by simp)
      · rfl
    split
    · exact hs
    · exact Eq.trans (by simp) hs

theorem subs_expireConfirm (c : Confirm) (s : State) : (expireConfirm c s).fault.subs = s.fault.subs := by
  rw [expireConfirm, (suspectReject_keeps_disp _ _).2.2.1, subs_raise]

theorem subs_dispositionBoundary (s : State) : (dispositionBoundary s).fault.subs = s.fault.subs := by
  have hage (cs : List Confirm) : ∀ u : State, (cs.foldl (fun s c => expireConfirm c s) u).fault.subs = u.fault.subs := by
    induction cs with
    | nil => exact fun _ => rfl
    | cons c cs ih => exact fun u => (ih _).trans (subs_expireConfirm c u)
  have hages : (ageConfirms s).fault.subs = s.fault.subs := hage _ _
  have hclear : (clearGateDue (geometryItems s).gate (ageConfirms s)).fault.subs = (ageConfirms s).fault.subs := by
    cases hd : (ageConfirms s).disp.gateDue with
    | none => simp [clearGateDue, hd]
    | some d =>
      rw [clearGateDue_of_some _ hd, (suspectReject_keeps_disp _ _).2.2.1]
      exact subs_raise _ ((ageConfirms s).setDisp { (ageConfirms s).disp with gateDue := none })
  rw [dispositionBoundary]
  exact Eq.trans (by simp) (hclear.trans hages)

theorem subs_boundaryTask (t : PulseTask) (s : State) : (boundaryTask t s).fault.subs = s.fault.subs := by
  cases t with
  | window => rfl
  | station i => rfl
  | carrier => exact subs_settleCarrier s
  | disposition => exact subs_dispositionBoundary s
  | entry => exact subs_entryEvent s

theorem subs_issueBoundary (i : Nat) (order : List PulseTask) (s : State) :
    (issueBoundary i order s).fault.subs = s.fault.subs := by
  have htasks (tasks : List PulseTask) : ∀ u : State, (runTasks boundaryTask tasks u).fault.subs = u.fault.subs := by
    induction tasks with
    | nil => exact fun _ => rfl
    | cons t tasks ih => exact fun u => (ih _).trans ((subs_settle _).trans (subs_boundaryTask t u))
  exact (htasks _ _).trans ((subs_settle _).trans (subs_settleVerify _))

end

/-! ## The alignment -/

section
variable {g : Geometry} {order : List PulseTask} {s : State}

/-- What an alignment takes before it releases the lines: a boundary where the count stands in the second half of its
pitch. -/
def markTaken (g : Geometry) (order : List PulseTask) (s : State) : State :=
  if g.pitch ≤ 2 * s.reg.phase then issueBoundary 0 order s else s

/-- A state with every line pulse released and the registration unit as given. -/
def alignedAs (r : Registration) (s : State) : State :=
  ((s.setLines .released).setCallOutstanding (Vector.replicate 12 false)).setReg r

/-- The registration unit after an alignment (R9). -/
def alignedReg (g : Geometry) (r : Registration) : Registration := { r with
  phase := 0, pocketIndex := 0, remainder := 0, goodMarks := 0,
  issuedTo := if g.pitch ≤ 2 * r.phase then 0 else max r.issuedTo r.phase,
  window := { isOpen := true, markSeen := true, tolerance := g.tolerance } }

theorem setup_markTaken (g : Geometry) (order : List PulseTask) (s : State) : (markTaken g order s).setup = s.setup := by
  unfold markTaken
  split
  · simp
  · rfl

theorem reg_markTaken (g : Geometry) (order : List PulseTask) (s : State) : (markTaken g order s).reg = { s.reg with
    phase := (markTaken g order s).reg.phase, issuedTo := (markTaken g order s).reg.issuedTo,
    pocketIndex := (markTaken g order s).reg.pocketIndex } := by
  unfold markTaken
  split
  · rw [reg_issueBoundary]
  · rfl

theorem subs_markTaken (g : Geometry) (order : List PulseTask) (s : State) :
    (markTaken g order s).fault.subs = s.fault.subs := by
  unfold markTaken
  split
  · exact subs_issueBoundary _ _ _
  · rfl

theorem align_eq (hg : s.setup.geometry = some g) : setGoodMarks 0 (align g order s) =
    alignedAs (alignedReg g s.reg) (markTaken g order s) := by
  have hgeo : (geometryItems (markTaken g order s)).tolerance = g.tolerance := by
    rw [geometryItems, setup_markTaken, hg]
    rfl
  have hreg := reg_markTaken g order s
  have halign : setGoodMarks 0 (align g order s) = alignedAs { (markTaken g order s).reg with
      phase := 0, issuedTo := phasesIssued g s.reg, pocketIndex := 0, remainder := 0, goodMarks := 0,
      window := { isOpen := true, markSeen := true, tolerance := (geometryItems (markTaken g order s)).tolerance } }
      (markTaken g order s) := rfl
  rw [halign, hgeo, hreg]
  rfl

theorem align_seeking_eq (hg : s.setup.geometry = some g) : beginSeeking g order s =
    postState (.registration .seeking)
      (alignedAs { alignedReg g s.reg with state := .seeking } (markTaken g order s)) := by
  have hbegin : beginSeeking g order s = postState (.registration .seeking) ((setGoodMarks 0 (align g order s)).setReg
      { (setGoodMarks 0 (align g order s)).reg with state := .seeking }) := rfl
  rw [hbegin, align_eq hg]
  rfl

/-- What a mark that aligns leaves at `t`. -/
structure MarkAligned (g : Geometry) (order : List PulseTask) (s t : State) : Prop where
  reg : t.reg = if s.reg.state = .seeking then alignedReg g s.reg else { alignedReg g s.reg with state := .seeking }
  lines : t.lines = .released
  calls : t.callOutstanding = Vector.replicate 12 false
  blocks : t.track = (markTaken g order s).track ∧ t.disp = (markTaken g order s).disp ∧
    t.entry = (markTaken g order s).entry ∧ t.store = (markTaken g order s).store ∧
    t.carrier = (markTaken g order s).carrier ∧ t.bundles = (markTaken g order s).bundles
  alone : 2 * s.reg.phase < g.pitch → t.fault = s.fault ∧ ∀ p, txQueue p t = txQueue p s ++
    if s.reg.state ≠ .seeking ∧ (subscription p s).state = true then [stateFrame (.registration .seeking)] else []
  told : ∀ p, s.reg.state ≠ .seeking → (subscription p s).state = true → txHasRoom p (markTaken g order s) = true →
    ∃ more, txQueue p t = txQueue p (markTaken g order s) ++ stateFrame (.registration .seeking) :: more

theorem settle_keeps_blocks (s : State) : (settle s).reg = s.reg ∧ (settle s).lines = s.lines ∧
    (settle s).callOutstanding = s.callOutstanding ∧ (settle s).track = s.track ∧ (settle s).disp = s.disp ∧
    (settle s).entry = s.entry ∧ (settle s).store = s.store ∧ (settle s).carrier = s.carrier ∧
    (settle s).bundles = s.bundles := by
  simp

theorem postState_keeps_blocks (c : StateChange) (s : State) : (postState c s).reg = s.reg ∧
    (postState c s).lines = s.lines ∧ (postState c s).callOutstanding = s.callOutstanding ∧
    (postState c s).track = s.track ∧ (postState c s).disp = s.disp ∧ (postState c s).entry = s.entry ∧
    (postState c s).store = s.store ∧ (postState c s).carrier = s.carrier ∧ (postState c s).bundles = s.bundles := by
  simp

theorem markTaken_of_early (order : List PulseTask) (h : 2 * s.reg.phase < g.pitch) : markTaken g order s = s :=
  if_neg (Nat.not_le.mpr h)

/-- A mark in SEEKING that aligns queues nothing. -/
theorem markAligned_of_seeking (hr : Roomy 2 s) (hs : s.reg.state = .seeking) :
    MarkAligned g order s (settle (alignedAs (alignedReg g s.reg) (markTaken g order s))) := by
  obtain ⟨hreg, hlines, hcalls, htrack, hdisp, hentry, hstore, hcarrier, hbundles⟩ :=
    settle_keeps_blocks (alignedAs (alignedReg g s.reg) (markTaken g order s))
  refine ⟨hreg.trans (if_pos hs).symm, hlines, hcalls, ⟨htrack, hdisp, hentry, hstore, hcarrier, hbundles⟩,
    fun h => ?_, fun p hn => absurd hs hn⟩
  have hroom : Roomy 2 (alignedAs (alignedReg g s.reg) s) := hr.of_link rfl
  rw [markTaken_of_early order h, settle_of_roomy hroom]
  refine ⟨rfl, fun p => ?_⟩
  rw [if_neg (fun hn => hn.1 hs), List.append_nil]
  rfl

/-- The first mark in UNREGISTERED or LOST aligns, and its notice is queued behind those of the boundary. -/
theorem markAligned_of_idle (hr : Roomy 2 s) (hs : s.reg.state ≠ .seeking) :
    MarkAligned g order s (settle (postState (.registration .seeking)
      (alignedAs { alignedReg g s.reg with state := .seeking } (markTaken g order s)))) := by
  obtain ⟨hreg, hlines, hcalls, htrack, hdisp, hentry, hstore, hcarrier, hbundles⟩ :=
    settle_keeps_blocks (postState (.registration .seeking)
      (alignedAs { alignedReg g s.reg with state := .seeking } (markTaken g order s)))
  obtain ⟨preg, plines, pcalls, ptrack, pdisp, pentry, pstore, pcarrier, pbundles⟩ :=
    postState_keeps_blocks (.registration .seeking)
      (alignedAs { alignedReg g s.reg with state := .seeking } (markTaken g order s))
  refine ⟨(hreg.trans preg).trans (if_neg hs).symm, hlines.trans plines, hcalls.trans pcalls, ⟨htrack.trans ptrack,
    hdisp.trans pdisp, hentry.trans pentry, hstore.trans pstore, hcarrier.trans pcarrier, hbundles.trans pbundles⟩,
    fun h => ?_, fun p _ hp hroom => ?_⟩
  · have hroom : Roomy 2 (alignedAs { alignedReg g s.reg with state := .seeking } s) := hr.of_link rfl
    have hpost := hroom.announced (n := 1) (.registration .seeking)
    rw [markTaken_of_early order h, postState_of_roomy (n := 1) hroom, settle_of_roomy hpost,
      ← postState_of_roomy (n := 1) hroom]
    refine ⟨by simp [alignedAs], fun p => (txQueue_postState (n := 1) hroom _ p).trans ?_⟩
    simp only [hs, ne_eq, not_false_eq_true, true_and]
    rfl
  · have hsub : (subscription p (alignedAs { alignedReg g s.reg with state := .seeking } (markTaken g order s))).state =
        true := by
      rw [← hp]
      exact congrArg (fun x => (portGet x p).state) (subs_markTaken g order s)
    obtain ⟨more, hmore⟩ := txQueue_postTo_of_mem (stateFrame (.registration .seeking)) (mem_stateSubscribers.mpr hsub)
      (s := alignedAs { alignedReg g s.reg with state := .seeking } (markTaken g order s)) hroom
    obtain ⟨rest, hrest⟩ := (Grows.settle (postState (.registration .seeking)
      (alignedAs { alignedReg g s.reg with state := .seeking } (markTaken g order s)))).exists_append p
    refine ⟨more ++ rest, hrest.trans ?_⟩
    rw [postState, hmore, List.append_assoc]
    rfl

theorem exec_homeMark (order : List PulseTask) (s : State) :
    exec (.homeMark order) s = .next (settle (takeMark order s)) := rfl

theorem markIsGood_iff : markIsGood s = true ↔ s.reg.window.isOpen = true ∧ s.reg.window.markSeen = false := by
  simp [markIsGood]

theorem not_markIsGood (h : s.reg.window.isOpen = false ∨ s.reg.window.markSeen = true) : ¬markIsGood s = true := by
  rw [markIsGood_iff]
  rintro ⟨ho, hm⟩
  rcases h with h | h
  · exact absurd (ho.symm.trans h) (by decide)
  · exact absurd (hm.symm.trans h) (by decide)

theorem takeMark_of_idle (hg : s.setup.geometry = some g) (h : s.reg.state = .unregistered ∨ s.reg.state = .lost) :
    takeMark order s = beginSeeking g order s := by
  rcases h with h | h <;> simp only [takeMark, hg, h]

theorem takeMark_of_seeking (hg : s.setup.geometry = some g) (h : s.reg.state = .seeking) :
    takeMark order s = if markIsGood s then goodMarkSeeking s else setGoodMarks 0 (align g order s) := by
  simp only [takeMark, hg, h]

theorem takeMark_of_registered (hg : s.setup.geometry = some g) (h : s.reg.state = .registered) :
    takeMark order s = if markIsGood s then seeMark s else badEvent s := by
  simp only [takeMark, hg, h]

theorem MarkAligned.to_blocks {t : State} (h : MarkAligned g order s t) (hp : 2 * s.reg.phase < g.pitch) :
    t.track = s.track ∧ t.disp = s.disp ∧ t.entry = s.entry ∧ t.store = s.store ∧ t.carrier = s.carrier ∧
      t.bundles = s.bundles ∧ t.fault = s.fault ∧ ∀ p, txQueue p t = txQueue p s ++
        if s.reg.state ≠ .seeking ∧ (subscription p s).state = true then [stateFrame (.registration .seeking)] else [] := by
  obtain ⟨htrack, hdisp, hentry, hstore, hcarrier, hbundles⟩ := h.blocks
  rw [markTaken_of_early order hp] at htrack hdisp hentry hstore hcarrier hbundles
  exact ⟨htrack, hdisp, hentry, hstore, hcarrier, hbundles, h.alone hp⟩

theorem MarkAligned.to_boundary {t : State} (h : MarkAligned g order s t) (hp : g.pitch ≤ 2 * s.reg.phase) :
    ∃ tasks, IsBoundaryOrder tasks ∧ ∃ u, u = boundaryEvents tasks (settle (settleVerify ((s.setReg { s.reg with
        phase := 0, issuedTo := 0, pocketIndex := 0 }).setTrack (.empty none 0 :: s.track.dropLast)))) ∧
      t.track = u.track ∧ t.disp = u.disp ∧ t.entry = u.entry ∧ t.store = u.store ∧ t.carrier = u.carrier ∧
        t.bundles = u.bundles ∧
        ∀ p, s.reg.state ≠ .seeking → (subscription p s).state = true → txHasRoom p u = true →
          ∃ more, txQueue p t = txQueue p u ++ stateFrame (.registration .seeking) :: more := by
  obtain ⟨htrack, hdisp, hentry, hstore, hcarrier, hbundles⟩ := h.blocks
  refine ⟨_, isBoundaryOrder_schedule order, markTaken g order s, if_pos hp, htrack, hdisp, hentry, hstore, hcarrier,
    hbundles, h.told⟩

end

/-- Settles O50: the mark by the registration state and by its being good, an alignment by what it takes before the lines
are released. -/
theorem homeMarksAlignAndConfirmTheCount : Obligations.HomeMarksAlignAndConfirmTheCount := by
  intro order g s hr aligned aligns
  have haligns {t : State} (ht : exec (.homeMark order) s = .next t) (h : MarkAligned g order s t) : aligns := by
    refine ⟨t, ht, h.reg, h.lines, h.calls, h.to_blocks, fun hp => ?_⟩
    obtain ⟨tasks, horder, u, rfl, hu⟩ := h.to_boundary hp
    exact ⟨tasks, horder, hu⟩
  refine ⟨fun hg => ?_, fun hg => ⟨fun hs => ?_, fun hs hbad => ?_, fun hs hopen hseen => ⟨fun hn => ?_, fun hn => ?_⟩,
    fun hs hopen hseen => ?_⟩⟩
  · have htake : takeMark order s = s := by simp only [takeMark, hg]
    rw [exec_homeMark, htake, settle_of_roomy hr]
  · have hne : s.reg.state ≠ .seeking := by rcases hs with h | h <;> simp [h]
    refine haligns (exec_homeMark order s) ?_
    rw [takeMark_of_idle hg hs, align_seeking_eq hg]
    exact markAligned_of_idle hr hne
  · refine haligns (exec_homeMark order s) ?_
    rw [takeMark_of_seeking hg hs, if_neg (not_markIsGood hbad), align_eq hg]
    exact markAligned_of_seeking hr hs
  · have htake : takeMark order s = setGoodMarks (s.reg.goodMarks + 1) (seeMark s) := by
      rw [takeMark_of_seeking hg hs, if_pos (markIsGood_iff.mpr ⟨hopen, hseen⟩), goodMarkSeeking]
      exact if_pos hn
    have hroom : Roomy 2 (setGoodMarks (s.reg.goodMarks + 1) (seeMark s)) := hr.of_link rfl
    rw [exec_homeMark, htake, settle_of_roomy hroom]
    rfl
  · have htake : takeMark order s = postState (.registration .registered) ((seeMark s).setReg
        { (seeMark s).reg with state := .registered, goodMarks := 0, faultWindow := none }) := by
      rw [takeMark_of_seeking hg hs, if_pos (markIsGood_iff.mpr ⟨hopen, hseen⟩), goodMarkSeeking]
      exact if_neg (Nat.not_lt.mpr hn)
    have hroom : Roomy 2 ((seeMark s).setReg
        { (seeMark s).reg with state := .registered, goodMarks := 0, faultWindow := none }) := hr.of_link rfl
    have hpost := hroom.announced (n := 1) (.registration .registered)
    rw [exec_homeMark, htake, postState_of_roomy (n := 1) hroom, settle_of_roomy hpost]
    rfl
  · have htake : takeMark order s = seeMark s := by
      rw [takeMark_of_registered hg hs, if_pos (markIsGood_iff.mpr ⟨hopen, hseen⟩)]
    have hroom : Roomy 2 (seeMark s) := hr.of_link rfl
    rw [exec_homeMark, htake, settle_of_roomy hroom]
    rfl

end Sys2Proof.Machine


/-! The purge of the track at the loss of registration, and the bad mark that loses it (R12 to R14, R58, R80). -/

namespace Sys2Proof.Machine

/-! ## The places of the records -/

section
variable {s : State}

theorem find_insertPlace_other {k j : Nat} (h : k ≠ j) (p : Place) (m : List (Nat × Place)) :
    (insertPlace j p m).find? (fun e => e.1 == k) = m.find? fun e => e.1 == k := by
  have hj : (j == k) = false := beq_false_of_ne (Ne.symm h)
  induction m with
  | nil => simp [insertPlace, hj]
  | cons e rest ih =>
    unfold insertPlace
    split
    · simp [List.find?_cons, hj]
    · split
      · next he => simp [hj, ← he]
      · simp only [List.find?_cons, ih]

theorem placeOf_endLife_other {k : Nat} {r : Record} (h : k ≠ r.key) (e : RecordEnd) (s : State) :
    placeOf k (endLife .track e r s) = placeOf k s := by
  have hk (a : Nat × Place) : decide (decide (a.1 ≠ r.key) = true ∧ (a.1 == k) = true) = (a.1 == k) := by
    by_cases ha : a.1 = k
    · simp [ha, h]
    · simp [ha]
  rw [placeOf, (checked_endLife .track e r s).map, store_recordOut]
  simp only [leaveList, List.find?_filter, hk]
  rfl

theorem jobState_endLife_track {e : RecordEnd} {r : Record} (h : s.store.lane ≠ []) :
    (endLife .track e r s).store.jobState = s.store.jobState := by
  have hstore := store_recordOut .track e r s
  rcases (checked_endLife .track e r s).job with ⟨hj, -⟩ | ⟨-, -, -, hheld⟩
  · rw [hj, hstore]
    rfl
  · obtain ⟨-, hl, -⟩ := (heldRecords_eq_nil_iff _).mp hheld
    rw [hstore] at hl
    exact absurd hl h

theorem backlog_endLife_track (e : RecordEnd) (r : Record) (s : State) :
    (endLife .track e r s).store.backlog = s.store.backlog := by
  rw [(checked_endLife .track e r s).backlog, store_recordOut]
  rfl

/-- What sending records to the lane, oldest first, does of the store (R52, R58). -/
structure SentToLane (rs : List Record) (s t : State) : Prop where
  lane : t.store.lane = s.store.lane ++ rs.take (16 - s.store.lane.length)
  backlog : t.store.backlog = s.store.backlog
  job : t.store.jobState = s.store.jobState
  others : ∀ k, k ∉ rs.map Record.key → placeOf k t = placeOf k s
  taken : (rs.map Record.key).Nodup → ∀ r ∈ rs.take (16 - s.store.lane.length), placeOf r.key t = some .lane
  turned : (rs.map Record.key).Nodup → ∀ r ∈ rs.drop (16 - s.store.lane.length), placeOf r.key t = none

theorem placeOf_placeInLane (r : Record) (s : State) : placeOf r.key (placeInLane r s) = some .lane := by
  have h : placeOf r.key (placeInLane r s) =
      ((insertPlace r.key .lane s.store.map).find? fun e => e.1 == r.key).map Prod.snd := rfl
  rw [h, placeOf_insertPlace]
  rfl

theorem placeOf_placeInLane_other {k : Nat} {r : Record} (h : k ≠ r.key) (s : State) :
    placeOf k (placeInLane r s) = placeOf k s :=
  congrArg (Option.map Prod.snd) (find_insertPlace_other h .lane s.store.map)

theorem sentToLane_sendToLanes (o : OffReason) (rs : List Record) (s : State) :
    SentToLane rs s (rs.foldl (fun s r => sendToLane o r s) s) := by
  induction rs generalizing s with
  | nil => exact ⟨by simp, rfl, rfl, fun _ _ => rfl, fun _ r hr => by simp at hr, fun _ r hr => by simp at hr⟩
  | cons r rs ih =>
    have hnext := ih (sendToLane o r s)
    rw [List.foldl_cons]
    generalize rs.foldl (fun s r => sendToLane o r s) (sendToLane o r s) = t at hnext
    obtain ⟨hlane, hbacklog, hjob, hothers, htaken, hturned⟩ := hnext
    have hhead (hn : ((r :: rs).map Record.key).Nodup) : placeOf r.key t = placeOf r.key (sendToLane o r s) :=
      hothers _ (List.nodup_cons.mp hn).1
    by_cases hroom : s.store.lane.length < 16
    · rw [sendToLane_of_room o r hroom] at *
      have hl : (placeInLane r s).store.lane = s.store.lane ++ [r] := rfl
      obtain ⟨n, hn⟩ : ∃ n, 16 - s.store.lane.length = n + 1 := ⟨15 - s.store.lane.length, by omega⟩
      have hlen : 16 - (s.store.lane ++ [r]).length = n := by
        rw [List.length_append, List.length_singleton]
        omega
      rw [hl, hlen] at hlane htaken hturned
      refine ⟨?_, hbacklog, hjob, fun k hk => ?_, fun hd x hx => ?_, fun hd x hx => ?_⟩
      · rw [hlane, hn, List.take_succ_cons, List.append_assoc]
        rfl
      · obtain ⟨hkr, hkrs⟩ : k ≠ r.key ∧ k ∉ rs.map Record.key := by simpa using hk
        exact (hothers k hkrs).trans (placeOf_placeInLane_other hkr s)
      · rw [hn, List.take_succ_cons] at hx
        rcases List.mem_cons.mp hx with rfl | hx
        · exact (hhead hd).trans (placeOf_placeInLane x s)
        · exact htaken (List.nodup_cons.mp hd).2 x hx
      · rw [hn, List.drop_succ_cons] at hx
        exact hturned (List.nodup_cons.mp hd).2 x hx
    · rw [sendToLane_of_full o r (Nat.not_lt.mp hroom)] at *
      have hzero : 16 - s.store.lane.length = 0 := by omega
      have hne : s.store.lane ≠ [] := fun h => by simp [h] at hroom
      rw [lane_endLife_track, hzero] at hlane htaken hturned
      refine ⟨hlane.trans (by simp [hzero]), hbacklog.trans (backlog_endLife_track _ r s),
        hjob.trans (jobState_endLife_track hne), fun k hk => ?_, fun _ x hx => by simp [hzero] at hx, fun hd x hx => ?_⟩
      · obtain ⟨hkr, hkrs⟩ : k ≠ r.key ∧ k ∉ rs.map Record.key := by simpa using hk
        exact (hothers k hkrs).trans (placeOf_endLife_other hkr _ s)
      · rw [hzero, List.drop_zero] at hx
        rcases List.mem_cons.mp hx with rfl | hx
        · exact (hhead hd).trans (placeOf_endLife .track _ x s)
        · exact hturned (List.nodup_cons.mp hd).2 x hx

theorem find_insertPlaces (rs : List Record) (k : Nat) (m : List (Nat × Place)) :
    (rs.foldl (fun m r => insertPlace r.key .queue m) m).find? (fun e => e.1 == k) =
      if k ∈ rs.map Record.key then some (k, .queue) else m.find? fun e => e.1 == k := by
  induction rs generalizing m with
  | nil => simp
  | cons r rs ih =>
    rw [List.foldl_cons, ih, List.map_cons]
    by_cases hk : k ∈ rs.map Record.key
    · rw [if_pos hk, if_pos (List.mem_cons_of_mem _ hk)]
    · rw [if_neg hk]
      by_cases hr : k = r.key
      · rw [hr, placeOf_insertPlace, if_pos List.mem_cons_self]
      · rw [find_insertPlace_other hr, if_neg fun hm => (List.mem_cons.mp hm).elim hr hk]

theorem placeOf_broughtBack {rs : List Record} {r : Record} (h : r ∈ rs) (s : State) :
    placeOf r.key (broughtBack rs s) = some .queue := by
  rw [placeOf, store_broughtBack]
  simp only [find_insertPlaces, if_pos (List.mem_map_of_mem (f := Record.key) h)]
  rfl

/-! ## The counts of the bundles -/

/-- A bundle's counts with records gone from the track, some of them into the lane (R138). -/
def purgedCounts (back lanes : List Record) (b : Bundle) : Bundle := { b with
  inFlight := b.inFlight - (back.countP (fun r => r.bundle == b.number) + lanes.countP fun r => r.bundle == b.number)
  inLane := b.inLane + lanes.countP fun r => r.bundle == b.number }

theorem bundles_returnToQueues (rs : List Record) (s : State) : (rs.foldl (fun s r => returnToQueue r s) s).bundles =
    { s.bundles with table := s.bundles.table.map (purgedCounts rs []) } := by
  induction rs generalizing s with
  | nil =>
    have hid : purgedCounts [] [] = id := by funext b; simp [purgedCounts]
    simp [hid]
  | cons r rs ih =>
    have hstep : (returnToQueue r s).bundles = { s.bundles with
        table := s.bundles.table.map fun b => if b.number = r.bundle then leavePlace .track b else b } := rfl
    have hcounts (b : Bundle) : purgedCounts rs [] (if b.number = r.bundle then leavePlace Place.track b else b) =
        purgedCounts (r :: rs) [] b := by
      by_cases hb : b.number = r.bundle
      · have hr : (r.bundle == b.number) = true := by simp [hb]
        rw [if_pos hb]
        simp only [purgedCounts, leavePlace, List.countP_cons, hr, List.countP_nil, if_true, Bundle.mk.injEq, true_and, and_true]
        omega
      · have hr : (r.bundle == b.number) = false := beq_false_of_ne (Ne.symm hb)
        rw [if_neg hb]
        simp [purgedCounts, hr]
    rw [List.foldl_cons, ih, hstep]
    simp only [List.map_map, Function.comp_def, hcounts]

theorem bundles_sendToLanes {rs : List Record} {s : State} (o : OffReason) (h : s.store.lane.length + rs.length ≤ 16) :
    (rs.foldl (fun s r => sendToLane o r s) s).bundles =
      { s.bundles with table := s.bundles.table.map (purgedCounts [] rs) } ∧
    (rs.foldl (fun s r => sendToLane o r s) s).store.textUsed = s.store.textUsed := by
  induction rs generalizing s with
  | nil =>
    have hid : purgedCounts [] [] = id := by funext b; simp [purgedCounts]
    simp [hid]
  | cons r rs ih =>
    rw [List.length_cons] at h
    have hstep : (placeInLane r s).bundles = { s.bundles with table := s.bundles.table.map fun b =>
        if b.number = r.bundle then { b with inFlight := b.inFlight - 1, inLane := b.inLane + 1 } else b } := rfl
    have hcounts (b : Bundle) : purgedCounts [] rs (if b.number = r.bundle then
        { b with inFlight := b.inFlight - 1, inLane := b.inLane + 1 } else b) = purgedCounts [] (r :: rs) b := by
      by_cases hb : b.number = r.bundle
      · have hr : (r.bundle == b.number) = true := by simp [hb]
        rw [if_pos hb]
        simp only [purgedCounts, List.countP_cons, hr, List.countP_nil, if_true, Bundle.mk.injEq, true_and, and_true]
        omega
      · have hr : (r.bundle == b.number) = false := beq_false_of_ne (Ne.symm hb)
        rw [if_neg hb]
        simp [purgedCounts, hr]
    have hlane : (placeInLane r s).store.lane.length = s.store.lane.length + 1 := by simp [placeInLane, setPlace]
    rw [List.foldl_cons, sendToLane_of_room o r (by omega)]
    obtain ⟨hbundles, htext⟩ := ih (s := placeInLane r s) (by omega)
    refine ⟨?_, htext⟩
    rw [hbundles, hstep]
    simp only [List.map_map, Function.comp_def, hcounts]

end

/-! ## The purge -/

section
variable {s : State}

/-- The first-attempt records in the track, oldest first. -/
def firstsOf (s : State) : List Record := ((pieces s).reverse.filter fun x => x.source == .queue).map Piece.record

/-- The remakes in the track, oldest first. -/
def remakesOf (s : State) : List Record := ((pieces s).reverse.filter fun x => x.source == .lane).map Piece.record

/-- The track purged, its records placed by the list each came from (R58, R80). -/
def purgePlaced (s : State) : State :=
  (remakesOf s).foldl (fun s r => sendToLane .purge r s)
    (broughtBack (firstsOf s) (s.setTrack (s.track.map purgedEntry)))

theorem purgeTrack_eq (s : State) : purgeTrack s = completionCheck
    (if (purgePlaced s).store.jobState = .aborting then drainBacklog
      (enterBacklog .aborted (placedRecords (pieces s).reverse (purgePlaced s)) (purgePlaced s)) else purgePlaced s) := rfl

theorem sentToLane_purgePlaced (s : State) : SentToLane (remakesOf s)
    (broughtBack (firstsOf s) (s.setTrack (s.track.map purgedEntry))) (purgePlaced s) := sentToLane_sendToLanes _ _ _

theorem store_purgePlaced (s : State) : (purgePlaced s).store.queue = firstsOf s ++ s.store.queue ∧
    (purgePlaced s).store.lane = s.store.lane ++ (remakesOf s).take (16 - s.store.lane.length) ∧
    (purgePlaced s).store.backlog = s.store.backlog ∧ (purgePlaced s).store.jobState = s.store.jobState := by
  have hsent := sentToLane_purgePlaced s
  have hback := store_broughtBack (firstsOf s) (s.setTrack (s.track.map purgedEntry))
  refine ⟨?_, ?_, hsent.backlog.trans ?_, hsent.job.trans ?_⟩
  · rw [purgePlaced, queue_sendToLanes, hback]
    rfl
  · rw [hsent.lane, hback]
    rfl
  · rw [hback]
    rfl
  · rw [hback]
    rfl

theorem perm_trackRecords (s : State) : (trackRecords s).Perm (remakesOf s ++ firstsOf s) := perm_sources _

/-- The keys of the records in the track, apart by the list each came from, and from the keys of those that wait. -/
theorem nodup_sources (h : KeysDistinct s) : ((remakesOf s ++ firstsOf s).map Record.key).Nodup ∧
    ∀ r ∈ s.store.queue, ∀ x ∈ trackRecords s, r.key ≠ x.key := by
  rw [KeysDistinct, heldRecords, List.map_append, List.nodup_append, List.map_append] at h
  obtain ⟨-, htrack, hapart⟩ := h
  refine ⟨((perm_trackRecords s).map Record.key).nodup_iff.mp htrack, fun r hr x hx => ?_⟩
  exact hapart _ (List.mem_append_left _ (List.mem_map_of_mem hr)) _ (List.mem_map_of_mem hx)

theorem placeOf_purgePlaced (h : KeysDistinct s) :
    (∀ r ∈ firstsOf s, placeOf r.key (purgePlaced s) = some .queue) ∧
    (∀ r ∈ (remakesOf s).take (16 - s.store.lane.length), placeOf r.key (purgePlaced s) = some .lane) ∧
    ∀ r ∈ (remakesOf s).drop (16 - s.store.lane.length), placeOf r.key (purgePlaced s) = none := by
  obtain ⟨hnodup, -⟩ := nodup_sources h
  rw [List.map_append, List.nodup_append] at hnodup
  obtain ⟨hremakes, -, hapart⟩ := hnodup
  have hsent := sentToLane_purgePlaced s
  have hlane : (broughtBack (firstsOf s) (s.setTrack (s.track.map purgedEntry))).store.lane = s.store.lane := by
    rw [store_broughtBack]
    rfl
  have htaken := hsent.taken hremakes
  have hturned := hsent.turned hremakes
  rw [hlane] at htaken hturned
  refine ⟨fun r hr => ?_, htaken, hturned⟩
  rw [hsent.others r.key fun hm => hapart _ hm _ (List.mem_map_of_mem hr) rfl]
  exact placeOf_broughtBack hr _

theorem bundles_purgePlaced (h : s.store.lane.length + (remakesOf s).length ≤ 16) :
    (purgePlaced s).bundles =
      { s.bundles with table := s.bundles.table.map (purgedCounts (firstsOf s) (remakesOf s)) } ∧
    (purgePlaced s).store.textUsed = s.store.textUsed := by
  have hback := store_broughtBack (firstsOf s) (s.setTrack (s.track.map purgedEntry))
  have hlane : (broughtBack (firstsOf s) (s.setTrack (s.track.map purgedEntry))).store.lane = s.store.lane := by
    rw [hback]
    rfl
  obtain ⟨hbundles, htext⟩ := bundles_sendToLanes (s := broughtBack (firstsOf s) (s.setTrack (s.track.map purgedEntry)))
    .purge (rs := remakesOf s) (by rwa [hlane])
  have hcounts (b : Bundle) : purgedCounts [] (remakesOf s) (purgedCounts (firstsOf s) [] b) =
      purgedCounts (firstsOf s) (remakesOf s) b := by
    simp only [purgedCounts, List.countP_nil, Bundle.mk.injEq, true_and, and_true]
    omega
  refine ⟨?_, htext.trans ?_⟩
  · rw [purgePlaced, hbundles, broughtBack, bundles_returnToQueues]
    simp only [List.map_map, Function.comp_def, hcounts]
    rfl
  · rw [hback]
    rfl

theorem purgedCounts_eq (s : State) (b : Bundle) : purgedCounts (firstsOf s) (remakesOf s) b = { b with
    inFlight := b.inFlight - (pieces s).reverse.countP fun x => x.record.bundle == b.number
    inLane := b.inLane + (remakesOf s).countP fun r => r.bundle == b.number } := by
  have hcount : (pieces s).reverse.countP (fun x => x.record.bundle == b.number) =
      (firstsOf s).countP (fun r => r.bundle == b.number) + (remakesOf s).countP fun r => r.bundle == b.number := by
    have hperm := (perm_trackRecords s).countP_eq fun r => r.bundle == b.number
    rw [trackRecords, List.countP_map, List.countP_append] at hperm
    rw [Nat.add_comm, ← hperm]
    rfl
  rw [purgedCounts, hcount]

theorem checked_purgeTrack (h : s.store.jobState ≠ .aborting) : Checked (purgePlaced s) (purgeTrack s) := by
  obtain ⟨-, -, -, hjob⟩ := store_purgePlaced s
  rw [purgeTrack_eq, if_neg (hjob ▸ h)]
  exact Checked.completionCheck _

theorem bundles_purgeTrack (h : s.store.jobState ≠ .aborting) : (purgeTrack s).bundles = (purgePlaced s).bundles := by
  obtain ⟨-, -, -, hjob⟩ := store_purgePlaced s
  rw [purgeTrack_eq, if_neg (hjob ▸ h)]
  simp

/-- While the job is ABORTING each record of the track that still waits after the purge is in the backlog (R58). -/
theorem backlog_purgeTrack (h : s.store.jobState = .aborting) (hkeys : KeysDistinct s) {x : Piece} (hx : x ∈ pieces s)
    {r : Record} (hr : r ∈ (purgeTrack s).store.queue ++ (purgeTrack s).store.lane) (hk : r.key = x.record.key) :
    (backlogOutcome r.key (purgeTrack s)).isSome = true := by
  obtain ⟨hqueue, hlane, -, hjob⟩ := store_purgePlaced s
  obtain ⟨-, happart⟩ := nodup_sources hkeys
  rw [purgeTrack_eq, if_pos (hjob.trans h)] at hr ⊢
  have hreleased := released_drainBacklog
    (enterBacklog .aborted (placedRecords (pieces s).reverse (purgePlaced s)) (purgePlaced s))
  generalize drainBacklog (enterBacklog .aborted (placedRecords (pieces s).reverse (purgePlaced s)) (purgePlaced s)) = d
    at hr hreleased ⊢
  have hcheck := Checked.completionCheck d
  rw [hcheck.queue, hcheck.lane] at hr
  have hmem : r ∈ (purgePlaced s).store.queue ++ (purgePlaced s).store.lane :=
    (hreleased.queue.append hreleased.lane).subset hr
  have hplaced : r ∈ placedRecords (pieces s).reverse (purgePlaced s) := by
    rcases List.mem_append.mp hmem with hq | hl
    · rw [hqueue] at hq
      rcases List.mem_append.mp hq with hf | hq
      · exact List.mem_append_left _ hf
      · exact absurd hk (happart r hq _ (List.mem_map_of_mem (List.mem_reverse.mpr hx)))
    · refine List.mem_append_right _ (List.mem_filter.mpr ⟨hl, List.any_eq_true.mpr ⟨x, List.mem_reverse.mpr hx, ?_⟩⟩)
      simp [hk]
  rw [backlogOutcome_congr hcheck.backlog, hreleased.stays r hr, backlogOutcome_enterBacklog_mem _ hplaced]
  rfl

end

/-! ## The track -/

section
variable {s : State}

theorem discardOrders_of_no_pieces (os : List Order) (h : pieces s = []) : discardOrders os s = s := by
  induction os with
  | nil => rfl
  | cons o os ih =>
    have hnone : orderOwner o.number s = none := by
      by_contra hn
      obtain ⟨⟨q, x⟩, hx⟩ := Option.ne_none_iff_exists'.mp hn
      exact (no_pieces_iff _).mp h q x (pieceAt_eq_some_iff.mp (pieceAt_of_orderOwner hx).1)
    have hfold : discardOrders (o :: os) s = discardOrders os (discardOrder o.number s) := rfl
    rw [hfold, discardOrder_of_none hnone, ih]

theorem track_enterHold_of_no_pieces (c : HoldCause) (h : pieces s = []) : (enterHold c s).track = s.track := by
  by_cases hm : s.carrier.mode = .run
  · rw [enterHold_track hm, discardOrders_of_no_pieces (s := holding c s) _ h]
    rfl
  · rw [enterHold_of_hold hm]

theorem track_purgeTrack (s : State) : (purgeTrack s).track = s.track.map purgedEntry := by
  simp [purgeTrack]

theorem track_loseRegistration (s : State) : (loseRegistration s).track = s.track.map purgedEntry := by
  have hpurged : (raise (homeFault .registrationLost s) (lossPurged s)).track = s.track.map purgedEntry := by
    have htrack : (raise (homeFault .registrationLost s) (lossPurged s)).track = (lossPurged s).track := by simp
    rw [htrack, lossPurged, track_purgeTrack]
    simp [lost]
  have hnone : pieces (raise (homeFault .registrationLost s) (lossPurged s)) = [] := by
    rw [pieces, hpurged]
    exact no_pieces_purged _
  rw [loseRegistration_eq, track_enterHold_of_no_pieces _ hnone, hpurged]

theorem LossTold.grows {t u : State} (h : LossTold s t) (hg : Grows t u) : LossTold s u := fun p hp => by
  obtain ⟨before, more, hq, hkept⟩ := h p hp
  obtain ⟨rest, hrest⟩ := hg.exists_append p
  refine ⟨before, more ++ rest, ?_, hkept⟩
  rw [hrest, hq, List.append_assoc]
  rfl

end

/-! ## The statement -/

section
variable {g : Geometry} {order : List PulseTask} {s : State}

/-- What the loss of registration leaves of the store and the bundles is what the purge leaves of them. -/
theorem store_loseRegistration (s : State) : ∃ a, a.store = s.store ∧ a.bundles = s.bundles ∧ a.track = s.track ∧
    (loseRegistration s).store = (purgeTrack a).store ∧ (loseRegistration s).bundles = (purgeTrack a).bundles := by
  refine ⟨postState (.chainClear true) (postState (.registration .lost) (lost s)), by simp [lost], by simp [lost],
    by simp [lost], ?_, ?_⟩
  · rw [loseRegistration_eq]
    simp [lossPurged]
  · rw [loseRegistration_eq]
    simp [lossPurged]

theorem exec_homeMark_of_bad (hg : s.setup.geometry = some g) (hs : s.reg.state = .registered)
    (hbad : s.reg.window.isOpen = false ∨ s.reg.window.markSeen = true) :
    exec (.homeMark order) s = .next (settle (badEvent s)) := by
  rw [exec_homeMark, takeMark_of_registered hg hs, if_neg (not_markIsGood hbad)]

end

/-- Settles O51: the first bad mark by its fault, the second by the purge, its places and its notices. -/
theorem secondBadMarkLosesRegistration : Obligations.SecondBadMarkLosesRegistration := by
  intro order g s hg hs hbad oldest firsts remakes
  refine ⟨fun hr hclear => ?_, fun n hn => ?_⟩
  · have hroom : Roomy 0 (raise (homeFault .homeFault s) s) := Roomy.raise (n := 0) hr _
    have hset : Roomy 0 ((raise (homeFault .homeFault s) s).setReg { s.reg with faultWindow := some 0 }) :=
      hroom.of_link rfl
    rw [exec_homeMark_of_bad hg hs hbad, badEvent_of_clear hclear, settle_of_roomy hset]
    rfl
  · obtain ⟨hpieces, hmode, htold, hlatch, hreg⟩ := badEvent_loses hn
    obtain ⟨a, hastore, habundles, hatrack, hstore, hbundles⟩ := store_loseRegistration (raise (homeFault .homeFault s) s)
    have htrack := track_loseRegistration (raise (homeFault .homeFault s) s)
    have hrtrack : (raise (homeFault .homeFault s) s).track = s.track := by simp
    have hrstore : (raise (homeFault .homeFault s) s).store = s.store := by simp
    have hrbundles : (raise (homeFault .homeFault s) s).bundles = s.bundles := by simp
    rw [← badEvent_of_running hn] at hstore hbundles htrack
    rw [hrtrack] at htrack hatrack
    rw [hrstore] at hastore
    rw [hrbundles] at habundles
    have hapieces : pieces a = pieces s := by rw [pieces, hatrack]; rfl
    have hfirsts : firstsOf a = firsts := by rw [firstsOf, hapieces]
    have hremakes : remakesOf a = remakes := by rw [remakesOf, hapieces]
    have hkeys : KeysDistinct s → KeysDistinct a := fun h => by
      rw [KeysDistinct, heldRecords, trackRecords, hapieces, hastore]
      exact h
    obtain ⟨greg, -, -, gtrack, -, -, gstore, gcarrier, gbundles⟩ := settle_keeps_blocks (badEvent s)
    obtain ⟨hqueue, hlane, hbacklog, -⟩ := store_purgePlaced a
    rw [hfirsts, hastore] at hqueue
    rw [hremakes, hastore] at hlane
    rw [hastore] at hbacklog
    have hentry (q : Nat) : entryAt q (settle (badEvent s)) = (entryAt q s).map purgedEntry := by
      rw [entryAt, gtrack, htrack, List.getElem?_map]
      rfl
    refine ⟨settle (badEvent s), exec_homeMark_of_bad hg hs hbad, greg.trans hreg, ?_, ?_,
      fun hr => (htold hr).grows (Grows.settle _), fun q x hx => ?_, fun q hx => ?_, fun hj => ?_,
      fun hj hdistinct x hx r hr hk => ?_, fun ha => stopLatch_settle (hlatch ha)⟩
    · rw [pieces, gtrack]
      exact hpieces
    · rwa [gcarrier]
    · have he : entryAt q s = some (.piece x) := pieceAt_eq_some_iff.mp hx
      rw [hentry, he]
      rfl
    · rw [hentry]
      cases he : entryAt q s with
      | none => rfl
      | some e =>
        cases e with
        | piece y => exact absurd (hx.symm.trans (pieceAt_eq_some_iff.mpr he)) (by simp)
        | _ => rfl
    · have hja : a.store.jobState ≠ .aborting := by rwa [hastore]
      have hcheck := checked_purgeTrack hja
      rw [gstore, hstore, gbundles, hbundles, hcheck.queue, hcheck.lane, hcheck.backlog, hcheck.text, bundles_purgeTrack hja]
      refine ⟨hqueue, hlane, hbacklog, fun hdistinct => ?_, fun hroom => ?_⟩
      · have hplace (k : Nat) : placeOf k (settle (badEvent s)) = placeOf k (purgePlaced a) := by
          rw [placeOf, gstore, hstore, hcheck.map]
          rfl
        obtain ⟨h1, h2, h3⟩ := placeOf_purgePlaced (hkeys hdistinct)
        rw [hfirsts] at h1
        rw [hremakes, hastore] at h2 h3
        exact ⟨fun r hr => (hplace _).trans (h1 r hr), fun r hr => (hplace _).trans (h2 r hr),
          fun r hr => (hplace _).trans (h3 r hr)⟩
      · obtain ⟨hb, ht⟩ := bundles_purgePlaced (s := a) (by rwa [hremakes, hastore])
        rw [hastore] at ht
        refine ⟨ht, hb.trans ?_⟩
        rw [habundles]
        refine congrArg (fun t => { s.bundles with table := t }) (List.map_congr_left fun b _ => ?_)
        rw [purgedCounts_eq, hapieces, hremakes]
    · rw [gstore, hstore] at hr
      have ho : backlogOutcome r.key (settle (badEvent s)) = backlogOutcome r.key (purgeTrack a) :=
        backlogOutcome_congr (by rw [gstore, hstore]) _
      rw [ho]
      exact backlog_purgeTrack (by rwa [hastore]) (hkeys hdistinct) (by rwa [hapieces]) hr hk

end Sys2Proof.Machine


/-! The stations, the plans and the free bays that an entry event looks for (R66 to R68). -/

namespace Sys2Proof.Machine

/-! ## The lowest of a rising list -/

/-- A search through a rising list finds the lowest member that passes the test. -/
theorem find?_eq_some_iff_lowest {α : Type} [LinearOrder α] {p : α → Bool} {l : List α} (hl : l.Pairwise (· < ·)) {i : α} :
    l.find? p = some i ↔ i ∈ l ∧ p i = true ∧ ∀ k ∈ l, k < i → p k = false := by
  induction l with
  | nil => simp
  | cons a l ih =>
    obtain ⟨ha, hl⟩ := List.pairwise_cons.mp hl
    cases hp : p a with
    | true =>
      rw [List.find?_cons_of_pos hp]
      constructor
      · rintro ⟨rfl⟩
        refine ⟨List.mem_cons_self, hp, fun k hk hlt => ?_⟩
        rcases List.mem_cons.mp hk with rfl | hk
        · exact absurd hlt (lt_irrefl _)
        · exact absurd (hlt.trans (ha k hk)) (lt_irrefl _)
      · rintro ⟨hi, -, hlow⟩
        rcases List.mem_cons.mp hi with rfl | hi
        · rfl
        · exact absurd (hlow a List.mem_cons_self (ha i hi)) (by simp [hp])
    | false =>
      rw [List.find?_cons_of_neg (by simp [hp]), ih hl]
      constructor
      · rintro ⟨hi, hpi, hlow⟩
        refine ⟨List.mem_cons_of_mem a hi, hpi, fun k hk hlt => ?_⟩
        rcases List.mem_cons.mp hk with rfl | hk
        · exact hp
        · exact hlow k hk hlt
      · rintro ⟨hi, hpi, hlow⟩
        rcases List.mem_cons.mp hi with rfl | hi
        · exact absurd hpi (by simp [hp])
        · exact ⟨hi, hpi, fun k hk hlt => hlow k (List.mem_cons_of_mem a hk) hlt⟩

theorem pairwise_allStations : allStations.Pairwise (· < ·) := by decide

theorem pairwise_allBays : allBays.Pairwise (· < ·) := by decide

theorem mem_allBays (h : Fin 16) : h ∈ allBays := by revert h; decide

theorem pairwise_itemsOf (x : BitVec 16) : (itemsOf x).Pairwise (· < ·) := List.pairwise_lt_range.filter _

theorem mem_itemsOf {x : BitVec 16} {n : Nat} : n ∈ itemsOf x ↔ n < 16 ∧ x.getLsbD n = true := by
  simp [itemsOf]

/-! ## The usable station -/

section
variable {item : Nat} {s : State}

theorem primaryStation_eq_some_iff {i : Fin 12} : primaryStation item s = some i ↔ IsPrimary item i s := by
  rw [primaryStation, find?_eq_some_iff_lowest pairwise_allStations]
  constructor
  · rintro ⟨-, hi, hlow⟩
    refine ⟨?_, fun k hk e he heq => ?_⟩
    · cases he : stationAt i s with
      | none => simp [he] at hi
      | some e => exact ⟨e, rfl, by simpa [he] using hi⟩
    · have := hlow k (mem_allStations k) hk
      simp [he, heq] at this
  · rintro ⟨⟨e, he, heq⟩, hlow⟩
    refine ⟨mem_allStations i, by simp [he, heq], fun k _ hk => ?_⟩
    cases hek : stationAt k s with
    | none => simp
    | some e => simpa using hlow k hk e hek

theorem stationServes_iff {i : Fin 12} : stationServes item i s = true ↔
    ∃ e, stationAt i s = some e ∧ e.on = true ∧ e.item = item := by
  unfold stationServes
  cases h : stationAt i s <;> simp

theorem usableStation_of_none (h : primaryStation item s = none) : usableStation item s = none := by
  simp only [usableStation, h]

theorem usableStation_of_primary {k : Fin 12} (h : primaryStation item s = some k) : usableStation item s =
    if stationServes item k s then some k
    else ((stationAt k s).bind Station.alternate).bind fun a => if stationServes item a s then some a else none := by
  simp only [usableStation, h]
  split
  · rfl
  · cases (stationAt k s).bind Station.alternate <;> rfl

theorem usableStation_eq_some_iff {i : Fin 12} : usableStation item s = some i ↔ IsUsable item i s := by
  cases hp : primaryStation item s with
  | none =>
    rw [usableStation_of_none hp]
    refine ⟨fun h => (nomatch h), ?_⟩
    rintro ⟨k, e, hk, -⟩
    exact absurd (hp.symm.trans (primaryStation_eq_some_iff.mpr hk)) (by simp)
  | some k =>
    have hprimary := primaryStation_eq_some_iff.mp hp
    obtain ⟨⟨e, he, hitem⟩, -⟩ := id hprimary
    have hunique (j : Fin 12) (hj : IsPrimary item j s) : j = k :=
      Option.some.inj ((primaryStation_eq_some_iff.mpr hj).symm.trans hp)
    have hserves : stationServes item k s = e.on := by
      rw [Bool.eq_iff_iff, stationServes_iff]
      refine ⟨?_, fun hon => ⟨e, he, hon, hitem⟩⟩
      rintro ⟨e', he', hon, -⟩
      obtain rfl := Option.some.inj (he.symm.trans he')
      exact hon
    rw [usableStation_of_primary hp, hserves, he, Option.bind_some]
    constructor
    · intro h
      cases hon : e.on with
      | true =>
        rw [hon, if_pos rfl] at h
        exact ⟨k, e, hprimary, he, .inl ⟨hon, (Option.some.inj h).symm⟩⟩
      | false =>
        rw [hon, if_neg (by decide)] at h
        obtain ⟨a, ha, hserve⟩ := Option.bind_eq_some_iff.mp h
        split at hserve
        · next hs =>
          obtain rfl := Option.some.inj hserve
          exact ⟨k, e, hprimary, he, .inr ⟨hon, ha, stationServes_iff.mp hs⟩⟩
        · cases hserve
    · rintro ⟨j, e', hj, he', hcases⟩
      obtain rfl := hunique j hj
      obtain rfl := Option.some.inj (he.symm.trans he')
      rcases hcases with ⟨hon, rfl⟩ | ⟨hoff, halt, ha⟩
      · rw [hon, if_pos rfl]
      · rw [hoff, if_neg (by decide), halt, Option.bind_some, if_pos (stationServes_iff.mpr ha)]

theorem usableStation_eq_none_iff : usableStation item s = none ↔ ∀ i, ¬IsUsable item i s := by
  rw [Option.eq_none_iff_forall_ne_some]
  exact forall_congr' fun i => not_congr usableStation_eq_some_iff

/-! ## Plans -/

theorem planItems_cons (item : Nat) (rest : List Nat) (s : State) : planItems s (item :: rest) =
    (usableStation item s).bind fun i => (planItems s rest).map fun plan =>
      { item := item, station := i, result := .pending } :: plan := by
  rw [planItems]
  cases usableStation item s <;> cases planItems s rest <;> rfl

theorem planItems_eq_none_iff {items : List Nat} :
    planItems s items = none ↔ ∃ item ∈ items, ∀ i, ¬IsUsable item i s := by
  induction items with
  | nil => simp [planItems]
  | cons item rest ih =>
    rw [planItems_cons, List.exists_mem_cons_iff, ← usableStation_eq_none_iff, ← ih]
    cases usableStation item s <;> simp

theorem planItems_eq_some_iff {items : List Nat} {plan : List PlanPair} : planItems s items = some plan ↔
    plan.map PlanPair.item = items ∧ ∀ y ∈ plan, y.result = .pending ∧ IsUsable y.item y.station s := by
  induction items generalizing plan with
  | nil =>
    rw [planItems, Option.some_inj, List.map_eq_nil_iff]
    refine ⟨fun h => ⟨h.symm, fun y hy => ?_⟩, fun h => h.1.symm⟩
    rw [← h] at hy
    cases hy
  | cons item rest ih =>
    rw [planItems_cons, Option.bind_eq_some_iff]
    constructor
    · rintro ⟨i, hi, hrest⟩
      obtain ⟨tail, htail, rfl⟩ := Option.map_eq_some_iff.mp hrest
      obtain ⟨hitems, hall⟩ := ih.mp htail
      refine ⟨by rw [List.map_cons, hitems], fun y hy => ?_⟩
      rcases List.mem_cons.mp hy with rfl | hy
      · exact ⟨rfl, usableStation_eq_some_iff.mp hi⟩
      · exact hall y hy
    · rintro ⟨hitems, hall⟩
      cases plan with
      | nil => cases hitems
      | cons y tail =>
        rw [List.map_cons, List.cons.injEq] at hitems
        obtain ⟨rfl, hitems⟩ := hitems
        obtain ⟨⟨hpending, husable⟩, htail⟩ := List.forall_mem_cons.mp hall
        refine ⟨y.station, usableStation_eq_some_iff.mpr husable,
          Option.map_eq_some_iff.mpr ⟨tail, ih.mpr ⟨hitems, htail⟩, ?_⟩⟩
        rw [← hpending]

/-- The item that an ITEM_UNAVAILABLE is for is the lowest without a usable station (R67). -/
theorem lackingItem_of_lowest {r : Record} (hmem : item ∈ itemsOf r.items) (hnone : ∀ i, ¬IsUsable item i s)
    (hlow : ∀ m ∈ itemsOf r.items, m < item → ∃ i, IsUsable m i s) : lackingItem r s = some item := by
  rw [lackingItem, find?_eq_some_iff_lowest (pairwise_itemsOf r.items)]
  refine ⟨hmem, by simp [usableStation_eq_none_iff.mpr hnone], fun m hm hlt => ?_⟩
  obtain ⟨i, hi⟩ := hlow m hm hlt
  simp [usableStation_eq_some_iff.mpr hi]

theorem lackingSource_eq (r : Record) (s : State) : lackingSource r s =
    (((lackingItem r s).bind fun item => primaryStation item s).map Source.station).getD .none := by
  rw [lackingSource]
  cases (lackingItem r s).bind fun item => primaryStation item s <;> rfl

/-! ## The lowest free bay -/

theorem head_freeBays_eq_some_iff {h : Fin 16} : (freeBays s).head? = some h ↔ LowestFreeBay h s := by
  rw [freeBays, List.head?_filter, find?_eq_some_iff_lowest pairwise_allBays]
  simp only [mem_allBays, true_and, Bool.and_eq_true, Bool.and_eq_false_iff, decide_eq_true_eq, decide_eq_false_iff_not,
    forall_const, LowestFreeBay]
  constructor
  · rintro ⟨⟨hlt, hfree⟩, hlow⟩
    exact ⟨hlt, hfree, fun k hk => (hlow k hk).resolve_left (not_not_intro (lt_trans hk hlt))⟩
  · rintro ⟨hlt, hfree, hlow⟩
    exact ⟨⟨hlt, hfree⟩, fun k hk => .inr (hlow k hk)⟩

theorem freeBays_eq_nil_iff : freeBays s = [] ↔
    ∀ h : Fin 16, h.val < (geometryItems s).bays → s.bundles.bays[h] ≠ none := by
  rw [freeBays, List.filter_eq_nil_iff]
  simp [mem_allBays]

end

end Sys2Proof.Machine


/-! The entry event: the checks that leave the pocket EMPTY or LOCKED, and the record that enters (R61 to R73). -/

namespace Sys2Proof.Machine

section
variable {s : State}

/-! ## The checks before the store is asked -/

theorem entryAt_setEntryAt_zero {e : TrackEntry} {s : State} (h : 0 < s.track.length) :
    entryAt 0 (setEntryAt 0 e s) = some e := List.getElem?_set_self h

/-- The pocket left EMPTY, with the entry result and the bundle that waits for a bay. -/
theorem leaveEmpty_rules (h : 0 < s.track.length) (k : Option Nat) (r : EntryResult) (b : Option Nat) :
    entryAt 0 (leaveEmpty k r b s) = some (.empty k 0) ∧ (leaveEmpty k r b s).entry.result = r ∧
      (leaveEmpty k r b s).entry.awaitingBay = b := ⟨entryAt_setEntryAt_zero h, rfl, rfl⟩

/-- The entry event of `s` asks the store: the pocket is registered and not locked, the gate admits a record, and the
carrier unit can take an order (R62 to R64). -/
structure Admitted (s : State) : Prop where
  registered : s.reg.state = .registered
  unlocked : s.reg.pocketIndex ∉ s.entry.lockout
  gate : s.run.gate = .opened ∨ s.run.gate = .drain
  mode : s.carrier.mode = .run
  orders : s.carrier.queue.length < 96
  room : (txQueue .carrier s).length < 32

theorem canTakeOrder_iff : canTakeOrder s = true ↔
    s.carrier.mode = .run ∧ s.carrier.queue.length < 96 ∧ (txQueue .carrier s).length < 32 := by
  simp only [canTakeOrder, txHasRoom, Bool.and_eq_true, decide_eq_true_eq, and_assoc]
  rfl

theorem gateAdmits_iff : gateAdmits s = true ↔ s.run.gate = .opened ∨ s.run.gate = .drain := by
  simp [gateAdmits]

theorem entryEvent_of_unregistered (h : s.reg.state ≠ .registered) : entryEvent s = leaveEmpty none .notRegistered none s :=
  if_pos h

theorem entryEvent_of_locked (h : s.reg.state = .registered) (hl : s.reg.pocketIndex ∈ s.entry.lockout) :
    entryEvent s = setResultOfEntry .locked none (setEntryAt 0 (.locked s.reg.pocketIndex 0) s) := by
  rw [entryEvent, if_neg (not_not_intro h), if_pos (by simpa using hl)]

theorem entryEvent_of_shut (h : s.reg.state = .registered) (hl : s.reg.pocketIndex ∉ s.entry.lockout)
    (hg : s.run.gate = .closed ∨ s.run.gate = .halt) :
    entryEvent s = leaveEmpty (some s.reg.pocketIndex) .gate none s := by
  have hshut : gateAdmits s = false := by
    rw [← Bool.not_eq_true, gateAdmits_iff]
    rcases hg with hg | hg <;> simp [hg]
  rw [entryEvent, if_neg (not_not_intro h), if_neg (by simpa using hl), if_pos hshut]

theorem entryEvent_of_no_order (h : s.reg.state = .registered) (hl : s.reg.pocketIndex ∉ s.entry.lockout)
    (hg : s.run.gate = .opened ∨ s.run.gate = .drain)
    (hc : s.carrier.mode ≠ .run ∨ 96 ≤ s.carrier.queue.length ∨ 32 ≤ (txQueue .carrier s).length) :
    entryEvent s = leaveEmpty (some s.reg.pocketIndex) .carrier none s := by
  have hfull : canTakeOrder s = false := by
    rw [← Bool.not_eq_true, canTakeOrder_iff]
    rintro ⟨hmode, horders, hroom⟩
    rcases hc with hc | hc | hc
    · exact hc hmode
    · omega
    · omega
  rw [entryEvent, if_neg (not_not_intro h), if_neg (by simpa using hl), if_neg (by simp [gateAdmits_iff.mpr hg]),
    if_pos hfull]

theorem entryEvent_of_admitted (h : Admitted s) : entryEvent s = chooseRecord s := by
  rw [entryEvent, if_neg (not_not_intro h.registered), if_neg (by simpa using h.unlocked),
    if_neg (by simp [gateAdmits_iff.mpr h.gate]), if_neg (by simp [canTakeOrder_iff.mpr ⟨h.mode, h.orders, h.room⟩])]

/-! ## The store's answer -/

theorem starveBegins_iff : starveBegins s = true ↔ s.run.gate = .opened ∧ s.store.jobState = .loading ∧
    s.store.lane = [] ∧ s.store.queue = [] ∧ s.entry.starving = false := by
  simp [starveBegins, and_assoc]

theorem testStarvation_of_not (h : ¬starveBegins s = true) : testStarvation s = s := if_neg h

/-- The gate may come to HALT by the starvation's own fault, and opens by none. -/
theorem testStarvation_keeps_asked (s : State) : (testStarvation s).store = s.store ∧ (testStarvation s).reg = s.reg ∧
    (testStarvation s).track = s.track ∧
    ((testStarvation s).run.gate = .opened → s.run.gate = .opened) := by
  refine ⟨by simp, by simp, by simp, fun h => ?_⟩
  unfold testStarvation at h
  split at h
  · next hs => exact (starveBegins_iff.mp hs).1
  · exact h

theorem chooseRecord_of_noRecord (hl : s.store.lane = []) (h : s.store.queue = [] ∨ s.run.gate = .drain ∨
    s.store.jobState = .noJob ∨ s.store.jobState = .aborting) :
    chooseRecord s = leaveEmpty (some s.reg.pocketIndex) .noRecord none (testStarvation s) := by
  obtain ⟨hstore, hreg, -, hgate⟩ := testStarvation_keeps_asked s
  have hask : askedRecord (testStarvation s) = none := by
    simp only [askedRecord, hstore, hl]
    split
    · next hg =>
      obtain ⟨hopen, hjob⟩ := hg
      rcases h with h | h | h | h
      · rw [h]
        rfl
      · exact absurd (h.symm.trans (hgate hopen)) (by decide)
      · rw [h] at hjob
        exact absurd hjob (by decide)
      · rw [h] at hjob
        exact absurd hjob (by decide)
    · rfl
  have hoffer : offer (testStarvation s) = .noRecord := by simp only [offer, hask]
  simp only [chooseRecord, hoffer, hreg]

theorem chooseRecord_of_backlog (hn : ¬starveBegins s = true) {a : SourceList × Record} (ha : askedRecord s = some a)
    (h : s.store.backlog ≠ [] ∨ s.store.jobState = .aborting) :
    chooseRecord s = leaveEmpty (some s.reg.pocketIndex) .backlog none s := by
  have hoffer : offer s = .backlog := by
    simp only [offer, ha]
    exact if_pos h
  simp only [chooseRecord, testStarvation_of_not hn, hoffer]

theorem askedRecord_of_lane {r : Record} (h : s.store.lane.head? = some r) : askedRecord s = some (.lane, r) := by
  obtain ⟨rest, hl⟩ : ∃ rest, s.store.lane = r :: rest := List.head?_eq_some_iff.mp h
  simp only [askedRecord, hl]

theorem askedRecord_of_queue {r : Record} (hl : s.store.lane = []) (hq : s.store.queue.head? = some r)
    (hg : s.run.gate = .opened) (hj : s.store.jobState = .loading ∨ s.store.jobState = .ended) :
    askedRecord s = some (.queue, r) := by
  simp only [askedRecord, hl, hq]
  exact if_pos ⟨hg, hj⟩

/-- A record that is offered is asked for, and begins no starvation. -/
theorem chooseRecord_of_offered {src : SourceList} {r : Record} (h : IsOffered src r s) :
    chooseRecord s = checkItems src r s := by
  obtain ⟨hback, hjob, hsrc⟩ := h
  have hask : askedRecord s = some (src, r) ∧ ¬starveBegins s = true := by
    cases src with
    | lane =>
      obtain ⟨hl, -⟩ := hsrc
      refine ⟨askedRecord_of_lane hl, fun hs => ?_⟩
      obtain ⟨-, -, hnil, -⟩ := starveBegins_iff.mp hs
      simp [hnil] at hl
    | queue =>
      obtain ⟨hl, hq, hg, hj⟩ := hsrc
      refine ⟨askedRecord_of_queue hl hq hg hj, fun hs => ?_⟩
      obtain ⟨-, -, -, hnil, -⟩ := starveBegins_iff.mp hs
      simp [hnil] at hq
  have hoffer : offer s = .record src r := by
    simp only [offer, hask.1]
    exact if_neg (by simp [hback, hjob])
  simp only [chooseRecord, testStarvation_of_not hask.2, hoffer]

theorem fault_testStarvation (h : s.run.gate = .opened) (hj : s.store.jobState = .loading) (hl : s.store.lane = [])
    (hq : s.store.queue = []) : (testStarvation s).entry.starving = true ∧
    (s.entry.starving = true → (testStarvation s).fault = s.fault) ∧
    (s.entry.starving = false → (testStarvation s).fault = (raise (entryFault .queueStarve s) s).fault) := by
  cases hs : s.entry.starving with
  | true =>
    have hn : ¬starveBegins s = true := fun hb => by
      obtain ⟨-, -, -, -, hf⟩ := starveBegins_iff.mp hb
      exact absurd (hs.symm.trans hf) (by decide)
    rw [testStarvation_of_not hn]
    exact ⟨hs, fun _ => rfl, fun hf => (nomatch hf)⟩
  | false =>
    have ht : testStarvation s = raise (entryFault .queueStarve s) (s.setEntry { s.entry with starving := true }) :=
      if_pos (starveBegins_iff.mpr ⟨h, hj, hl, hq, hs⟩)
    rw [ht]
    refine ⟨by simp, fun hf => (nomatch hf), fun _ => ?_⟩
    exact fault_raise_congr (s := s) (t := s.setEntry { s.entry with starving := true }) rfl _

/-! ## The item check -/

theorem checkItems_of_none {src : SourceList} {r : Record} (h : planItems s (itemsOf r.items) = none) :
    checkItems src r s = testItems r (leaveEmpty (some s.reg.pocketIndex) .itemWait none s) := by
  simp only [checkItems, h]

theorem checkItems_of_plan {src : SourceList} {r : Record} {plan : List PlanPair}
    (h : planItems s (itemsOf r.items) = some plan) : checkItems src r s = checkBay src r plan s := by
  simp only [checkItems, h]

/-- The fault of an item episode's start (R67). -/
def itemFault (r : Record) (s : State) : FaultRecord := { entryFault .itemUnavailable s with
  source := lackingSource r s, key := some r.key, bundle := some r.bundle }

theorem testItems_of_begun (r : Record) (h : s.entry.itemUnavailable = true) : testItems r s = s := if_pos h

theorem testItems_of_new (r : Record) (h : s.entry.itemUnavailable = false) : testItems r s =
    raise (itemFault r s) (s.setEntry { s.entry with itemUnavailable := true }) := by
  rw [testItems, if_neg (by simp [h])]
  rfl

theorem itemWait_rules (r : Record) (hlen : 0 < s.track.length) (k : Nat) :
    entryAt 0 (testItems r (leaveEmpty (some k) .itemWait none s)) = some (.empty (some k) 0) ∧
    (testItems r (leaveEmpty (some k) .itemWait none s)).entry =
      { s.entry with itemUnavailable := true, result := .itemWait, awaitingBay := none } ∧
    (testItems r (leaveEmpty (some k) .itemWait none s)).store = s.store ∧
    (testItems r (leaveEmpty (some k) .itemWait none s)).bundles = s.bundles ∧
    (s.entry.itemUnavailable = true → (testItems r (leaveEmpty (some k) .itemWait none s)).fault = s.fault) ∧
    (s.entry.itemUnavailable = false →
      (testItems r (leaveEmpty (some k) .itemWait none s)).fault = (raise (itemFault r s) s).fault) := by
  have hempty := (leaveEmpty_rules hlen (some k) .itemWait none).1
  have htrack : (testItems r (leaveEmpty (some k) .itemWait none s)).track =
      (leaveEmpty (some k) .itemWait none s).track := by simp
  refine ⟨(congrArg (fun t => t[0]?) htrack).trans hempty, ?_, by simp, by simp, fun h => ?_, fun h => ?_⟩
  · cases h : s.entry.itemUnavailable with
    | true =>
      rw [testItems_of_begun (s := leaveEmpty (some k) .itemWait none s) r h]
      have hentry : s.entry = { s.entry with itemUnavailable := true } := by rw [← h]
      have hset : (leaveEmpty (some k) .itemWait none s).entry =
          { s.entry with result := .itemWait, awaitingBay := none } := rfl
      rw [hset]
      conv_lhs => rw [hentry]
    | false =>
      rw [testItems_of_new (s := leaveEmpty (some k) .itemWait none s) r h]
      exact Eq.trans (by simp) (show ((leaveEmpty (some k) .itemWait none s).setEntry
        { (leaveEmpty (some k) .itemWait none s).entry with itemUnavailable := true }).entry = _ from rfl)
  · rw [testItems_of_begun (s := leaveEmpty (some k) .itemWait none s) r h]
    rfl
  · rw [testItems_of_new (s := leaveEmpty (some k) .itemWait none s) r h]
    have hrecord : itemFault r (leaveEmpty (some k) .itemWait none s) = itemFault r s := rfl
    rw [hrecord]
    exact fault_raise_congr (s := s) (t := (leaveEmpty (some k) .itemWait none s).setEntry
      { (leaveEmpty (some k) .itemWait none s).entry with itemUnavailable := true }) rfl _

/-! ## The bay check -/

theorem checkBay_of_known {src : SourceList} {r : Record} {plan : List PlanPair}
    (h : (findBundle r.bundle s).isSome = true) : checkBay src r plan s = enterRecord src r plan none s := by
  obtain ⟨x, hx⟩ := Option.isSome_iff_exists.mp h
  simp only [checkBay, hx]

theorem checkBay_of_free {src : SourceList} {r : Record} {plan : List PlanPair} {h : Fin 16}
    (hn : findBundle r.bundle s = none) (hh : LowestFreeBay h s) :
    checkBay src r plan s = enterRecord src r plan (some h) s := by
  obtain ⟨rest, hfree⟩ : ∃ rest, freeBays s = h :: rest := List.head?_eq_some_iff.mp (head_freeBays_eq_some_iff.mpr hh)
  simp only [checkBay, hn, hfree]

theorem checkBay_of_full {src : SourceList} {r : Record} {plan : List PlanPair} (hn : findBundle r.bundle s = none)
    (hh : ∀ h : Fin 16, h.val < (geometryItems s).bays → s.bundles.bays[h] ≠ none) :
    checkBay src r plan s = leaveEmpty (some s.reg.pocketIndex) .bayWait (some r.bundle) s := by
  simp only [checkBay, hn, freeBays_eq_nil_iff.mpr hh]

/-! ## The bundle awaiting a bay -/

/-- A bundle awaits a bay only where the entry result says so (R61). -/
def BayAwaited (s : State) : Prop := s.entry.result ≠ .bayWait → s.entry.awaitingBay = none

theorem bayAwaited_of_none (h : s.entry.awaitingBay = none) : BayAwaited s := fun _ => h

theorem bayAwaited_checkItems (src : SourceList) (r : Record) (s : State) : BayAwaited (checkItems src r s) := by
  cases hp : planItems s (itemsOf r.items) with
  | none =>
    rw [checkItems_of_none hp]
    cases hi : s.entry.itemUnavailable with
    | true =>
      rw [testItems_of_begun (s := leaveEmpty (some s.reg.pocketIndex) .itemWait none s) r hi]
      exact bayAwaited_of_none rfl
    | false =>
      rw [testItems_of_new (s := leaveEmpty (some s.reg.pocketIndex) .itemWait none s) r hi]
      exact bayAwaited_of_none (by simp [leaveEmpty, setResultOfEntry])
  | some plan =>
    rw [checkItems_of_plan hp]
    unfold checkBay
    split
    · exact bayAwaited_of_none rfl
    · exact bayAwaited_of_none rfl
    · exact fun h => absurd rfl h

theorem bayAwaited_entryEvent (s : State) : BayAwaited (entryEvent s) := by
  unfold entryEvent
  split
  · exact bayAwaited_of_none rfl
  · split
    · exact bayAwaited_of_none rfl
    · split
      · exact bayAwaited_of_none rfl
      · split
        · exact bayAwaited_of_none rfl
        · unfold chooseRecord
          dsimp only
          split
          · exact bayAwaited_of_none rfl
          · exact bayAwaited_of_none rfl
          · exact bayAwaited_checkItems _ _ _

end

/-- Settles O30: the checks in their order, each with the state it leaves. -/
theorem entryChecksLeaveThePocketEmpty : Obligations.EntryChecksLeaveThePocketEmpty := by
  intro s hlen
  have hempty (k : Option Nat) (r : EntryResult) (b : Option Nat) {u : State} (hu : u = leaveEmpty k r b s) :
      entryAt 0 u = some (.empty k 0) ∧ u.entry.result = r := by
    obtain ⟨he, hr, -⟩ := leaveEmpty_rules hlen k r b
    exact hu ▸ ⟨he, hr⟩
  refine ⟨bayAwaited_entryEvent s, fun h => hempty _ _ _ (entryEvent_of_unregistered h), fun hreg =>
    ⟨fun hlock => ?_, fun hlock => ⟨fun hshut => hempty _ _ _ (entryEvent_of_shut hreg hlock hshut), fun hgate =>
      ⟨fun hc => hempty _ _ _ (entryEvent_of_no_order hreg hlock hgate hc), fun hmode horders hroom => ?_⟩⟩⟩⟩
  · rw [entryEvent_of_locked hreg hlock]
    exact ⟨entryAt_setEntryAt_zero hlen, rfl⟩
  · rw [entryEvent_of_admitted ⟨hreg, hlock, hgate, hmode, horders, hroom⟩]
    have hstarvelen : 0 < (testStarvation s).track.length := by
      rw [(testStarvation_keeps_asked s).2.2.1]
      exact hlen
    refine ⟨fun hl h => ?_, fun hl hq hopen hjob => ?_, fun hl h => ?_, fun hl hq hopen hjob hback => ?_,
      fun src r hoffer => ?_⟩
    · rw [chooseRecord_of_noRecord hl h]
      obtain ⟨he, hr, -⟩ := leaveEmpty_rules hstarvelen (some s.reg.pocketIndex) .noRecord none
      exact ⟨he, hr⟩
    · rw [chooseRecord_of_noRecord hl (.inl hq)]
      exact fault_testStarvation hopen hjob hl hq
    · obtain ⟨r, rest, hlane⟩ := List.exists_cons_of_ne_nil hl
      refine hempty _ _ _ (chooseRecord_of_backlog (fun hs => ?_) (askedRecord_of_lane (r := r) (by rw [hlane]; rfl)) h)
      obtain ⟨-, -, hnil, -⟩ := starveBegins_iff.mp hs
      exact hl hnil
    · obtain ⟨r, rest, hqueue⟩ := List.exists_cons_of_ne_nil hq
      refine hempty _ _ _ (chooseRecord_of_backlog (fun hs => ?_)
        (askedRecord_of_queue (r := r) hl (by rw [hqueue]; rfl) hopen hjob) (.inl hback))
      obtain ⟨-, -, -, hnil, -⟩ := starveBegins_iff.mp hs
      exact hq hnil
    · rw [chooseRecord_of_offered hoffer]
      refine ⟨fun hplan => ?_, fun hplan hn hfull => ?_⟩
      · rw [checkItems_of_none hplan]
        obtain ⟨hentry, hunit, hstore, hbundles, hbegun, hnew⟩ := itemWait_rules r hlen s.reg.pocketIndex
        refine ⟨hentry, hunit, hstore, hbundles, hbegun, hnew, fun item hmem hnone hlow => ?_⟩
        have hlack := lackingItem_of_lowest hmem hnone hlow
        rw [lackingSource_eq, hlack, Option.bind_some]
        refine ⟨fun i hi => by rw [primaryStation_eq_some_iff.mpr hi]; rfl, fun hi => ?_⟩
        have hp : primaryStation item s = none :=
          Option.eq_none_iff_forall_ne_some.mpr fun i hs => hi i (primaryStation_eq_some_iff.mp hs)
        rw [hp]
        rfl
      · obtain ⟨plan, hp⟩ := Option.isSome_iff_exists.mp hplan
        rw [checkItems_of_plan hp, checkBay_of_full hn hfull]
        exact ⟨(leaveEmpty_rules hlen _ _ _).1, rfl, rfl, rfl, rfl⟩

end Sys2Proof.Machine


/-! A record that enters: the piece, the tag, the order, the map and the bundle (R66 to R72, R137). -/

namespace Sys2Proof.Machine

section
variable {src : SourceList} {r : Record} {plan : List PlanPair} {s : State}

/-! ## The bundle table -/

theorem map_insertBundle {f : Bundle → Bundle} (hf : ∀ b, (f b).number = b.number) (b : Bundle) (l : List Bundle) :
    (insertBundle b l).map f = insertBundle (f b) (l.map f) := by
  induction l with
  | nil => rfl
  | cons c rest ih =>
    rw [insertBundle, List.map_cons, insertBundle, hf b, hf c]
    split
    · rfl
    · rw [List.map_cons, ih]

theorem map_of_unnumbered {n : Nat} {f : Bundle → Bundle} {l : List Bundle} (h : ∀ b ∈ l, b.number ≠ n) :
    (l.map fun b => if b.number = n then f b else b) = l := by
  conv_rhs => rw [← List.map_id l]
  exact List.map_congr_left fun b hb => if_neg (h b hb)

theorem unnumbered_of_findBundle {n : Nat} (h : findBundle n s = none) : ∀ b ∈ s.bundles.table, b.number ≠ n := by
  simpa [findBundle] using h

/-- The state in which a record's bundle takes its piece: the record handed over, the piece made (R69 steps 1 and 2). -/
def pieceMade (src : SourceList) (r : Record) (plan : List PlanPair) (s : State) : State :=
  makePiece (newPiece src r plan s) (handOver src r s)

theorem enterRecord_eq (bay : Option (Fin 16)) : enterRecord src r plan bay s = setResultOfEntry .entered none
    (endEpisodes (issueOrder s.entry.nextTag r (enterBundle r bay (pieceMade src r plan s)))) := rfl

theorem link_entered (u : State) : (setResultOfEntry .entered none (endEpisodes u)).link = u.link := rfl

theorem bundles_enterRecord (bay : Option (Fin 16)) : (enterRecord src r plan bay s).bundles =
    (enterBundle r bay (pieceMade src r plan s)).bundles := by
  simp [enterRecord, setResultOfEntry, endEpisodes, issueOrder, pieceMade]

/-- A bundle's counts with a record of it entered from a list (R138). -/
def enteredCounts (src : SourceList) (b : Bundle) : Bundle := match src with
  | .queue => { b with inFlight := b.inFlight + 1 }
  | .lane => { b with inFlight := b.inFlight + 1, inLane := b.inLane - 1 }

theorem bundles_enterRecord_known : (enterRecord src r plan none s).bundles = { s.bundles with
    table := s.bundles.table.map fun b => if b.number = r.bundle then enteredCounts src b else b } := by
  rw [bundles_enterRecord]
  cases src with
  | queue => rfl
  | lane =>
    have hstep : (enterBundle r none (pieceMade .lane r plan s)).bundles = { s.bundles with
        table := (s.bundles.table.map fun b => if b.number = r.bundle then leavePlace .lane b else b).map fun b =>
          if b.number = r.bundle then { b with inFlight := b.inFlight + 1 } else b } := rfl
    rw [hstep, List.map_map]
    refine congrArg (fun t => { s.bundles with table := t }) (List.map_congr_left fun b _ => ?_)
    by_cases hb : b.number = r.bundle
    · simp [hb, leavePlace, enteredCounts]
    · simp [hb]

theorem bundles_enterRecord_new {h : Fin 16} (hn : findBundle r.bundle s = none) :
    (enterRecord src r plan (some h) s).bundles = {
      bays := s.bundles.bays.set h (some r.bundle)
      table := insertBundle { newBundle r.bundle h s with inFlight := 1 } s.bundles.table } := by
  have hother := unnumbered_of_findBundle hn
  have hbefore : (pieceMade src r plan s).bundles = s.bundles := by
    cases src with
    | queue => rfl
    | lane => exact congrArg (fun t => { s.bundles with table := t }) (map_of_unnumbered hother)
  have hnew : newBundle r.bundle h (pieceMade src r plan s) = newBundle r.bundle h s := by
    have hstate : createdState r.bundle (pieceMade src r plan s) = createdState r.bundle s := by
      cases src <;> rfl
    rw [newBundle, hstate]
    rfl
  have hstep : (enterBundle r (some h) (pieceMade src r plan s)).bundles = {
      bays := (pieceMade src r plan s).bundles.bays.set h (some r.bundle)
      table := (insertBundle (newBundle r.bundle h (pieceMade src r plan s)) (pieceMade src r plan s).bundles.table).map
        fun b => if b.number = r.bundle then { b with inFlight := b.inFlight + 1 } else b } := rfl
  have hnumber (b : Bundle) : (if b.number = r.bundle then { b with inFlight := b.inFlight + 1 } else b).number =
      b.number := by
    split <;> rfl
  rw [bundles_enterRecord, hstep, hnew, hbefore, map_insertBundle hnumber, map_of_unnumbered hother,
    if_pos (show (newBundle r.bundle h s).number = r.bundle from rfl)]
  rfl

theorem createdState_eq (h : s.store.jobState ≠ .aborting) (n : Nat) :
    createdState n s = if n < s.store.loadMark ∨ s.store.jobState = .ended then .sealed else .filling := by
  rw [createdState]
  refine if_congr (or_congr Iff.rfl ?_) rfl rfl
  simp [jobFinishing, h]

/-! ## The record that enters -/

theorem entry_enterRecord (bay : Option (Fin 16)) : (enterRecord src r plan bay s).entry = { s.entry with
    nextTag := if s.entry.nextTag = 65535 then 1 else s.entry.nextTag + 1, starving := false,
    itemUnavailable := false, result := .entered, awaitingBay := none } := by
  cases src <;> cases bay <;>
    simp [enterRecord, setResultOfEntry, endEpisodes, issueOrder, enterBundle, createBundle, makePiece, tagAfter,
      Config.lastTag]

theorem carrier_enterRecord (bay : Option (Fin 16)) : (enterRecord src r plan bay s).carrier = { s.carrier with
    queue := s.carrier.queue ++ [{ number := s.carrier.nextOrder, tag := s.entry.nextTag, state := .issued }],
    nextOrder := if s.carrier.nextOrder = 16777215 then 1 else s.carrier.nextOrder + 1 } := by
  have hissue (u : State) (tag : Nat) : (issueOrder tag r u).carrier = { u.carrier with
      queue := u.carrier.queue ++ [{ number := u.carrier.nextOrder, tag := tag, state := .issued }],
      nextOrder := orderAfter u.carrier.nextOrder } := by
    simp [issueOrder]
  have hcarrier : (enterRecord src r plan bay s).carrier =
      (issueOrder s.entry.nextTag r (enterBundle r bay (pieceMade src r plan s))).carrier := by
    rw [enterRecord_eq]
    rfl
  rw [hcarrier, hissue]
  cases src <;> cases bay <;> rfl

theorem txQueue_enterRecord (bay : Option (Fin 16)) (h : (txQueue .carrier s).length < 32) :
    txQueue .carrier (enterRecord src r plan bay s) = txQueue .carrier s ++ [printFrame s.carrier.nextOrder r] := by
  have hbefore : (enterBundle r bay (pieceMade src r plan s)).link = s.link ∧
      (enterBundle r bay (pieceMade src r plan s)).carrier = s.carrier := by
    cases src <;> cases bay <;> simp [enterBundle, createBundle, pieceMade, makePiece, handOver]
  have hqueue : txQueue .carrier (enterRecord src r plan bay s) =
      txQueue .carrier (issueOrder s.entry.nextTag r (enterBundle r bay (pieceMade src r plan s))) := by
    rw [enterRecord_eq, txQueue, portState, link_entered]
    rfl
  obtain ⟨hlink, hcarrier⟩ := hbefore
  rw [hqueue]
  generalize enterBundle r bay (pieceMade src r plan s) = u at hlink hcarrier
  have hsame : txQueue .carrier u = txQueue .carrier s := by rw [txQueue, portState, hlink]; rfl
  rw [← hsame] at h ⊢
  rw [issueOrder, ← hcarrier]
  exact txQueue_post_same (decide_eq_true h)

/-- The entry event of a record that is offered, planned and has a bay is its entry. -/
theorem entryEvent_of_offered (ha : Admitted s) (ho : IsOffered src r s) (hp : planItems s (itemsOf r.items) = some plan)
    (hbay : (findBundle r.bundle s).isSome = true ∨ ∃ h, LowestFreeBay h s) :
    ∃ bay, entryEvent s = enterRecord src r plan bay s ∧
      (∀ x, findBundle r.bundle s = some x → bay = none) ∧
      ∀ h, findBundle r.bundle s = none → LowestFreeBay h s → bay = some h := by
  have hcheck : entryEvent s = checkBay src r plan s := by
    rw [entryEvent_of_admitted ha, chooseRecord_of_offered ho, checkItems_of_plan hp]
  cases hb : findBundle r.bundle s with
  | some x => exact ⟨none, hcheck.trans (checkBay_of_known (by rw [hb]; rfl)), fun _ _ => rfl, fun _ h => (nomatch h)⟩
  | none =>
    obtain ⟨h, hh⟩ := hbay.resolve_left (by simp [hb])
    refine ⟨some h, hcheck.trans (checkBay_of_free hb hh), fun _ h => (nomatch h), fun k _ hk => ?_⟩
    exact (head_freeBays_eq_some_iff.mpr hh).symm.trans (head_freeBays_eq_some_iff.mpr hk)

end

/-- Settles O31: the usable stations and the plans, and the entry by what each of its steps writes. -/
theorem offeredRecordEnters : Obligations.OfferedRecordEnters := by
  refine ⟨fun x => ⟨pairwise_itemsOf x, fun n => mem_itemsOf⟩,
    fun items s => ⟨fun item i => usableStation_eq_some_iff, planItems_eq_none_iff, fun plan => planItems_eq_some_iff⟩,
    fun src r plan s hlen hreg hlock ho hmode horders hroom hp hbay => ?_⟩
  have hgate : s.run.gate = .opened ∨ s.run.gate = .drain := by
    obtain ⟨-, -, hsrc⟩ := ho
    cases src with
    | lane => exact hsrc.2
    | queue => exact .inl hsrc.2.2.1
  obtain ⟨bay, hevent, hknown, hnew⟩ := entryEvent_of_offered ⟨hreg, hlock, hgate, hmode, horders, hroom⟩ ho hp hbay
  obtain ⟨-, hjob, -⟩ := ho
  have hother (q : Nat) (hq : 0 < q) : entryAt q (entryEvent s) = entryAt q s := entryAt_entryEvent hq.ne' s
  rw [hevent] at hother ⊢
  refine ⟨?_, entry_enterRecord bay, carrier_enterRecord bay, txQueue_enterRecord bay hroom,
    store_enterRecord src r plan bay s, ?_, fun x hx => ?_, fun h hn hh => ?_, hother, by simp⟩
  · rw [entryAt, track_enterRecord]
    exact List.getElem?_set_self hlen
  · rw [placeOf, store_enterRecord, placeOf_insertPlace]
    rfl
  · rw [hknown x hx, bundles_enterRecord_known]
    cases src <;> rfl
  · rw [hnew h hn hh, bundles_enterRecord_new hn, ← createdState_eq hjob]
    rfl

end Sys2Proof.Machine


/-! SET GEOMETRY and its effects on the count, the track, the gate due and the mismatch run (R18, R30 to R33, R91, R116,
R128). -/

namespace Sys2Proof.Machine

/-! ## The track with another number of positions -/

/-- A track with g+1 positions (R91). -/
def resized (g : Nat) (t : List TrackEntry) : List TrackEntry :=
  if g + 1 < t.length then t.take (g + 1) else t.map keptEntry ++ emptyPositions (g + 1 - t.length)

theorem resizeTrack_eq (g : Nat) (s : State) : resizeTrack g s = s.setTrack (resized g s.track) := by
  unfold resizeTrack resized
  split <;> rfl

theorem length_resized (g : Nat) (t : List TrackEntry) : (resized g t).length = g + 1 := by
  unfold resized
  split
  · rw [List.length_take]
    omega
  · rw [List.length_append, List.length_map, emptyPositions, List.length_replicate]
    omega

theorem resized_nil (g : Nat) : resized g [] = List.replicate (g + 1) (.empty none 0) := rfl

theorem getElem?_resized_old {g old q : Nat} {t : List TrackEntry} {e : TrackEntry} (ht : t.length = old + 1)
    (hne : old ≠ g) (hq : q ≤ g) (he : t[q]? = some e) :
    (resized g t)[q]? = some (if old < g then keptEntry e else e) := by
  obtain ⟨hlt, -⟩ := List.getElem?_eq_some_iff.mp he
  unfold resized
  by_cases h : g + 1 < t.length
  · rw [if_pos h, if_neg (by omega), List.getElem?_take, if_pos (by omega), he]
  · rw [if_neg h, if_pos (by omega), List.getElem?_append_left (by simpa using hlt), List.getElem?_map, he]
    rfl

theorem getElem?_resized_new {g old q : Nat} {t : List TrackEntry} (ht : t.length = old + 1) (hold : old < q)
    (hq : q ≤ g) : (resized g t)[q]? = some (.empty none 0) := by
  unfold resized
  rw [if_neg (by omega), List.getElem?_append_right (by simp; omega), List.length_map, emptyPositions,
    List.getElem?_replicate, if_pos (by omega)]

/-! ## The count -/

section
variable {old new : Geometry} {s : State}

/-- The count restarted where P, L or the divider changes (R18). -/
def countMoved (old new : Geometry) (s : State) : State := if changesCount old new then restartCount s else s

/-- The mismatch run reset where v changes (R116). -/
def verifyMoved (old new : Geometry) (s : State) : State :=
  if old.verify = new.verify then s else s.setVerify { mismatchRun := 0 }

theorem applyGeometry_eq (old new : Geometry) (s : State) : applyGeometry old new s =
    verifyMoved old new (changeGatePosition old.gate new.gate (countMoved old new s)) := rfl

theorem countMoved_keeps (old new : Geometry) (s : State) : (countMoved old new s).run = s.run ∧
    (countMoved old new s).setup = s.setup ∧ (countMoved old new s).store = s.store ∧
    (countMoved old new s).entry = s.entry ∧ (countMoved old new s).track = s.track ∧
    (countMoved old new s).carrier = s.carrier ∧ (countMoved old new s).verify = s.verify ∧
    (countMoved old new s).disp = s.disp ∧ (countMoved old new s).bundles = s.bundles ∧
    (countMoved old new s).fault = s.fault := by
  unfold countMoved
  split
  · simp
  · simp

theorem changesCount_iff (g : Geometry) (s : State) (hg : ItemsFit g) :
    changesCount (geometryItems s) g = true ↔ Restarts g s := by
  simp only [changesCount, Bool.or_eq_true, decide_eq_true_eq, or_assoc, Restarts]
  cases h : s.setup.geometry with
  | none =>
    have hp : (geometryItems s).pitch ≠ g.pitch := by
      have hzero : (geometryItems s).pitch = 0 := by rw [geometryItems, h]; rfl
      obtain ⟨-, ⟨hpitch, -⟩, -⟩ := hg
      omega
    exact ⟨fun _ _ h => (nomatch h), fun _ => .inl hp⟩
  | some k =>
    have hk : geometryItems s = k := by rw [geometryItems, h]; rfl
    rw [hk]
    exact ⟨fun hc _ he => Option.some.inj he ▸ hc, fun hc => hc k rfl⟩

theorem restartCount_of_unregistered (h : s.reg.state = .unregistered) :
    restartCount s = releaseAllPulses (s.setReg (restarted s.reg)) := if_pos h

theorem restartCount_of_other (h : s.reg.state ≠ .unregistered) : restartCount s =
    postState (.registration .unregistered) (releaseAllPulses (s.setReg (restarted s.reg))) := if_neg h

theorem restartCount_lines (s : State) :
    (restartCount s).lines = .released ∧ (restartCount s).callOutstanding = Vector.replicate 12 false := by
  by_cases h : s.reg.state = .unregistered
  · rw [restartCount_of_unregistered h]
    exact ⟨rfl, rfl⟩
  · rw [restartCount_of_other h]
    exact ⟨by simp [releaseAllPulses], by simp [releaseAllPulses]⟩

theorem Grows.restartCount (s : State) : Grows s (restartCount s) := by
  by_cases h : s.reg.state = .unregistered
  · rw [restartCount_of_unregistered h]
    exact .of_link rfl
  · rw [restartCount_of_other h]
    exact (Grows.postState _ _).from_link rfl

theorem Grows.countMoved (old new : Geometry) (s : State) : Grows s (countMoved old new s) := by
  unfold Machine.countMoved
  split
  · exact Grows.restartCount s
  · exact Grows.refl s

theorem Roomy.restartCount {n : Nat} (h : Roomy (n + 1) s) : Roomy n (restartCount s) := by
  have hset : Roomy (n + 1) (releaseAllPulses (s.setReg (restarted s.reg))) := h.of_link rfl
  by_cases hs : s.reg.state = .unregistered
  · rw [restartCount_of_unregistered hs]
    exact hset.mono (Nat.le_succ n)
  · rw [restartCount_of_other hs, postState_of_roomy hset]
    exact hset.announced _

theorem Roomy.countMoved {n : Nat} (h : Roomy (n + 1) s) : Roomy n (countMoved old new s) := by
  unfold Machine.countMoved
  split
  · exact h.restartCount
  · exact h.mono (Nat.le_succ n)

/-- The notice of the restarted count, where registration had left UNREGISTERED. -/
theorem queued_restartCount {n : Nat} (h : Roomy (n + 1) s) (hs : s.reg.state ≠ .unregistered) {q : Port}
    (hq : (subscription q s).state = true) :
    Queued q (stateFrame (.registration .unregistered)) s (restartCount s) := by
  have hset : Roomy (n + 1) (releaseAllPulses (s.setReg (restarted s.reg))) := h.of_link rfl
  have hsub : (subscription q (releaseAllPulses (s.setReg (restarted s.reg)))).state = true := hq
  refine queued_of_append ?_
  rw [restartCount_of_other hs, txQueue_postState hset, if_pos hsub]
  rfl

/-! ## The gate position and the gate due -/

theorem changeGatePosition_of_same (h : old.gate = new.gate) : changeGatePosition old.gate new.gate s = s := if_pos h

theorem changeGatePosition_of_clear (h : old.gate ≠ new.gate) (hd : s.disp.gateDue = none) :
    changeGatePosition old.gate new.gate s = s.setTrack (resized new.gate s.track) := by
  have hclear : clearGateDue old.gate s = s := by simp [clearGateDue, hd]
  rw [changeGatePosition, if_neg h, hclear, resizeTrack_eq]

theorem changeGatePosition_of_due (h : old.gate ≠ new.gate) : changeGatePosition old.gate new.gate s =
    (clearGateDue old.gate s).setTrack (resized new.gate s.track) := by
  have htrack : (clearGateDue old.gate s).track = s.track := by simp
  rw [changeGatePosition, if_neg h, resizeTrack_eq, htrack]

theorem changeGatePosition_keeps_count (old new : Geometry) (s : State) :
    (changeGatePosition old.gate new.gate s).reg = s.reg ∧ (changeGatePosition old.gate new.gate s).lines = s.lines ∧
    (changeGatePosition old.gate new.gate s).callOutstanding = s.callOutstanding ∧
    (changeGatePosition old.gate new.gate s).setup = s.setup ∧
    (changeGatePosition old.gate new.gate s).carrier = s.carrier ∧
    (changeGatePosition old.gate new.gate s).verify = s.verify ∧
    (changeGatePosition old.gate new.gate s).track =
      if old.gate = new.gate then s.track else resized new.gate s.track := by
  by_cases h : old.gate = new.gate
  · rw [changeGatePosition_of_same h, if_pos h]
    exact ⟨rfl, rfl, rfl, rfl, rfl, rfl, rfl⟩
  · rw [changeGatePosition_of_due h, if_neg h]
    simp

theorem Grows.sendSuspect (r : Reject) (s : State) : Grows s (sendSuspect r s) :=
  (Grows.post .delivery (suspectFrame r.tag r.bundle r.bay) s).to_link (by simp [Machine.sendSuspect])

theorem Grows.suspectReject (o : Option Reject) (s : State) : Grows s (suspectReject o s) := by
  cases o with
  | none => exact .refl s
  | some r =>
    cases hp : r.proof with
    | false => rw [suspectReject_of_plain hp]; exact Grows.sendSuspect r s
    | true =>
      rw [suspectReject_of_proof hp]
      exact ((Grows.sendSuspect r s).trans (Grows.post _ _ _)).trans (Grows.giveUpProof _ _)

theorem Grows.clearGateDue (g : Nat) (s : State) : Grows s (clearGateDue g s) := by
  cases hd : s.disp.gateDue with
  | none =>
    have hclear : Machine.clearGateDue g s = s := by simp [Machine.clearGateDue, hd]
    rw [hclear]
    exact .refl s
  | some d =>
    rw [clearGateDue_of_some g hd]
    refine Grows.trans ((Grows.raise _ (s.setDisp { s.disp with gateDue := none })).from_link rfl)
      (Grows.suspectReject _ _)

theorem Grows.changeGatePosition (old new : Geometry) (s : State) :
    Grows s (changeGatePosition old.gate new.gate s) := by
  by_cases h : old.gate = new.gate
  · rw [changeGatePosition_of_same h]
    exact .refl s
  · rw [changeGatePosition_of_due h]
    exact (Grows.clearGateDue _ s).to_link rfl

theorem verifyMoved_keeps (old new : Geometry) (s : State) : (verifyMoved old new s).reg = s.reg ∧
    (verifyMoved old new s).lines = s.lines ∧ (verifyMoved old new s).callOutstanding = s.callOutstanding ∧
    (verifyMoved old new s).setup = s.setup ∧ (verifyMoved old new s).carrier = s.carrier ∧
    (verifyMoved old new s).track = s.track ∧ (verifyMoved old new s).entry = s.entry ∧
    (verifyMoved old new s).store = s.store ∧ (verifyMoved old new s).bundles = s.bundles ∧
    (verifyMoved old new s).disp = s.disp ∧ (verifyMoved old new s).fault = s.fault ∧
    (verifyMoved old new s).run = s.run ∧ (verifyMoved old new s).link = s.link := by
  unfold verifyMoved
  split
  · simp
  · simp

theorem verify_verifyMoved (old new : Geometry) (s : State) :
    (verifyMoved old new s).verify = if old.verify = new.verify then s.verify else { mismatchRun := 0 } := by
  unfold verifyMoved
  split <;> rfl

end

/-! ## The request -/

section
variable {p : Port} {num : Byte} {b : List Byte} {g : Geometry} {n : Nat} {s : State}

/-- The state with the new geometry in the setup store and its ACCEPT queued (R33, log 17). -/
def geometrySet (p : Port) (num : Byte) (g : Geometry) (s : State) : State :=
  accept p num ((silent p s).setSetup { s.setup with geometry := some g })

theorem geometrySet_keeps (p : Port) (num : Byte) (g : Geometry) (s : State) : (geometrySet p num g s).reg = s.reg ∧
    (geometrySet p num g s).lines = s.lines ∧ (geometrySet p num g s).callOutstanding = s.callOutstanding ∧
    (geometrySet p num g s).setup = { s.setup with geometry := some g } ∧ (geometrySet p num g s).carrier = s.carrier ∧
    (geometrySet p num g s).track = s.track ∧ (geometrySet p num g s).entry = s.entry ∧
    (geometrySet p num g s).store = s.store ∧ (geometrySet p num g s).bundles = s.bundles ∧
    (geometrySet p num g s).disp = s.disp ∧ (geometrySet p num g s).fault = s.fault ∧
    (geometrySet p num g s).verify = s.verify ∧ (geometrySet p num g s).run.gate = s.run.gate := by
  simp [geometrySet]

theorem Grows.silent (p : Port) (s : State) : Grows s (silent p s) := fun q => by
  rw [txQueue_silent]

theorem Grows.geometrySet (p : Port) (num : Byte) (g : Geometry) (s : State) : Grows s (geometrySet p num g s) :=
  (Grows.silent p s).trans ((Grows.post p (acceptFrame num []) _).from_link
    (t := (Machine.silent p s).setSetup { s.setup with geometry := some g }) rfl)

theorem Roomy.geometrySet {m : Nat} (h : Roomy (m + 1) s) : Roomy m (geometrySet p num g s) := by
  have hset : Roomy (m + 1) ((Machine.silent p s).setSetup { s.setup with geometry := some g }) := (h.silent p).of_link rfl
  exact hset.post _ _

theorem txQueue_geometrySet {m : Nat} (h : Roomy (m + 1) s) :
    txQueue p (geometrySet p num g s) = txQueue p s ++ [acceptFrame num []] := by
  have hset : Roomy (m + 1) ((Machine.silent p s).setSetup { s.setup with geometry := some g }) := (h.silent p).of_link rfl
  refine (txQueue_post_same (hset.room p)).trans ?_
  rw [← txQueue_silent p p s]
  rfl

theorem geometryAgrees_silent (p : Port) (g : Geometry) (s : State) :
    geometryAgrees g (silent p s) = geometryAgrees g s := by
  simp [geometryAgrees, entryAgrees, stationAt]

theorem parseGeometry_of_length (h : b.length ≠ 26) : parseGeometry b = none := if_pos h

theorem takeSetGeometry_of_holder (hc : s.run.claim = some { holder := p, elapsed := n }) :
    takeSetGeometry p num b (silent p s) = ((parseGeometry b).map fun g =>
      if setupOpen s = false then refuse p num .wrongState (silent p s)
      else if geometryAgrees g s = false then refuse p num .outOfRange (silent p s)
      else applyGeometry (geometryItems s) g (geometrySet p num g s)).getD (refuse p num .badLength (silent p s)) := by
  rw [takeSetGeometry, if_neg (by rw [isHolder_silent_of_claim hc]; decide)]
  cases parseGeometry b with
  | none => rfl
  | some g =>
    have hset : accept p num ((silent p s).setSetup { (silent p s).setup with geometry := some g }) =
        geometrySet p num g s := by
      have hsetup : (silent p s).setup = s.setup := by simp
      rw [hsetup]
      rfl
    simp only [setupOpen_silent, geometryAgrees_silent, geometryItems_silent, hset, Option.map_some, Option.getD_some]

theorem exec_setGeometry (hc : s.run.claim = some { holder := p, elapsed := n }) (hp : parseGeometry b = some g)
    (ho : setupOpen s = true) (hf : geometryAgrees g s = true) : exec (.setGeometry p num b) s =
      .next (settle (applyGeometry (geometryItems s) g (geometrySet p num g s))) := by
  have htake := takeSetGeometry_of_holder (num := num) (b := b) hc
  rw [hp, Option.map_some, Option.getD_some, if_neg (by simp [ho]), if_neg (by simp [hf])] at htake
  exact (answerMessage_settled p (takeSetGeometry p num b) s).trans (by rw [htake])

/-- What an accepted SET GEOMETRY leaves of the blocks but the gate due's. -/
structure GeometryTaken (g : Geometry) (s t : State) : Prop where
  setup : t.setup = { s.setup with geometry := some g }
  reg : t.reg = if changesCount (geometryItems s) g then restarted s.reg else s.reg
  lines : t.lines = if changesCount (geometryItems s) g then .released else s.lines
  calls : t.callOutstanding = if changesCount (geometryItems s) g then Vector.replicate 12 false else s.callOutstanding
  track : t.track = if (geometryItems s).gate = g.gate then s.track else resized g.gate s.track
  verify : t.verify = if (geometryItems s).verify = g.verify then s.verify else { mismatchRun := 0 }
  carrier : t.carrier = s.carrier

theorem geometryTaken (p : Port) (num : Byte) (g : Geometry) (s : State) :
    GeometryTaken g s (settle (applyGeometry (geometryItems s) g (geometrySet p num g s))) := by
  obtain ⟨hreg, hlines, hcalls, hsetup, hcarrier, htrack, -, -, -, -, -, hverify, -⟩ := geometrySet_keeps p num g s
  have hcount : (countMoved (geometryItems s) g (geometrySet p num g s)).reg =
        (if changesCount (geometryItems s) g then restarted s.reg else s.reg) ∧
      (countMoved (geometryItems s) g (geometrySet p num g s)).lines =
        (if changesCount (geometryItems s) g then .released else s.lines) ∧
      (countMoved (geometryItems s) g (geometrySet p num g s)).callOutstanding =
        if changesCount (geometryItems s) g then Vector.replicate 12 false else s.callOutstanding := by
    unfold countMoved
    split
    · obtain ⟨hl, hc⟩ := restartCount_lines (geometrySet p num g s)
      exact ⟨by rw [reg_restartCount, hreg], hl, hc⟩
    · exact ⟨hreg, hlines, hcalls⟩
  obtain ⟨-, csetup, -, -, ctrack, ccarrier, cverify, -⟩ :=
    countMoved_keeps (geometryItems s) g (geometrySet p num g s)
  rw [applyGeometry_eq]
  generalize countMoved (geometryItems s) g (geometrySet p num g s) = u at *
  obtain ⟨kreg, klines, kcalls, ksetup, kcarrier, kverify, ktrack⟩ :=
    changeGatePosition_keeps_count (geometryItems s) g u
  obtain ⟨vreg, vlines, vcalls, vsetup, vcarrier, vtrack, -⟩ :=
    verifyMoved_keeps (geometryItems s) g (changeGatePosition (geometryItems s).gate g.gate u)
  have vverify := verify_verifyMoved (geometryItems s) g (changeGatePosition (geometryItems s).gate g.gate u)
  rw [ctrack, htrack] at ktrack
  rw [kverify, cverify, hverify] at vverify
  generalize verifyMoved (geometryItems s) g (changeGatePosition (geometryItems s).gate g.gate u) = v at *
  exact {
    setup := Eq.trans (by simp) (vsetup.trans (ksetup.trans (csetup.trans hsetup)))
    reg := Eq.trans (by simp) (vreg.trans (kreg.trans hcount.1))
    lines := Eq.trans (by simp) (vlines.trans (klines.trans hcount.2.1))
    calls := Eq.trans (by simp) (vcalls.trans (kcalls.trans hcount.2.2))
    track := Eq.trans (by simp) (vtrack.trans ktrack)
    verify := Eq.trans (by simp) vverify
    carrier := Eq.trans (by simp) (vcarrier.trans (kcarrier.trans (ccarrier.trans hcarrier))) }

theorem grows_applyGeometry (g : Geometry) (s u : State) :
    Grows (countMoved (geometryItems s) g u) (settle (applyGeometry (geometryItems s) g u)) := by
  have hlink := (verifyMoved_keeps (geometryItems s) g (changeGatePosition (geometryItems s).gate g.gate
    (countMoved (geometryItems s) g u))).2.2.2.2.2.2.2.2.2.2.2.2
  rw [applyGeometry_eq]
  exact ((Grows.changeGatePosition _ _ _).to_link hlink).trans (Grows.settle _)

/-- Without a gate due to clear nothing but the track and the count changes. -/
theorem applyGeometry_of_clear (hr : Roomy 2 s) (hd : s.disp.gateDue = none ∨ (geometryItems s).gate = g.gate) :
    ∃ t, t = settle (applyGeometry (geometryItems s) g (geometrySet p num g s)) ∧ t.entry = s.entry ∧
      t.store = s.store ∧ t.bundles = s.bundles ∧ t.disp = s.disp ∧ t.fault = s.fault ∧ t.run.gate = s.run.gate := by
  obtain ⟨-, -, -, -, -, -, hentry, hstore, hbundles, hdisp, hfault, -, hgate⟩ := geometrySet_keeps p num g s
  have hroom : Roomy 0 (countMoved (geometryItems s) g (geometrySet p num g s)) :=
    Roomy.countMoved (n := 0) (Roomy.geometrySet (m := 1) hr)
  obtain ⟨crun, -, cstore, centry, -, -, -, cdisp, cbundles, cfault⟩ :=
    countMoved_keeps (geometryItems s) g (geometrySet p num g s)
  rw [applyGeometry_eq]
  generalize countMoved (geometryItems s) g (geometrySet p num g s) = u at *
  have hmoved : ∃ x, changeGatePosition (geometryItems s).gate g.gate u = u.setTrack x := by
    by_cases h : (geometryItems s).gate = g.gate
    · exact ⟨u.track, changeGatePosition_of_same h⟩
    · refine ⟨_, changeGatePosition_of_clear h ?_⟩
      rw [cdisp, hdisp]
      exact hd.resolve_right h
  obtain ⟨x, hx⟩ := hmoved
  rw [hx]
  obtain ⟨-, -, -, -, -, -, ventry, vstore, vbundles, vdisp, vfault, vrun, vlink⟩ :=
    verifyMoved_keeps (geometryItems s) g (u.setTrack x)
  have hvroom : Roomy 0 (verifyMoved (geometryItems s) g (u.setTrack x)) := hroom.of_link vlink
  refine ⟨verifyMoved (geometryItems s) g (u.setTrack x), (settle_of_roomy hvroom).symm, ?_⟩
  exact ⟨ventry.trans (centry.trans hentry), vstore.trans (cstore.trans hstore), vbundles.trans (cbundles.trans hbundles),
    vdisp.trans (cdisp.trans hdisp), vfault.trans (cfault.trans hfault),
    (by rw [vrun]; exact crun ▸ hgate)⟩

/-- A gate due that the new geometry finds at its old gate position is taken for lost. -/
theorem applyGeometry_of_due {d : GateDue} (hd : s.disp.gateDue = some d) (hne : (geometryItems s).gate ≠ g.gate) :
    ∃ t, t = settle (applyGeometry (geometryItems s) g (geometrySet p num g s)) ∧
      t.disp = { s.disp with gateDue := none } ∧
      (actionOf .gateFail s = .stop → t.fault.stopLatch = true) ∧
      (Roomy 8 s → ∀ r, d.reject = some r → SuspectReported r s t) := by
  refine ⟨_, rfl, ?_⟩
  obtain ⟨-, -, -, -, -, -, -, hstore, hbundles, hdisp, hfault, -⟩ := geometrySet_keeps p num g s
  have hgrows := (Grows.geometrySet p num g s).trans (Grows.countMoved (geometryItems s) g _)
  have hroomy (h : Roomy 8 s) : Roomy 3 (countMoved (geometryItems s) g (geometrySet p num g s)) :=
    (Roomy.countMoved (n := 6) (Roomy.geometrySet (m := 7) h)).mono (by omega)
  obtain ⟨-, -, cstore, -, -, -, -, cdisp, cbundles, cfault⟩ :=
    countMoved_keeps (geometryItems s) g (geometrySet p num g s)
  rw [applyGeometry_eq]
  generalize countMoved (geometryItems s) g (geometrySet p num g s) = u at *
  have hdue : u.disp.gateDue = some d := by rw [cdisp, hdisp, hd]
  have haction (k : FaultKind) : actionOf k u = actionOf k s := actionOf_congr (cfault.trans hfault) k
  rw [changeGatePosition_of_due hne, clearGateDue_of_some _ hdue]
  generalize hf : ({ plainFault .gateFail .none u with
    tag := d.reject.map Reject.tag, key := d.reject.map Reject.key, bundle := d.reject.map Reject.bundle
    pocket := d.pocket, position := some (geometryItems s).gate } : FaultRecord) = f
  have hkind : f.kind = .gateFail := by rw [← hf]; rfl
  obtain ⟨-, ldisp, lfault, -⟩ := suspectReject_keeps_disp d.reject (dueLost f u)
  obtain ⟨-, -, -, -, -, -, -, vstore, vbundles, vdisp, vfault, -, vlink⟩ := verifyMoved_keeps (geometryItems s) g
    ((suspectReject d.reject (dueLost f u)).setTrack (resized g.gate u.track))
  refine ⟨?_, fun ha => ?_, fun h r hrej => ?_⟩
  · refine Eq.trans (by simp) (vdisp.trans (ldisp.trans ?_))
    simp [dueLost, cdisp, hdisp]
  · refine stopLatch_settle ?_
    have hact : actionOf f.kind (u.setDisp { u.disp with gateDue := none }) = .stop := by
      rw [hkind]
      exact (haction .gateFail).trans ha
    rw [vfault]
    refine (congrArg FaultUnit.stopLatch lfault).trans ?_
    rw [dueLost, latch_raise, hact]
    exact Bool.or_true _
  · rw [hrej] at vstore vbundles vlink ⊢
    refine (suspectReported_of_dueLost (r := r) f (hroomy h)).congr (cstore.trans hstore) (cbundles.trans hbundles) hgrows
      ?_ ?_ ?_
    · exact Eq.trans (by simp) vstore
    · exact Eq.trans (by simp) vbundles
    · exact (Grows.of_link vlink).trans (Grows.settle _)

end

section
variable {p : Port} {num : Byte} {b : List Byte} {g : Geometry} {n : Nat} {s : State}

theorem exec_setGeometry_of_refused {r : Reason} (hr : Roomy 2 s)
    (h : takeSetGeometry p num b (silent p s) = refuse p num r (silent p s)) :
    exec (.setGeometry p num b) s = .next (replied p (refuseFrame num r) s) :=
  answerMessage_reply (n := 1) hr p _ (takeSetGeometry p num b) h

theorem queued_accept_settled (hr : Roomy 2 s) : ∃ more,
    txQueue p (settle (applyGeometry (geometryItems s) g (geometrySet p num g s))) =
      txQueue p s ++ acceptFrame num [] :: more := by
  obtain ⟨more, hmore⟩ := ((Grows.countMoved (geometryItems s) g (geometrySet p num g s)).trans
    (grows_applyGeometry g s (geometrySet p num g s))).exists_append p
  refine ⟨more, hmore.trans ?_⟩
  rw [txQueue_geometrySet (m := 1) hr, List.append_assoc]
  rfl

/-- The notice of a count restarted by the new geometry. -/
theorem queued_unregistered (hr : Roomy 2 s) (hc : changesCount (geometryItems s) g = true)
    (hs : s.reg.state ≠ .unregistered) {q : Port} (hq : (subscription q s).state = true) :
    Queued q (stateFrame (.registration .unregistered)) s
      (settle (applyGeometry (geometryItems s) g (geometrySet p num g s))) := by
  obtain ⟨hreg, -, -, -, -, -, -, -, -, -, hfault, -⟩ := geometrySet_keeps p num g s
  have hroom : Roomy 1 (geometrySet p num g s) := Roomy.geometrySet (m := 1) hr
  have hsub : (subscription q (geometrySet p num g s)).state = true := by rwa [subscription, hfault]
  have hrestart := queued_restartCount (n := 0) hroom (by rwa [hreg]) hsub
  have hmoved : countMoved (geometryItems s) g (geometrySet p num g s) = restartCount (geometrySet p num g s) := if_pos hc
  have hgrows := grows_applyGeometry g s (geometrySet p num g s)
  rw [hmoved] at hgrows
  exact (hrestart.front (Grows.geometrySet p num g s)).mono hgrows

theorem GeometryTaken.length_track {t : State} (h : GeometryTaken g s t) (hs : TrackFitsGeometry s) (hg : ItemsFit g) :
    t.track.length = g.gate + 1 := by
  obtain ⟨-, hlen⟩ := (trackFits_iff s).mp hs
  rw [h.track]
  split
  · next he =>
    cases hk : s.setup.geometry with
    | none =>
      have hzero : (geometryItems s).gate = 0 := by rw [geometryItems, hk]; rfl
      obtain ⟨-, -, -, -, -, ⟨hgate, -⟩, -⟩ := hg
      omega
    | some k =>
      have hgeo : geometryItems s = k := by rw [geometryItems, hk]; rfl
      rw [hlen, hk, ← he, hgeo]
      rfl
  · exact length_resized _ _

end

/-- Settles O19: the refusals in their order, and the accepted geometry through the count, the gate position and v. -/
theorem geometryIsReplacedWhole : Obligations.GeometryIsReplacedWhole := by
  intro p num b g n s hr
  refine ⟨fun h => geometryInRange_iff h, geometryAgrees_iff g s, fun hc hp hfits => ⟨fun c hlen => ?_,
    fun hgate hnone hg => ?_, fun hshut => ?_, fun hgate hnone hg => ?_⟩⟩
  · refine exec_setGeometry_of_refused hr ?_
    rw [takeSetGeometry_of_holder hc, parseGeometry_of_length hlen]
    rfl
  · have hopen := (setupOpen_iff s).mpr ⟨hgate, hnone⟩
    have htaken := geometryTaken p num g s
    have hcount := changesCount_iff g s hg.1
    refine ⟨_, exec_setGeometry hc hp hopen ((geometryAgrees_iff g s).mpr hg), htaken.setup, queued_accept_settled hr,
      fun h => ?_, fun h => ?_, htaken.length_track hfits hg.1, fun hk => ?_, fun h hk => ?_, htaken.verify, htaken.carrier,
      fun hd => ?_, fun d hd hne => ?_⟩
    · have hchanges := hcount.mpr h
      refine ⟨htaken.reg.trans (if_pos hchanges), htaken.lines.trans (if_pos hchanges),
        htaken.calls.trans (if_pos hchanges), fun hs q hq => queued_unregistered hr hchanges hs hq⟩
    · have hsame : ¬changesCount (geometryItems s) g = true := fun hc => h (hcount.mp hc)
      exact ⟨htaken.reg.trans (if_neg hsame), htaken.lines.trans (if_neg hsame), htaken.calls.trans (if_neg hsame)⟩
    · have hzero : (geometryItems s).gate = 0 := by rw [geometryItems, hk]; rfl
      have hne : (geometryItems s).gate ≠ g.gate := by
        obtain ⟨⟨-, -, -, -, -, ⟨h4, -⟩, -⟩, -⟩ := hg
        omega
      have hempty : s.track = [] := by
        obtain ⟨-, hlen⟩ := (trackFits_iff s).mp hfits
        rw [hk] at hlen
        exact List.eq_nil_of_length_eq_zero hlen
      rw [htaken.track, if_neg hne, hempty, resized_nil]
    · have hgeo : geometryItems s = h := by rw [geometryItems, hk]; rfl
      have hlen : s.track.length = h.gate + 1 := by
        obtain ⟨-, hlen⟩ := (trackFits_iff s).mp hfits
        rw [hlen, hk]
        rfl
      have hgateOf : (geometryItems s).gate = h.gate := by rw [hgeo]
      have htrack : (settle (applyGeometry (geometryItems s) g (geometrySet p num g s))).track =
          if h.gate = g.gate then s.track else resized g.gate s.track := by
        rw [htaken.track, hgateOf]
      refine ⟨fun he => htrack.trans (if_pos he), fun q e hq hqg he => ?_, fun q hold hq => ?_⟩
      · rw [htrack]
        by_cases hsame : h.gate = g.gate
        · rw [if_pos hsame, he]
          cases e with
          | gated pocket tag => exact congrArg some (if_neg (by omega)).symm
          | _ => rfl
        · rw [if_neg hsame, getElem?_resized_old hlen hsame hqg he]
          cases e with
          | gated pocket tag => rfl
          | _ => exact congrArg some (ite_self _)
      · rw [htrack, if_neg (by omega), getElem?_resized_new hlen hold hq]
    · obtain ⟨t, rfl, ht⟩ := applyGeometry_of_clear (p := p) (num := num) hr hd
      exact ht
    · obtain ⟨t, rfl, ht⟩ := applyGeometry_of_due (p := p) (num := num) hd hne
      exact ht
  · have hopen : setupOpen s = false :=
      (setupOpen_eq_false_iff s).mpr fun ⟨hgate, hnone⟩ => hshut.elim (fun h => h hgate) fun h => h hnone
    refine exec_setGeometry_of_refused hr ?_
    rw [takeSetGeometry_of_holder hc, hp, Option.map_some, Option.getD_some, if_pos hopen]
  · have hopen := (setupOpen_iff s).mpr ⟨hgate, hnone⟩
    have hagrees : geometryAgrees g s = false := by
      rw [← Bool.not_eq_true, geometryAgrees_iff]
      exact hg
    refine exec_setGeometry_of_refused hr ?_
    rw [takeSetGeometry_of_holder hc, hp, Option.map_some, Option.getD_some, if_neg (by simp [hopen]), if_pos hagrees]

end Sys2Proof.Machine


/-! LOAD: its checks, the record it appends, and the sealing of the bundles below a raised load mark (R48, R49, R50, R139
to R141). -/

namespace Sys2Proof.Machine

/-! ## One bundle sealed -/

/-- Nothing of a bundle stands in a queue, in the lane or on the track (R140). -/
def exhausted (q : List Record) (b : Bundle) : Bool :=
  decide ((∀ y ∈ q, y.bundle ≠ b.number) ∧ b.inFlight = 0 ∧ b.inLane = 0)

/-- Nothing of a bundle was delivered or is suspect (R141). -/
def bare (b : Bundle) : Bool := decide (b.delivered = 0 ∧ b.suspects = 0)

/-- The sealing of a bundle from FILLING finds it ready to close (R139, R140). -/
def closesSealed (q : List Record) (b : Bundle) : Bool := decide (b.state = .filling) && exhausted q b

/-- A bundle's entry after it was sealed, with the close check made; none where it is emptied (R139 to R141). -/
def sealedEntry (q : List Record) (b : Bundle) : Option Bundle :=
  if closesSealed q b then
    if bare b then none else some { b with state := .closing, tieTimer := some 0 }
  else if b.state = .filling then some { b with state := .sealed } else some b

/-- The notices to a port from the sealing of a bundle (R141). -/
def sealNotices (p : Port) (q : List Record) (b : Bundle) : List Frame :=
  if closesSealed q b then
    if bare b then if p = .address then [bundleEmptyFrame b.number] else []
    else if p = .delivery then [breakFrame b.number b.bay b.delivered] else []
  else []

/-- A table after the sealing of several bundles. -/
def sealedTable (ns : List Nat) (q : List Record) (t : List Bundle) : List Bundle :=
  t.filterMap fun b => if b.number ∈ ns then sealedEntry q b else some b

/-- The sealing of a bundle by its number empties it. -/
def emptiedBySeal (n : Nat) (s : State) : Bool :=
  (findBundle n s).any fun b => closesSealed s.store.queue b && bare b

/-- The notices to a port from the sealing of several bundles, in their order. -/
def sealingNotices (p : Port) (ns : List Nat) (s : State) : List Frame :=
  ns.flatMap fun n => (findBundle n s).elim [] (sealNotices p s.store.queue)

/-- Several bundles are sealed at `t`, and no message was lost. -/
structure Sealed (ns : List Nat) (s t : State) : Prop where
  store : t.store = s.store
  run : t.run = s.run
  table : t.bundles.table = sealedTable ns s.store.queue s.bundles.table
  bays : ∀ h : Fin 16, t.bundles.bays[h] =
    if ∃ n ∈ ns, emptiedBySeal n s = true ∧ s.bundles.bays[h] = some n then none else s.bundles.bays[h]
  tx : ∀ p, txQueue p t = txQueue p s ++ sealingNotices p ns s
  roomy : ∀ k, Roomy (k + ns.length) s → Roomy k t
  other : ∀ m, m ∉ ns → findBundle m t = findBundle m s

section
variable {n : Nat} {ns : List Nat} {x : Bundle} {s t u : State}

theorem Sealed.refl (s : State) : Sealed [] s s where
  store := rfl
  run := rfl
  table := by simp [sealedTable]
  bays := by simp
  tx := by simp [sealingNotices]
  roomy := fun _ hr => hr
  other := fun _ _ => rfl

theorem number_of_sealedEntry {q : List Record} {y : Bundle} (h : sealedEntry q x = some y) : y.number = x.number := by
  unfold sealedEntry at h
  split at h
  · split at h
    · simp at h
    · rw [← Option.some.inj h]
  · split at h <;> rw [← Option.some.inj h]

theorem sealedTable_cons (hn : n ∉ ns) (q : List Record) (l : List Bundle) :
    sealedTable ns q (sealedTable [n] q l) = sealedTable (n :: ns) q l := by
  simp only [sealedTable, List.filterMap_filterMap]
  refine List.filterMap_congr fun b _ => ?_
  by_cases hb : b.number = n
  · simp only [hb, if_true, List.mem_cons, true_or]
    cases he : sealedEntry q b with
    | none => rfl
    | some y => simp [number_of_sealedEntry he, hb, hn]
  · simp [hb]

/-- Bundles sealed one after another. -/
theorem Sealed.cons (hn : n ∉ ns) (h : Sealed [n] s t) (h' : Sealed ns t u) : Sealed (n :: ns) s u := by
  have hfind (m : Nat) (hm : m ∈ ns) : findBundle m t = findBundle m s :=
    h.other m fun hmn => hn (List.mem_singleton.mp hmn ▸ hm)
  have hempties (m : Nat) (hm : m ∈ ns) : emptiedBySeal m t = emptiedBySeal m s := by
    simp only [emptiedBySeal, hfind m hm, h.store]
  refine ⟨h'.store.trans h.store, h'.run.trans h.run, ?_, fun i => ?_, fun p => ?_, fun k hr => ?_,
    fun m hm => ?_⟩
  · rw [h'.table, h.table, h.store, sealedTable_cons hn]
  · by_cases hfreed : ∃ m ∈ [n], emptiedBySeal m s = true ∧ s.bundles.bays[i] = some m
    · have ht : t.bundles.bays[i] = none := (h.bays i).trans (if_pos hfreed)
      obtain ⟨m, hm, hempty⟩ := hfreed
      rw [h'.bays, ht, ite_self, if_pos ⟨m, List.mem_singleton.mp hm ▸ List.mem_cons_self, hempty⟩]
    · have ht : t.bundles.bays[i] = s.bundles.bays[i] := (h.bays i).trans (if_neg hfreed)
      rw [h'.bays, ht]
      refine if_congr ⟨?_, ?_⟩ rfl rfl
      · rintro ⟨m, hm, hempty, hbay⟩
        exact ⟨m, List.mem_cons_of_mem n hm, (hempties m hm).symm.trans hempty, hbay⟩
      · rintro ⟨m, hm, hempty, hbay⟩
        rcases List.mem_cons.mp hm with rfl | hm
        · exact absurd ⟨m, List.mem_cons_self, hempty, hbay⟩ hfreed
        · exact ⟨m, hm, (hempties m hm).trans hempty, hbay⟩
  · have hlater : sealingNotices p ns t = sealingNotices p ns s :=
      List.flatMap_congr fun m hm => by rw [hfind m hm, h.store]
    rw [h'.tx, h.tx, hlater, List.append_assoc]
    simp [sealingNotices]
  · exact h'.roomy k (h.roomy _ (by rwa [List.length_cons, ← Nat.add_assoc] at hr))
  · exact (h'.other m fun hmn => hm (List.mem_cons_of_mem n hmn)).trans
      (h.other m fun hmn => hm (List.mem_singleton.mp hmn ▸ List.mem_cons_self))

/-- In a table of distinct numbers the sealing of one bundle concerns the one entry. -/
theorem sealedTable_singleton (hnd : (bundleNumbers s).Nodup) (hx : findBundle n s = some x) (q : List Record) :
    sealedTable [n] q s.bundles.table =
      s.bundles.table.filterMap fun b => if b.number = n then sealedEntry q x else some b := by
  refine List.filterMap_congr fun b hb => ?_
  by_cases hbn : b.number = n
  · have hbx : b = x :=
      eq_of_mem_of_nodup hnd hb (List.mem_of_find?_eq_some hx) (hbn.trans (findBundle_number hx).symm)
    simp [hbx, findBundle_number hx]
  · simp [hbn]

theorem sealed_of_none (h : findBundle n s = none) : Sealed [n] s s where
  store := rfl
  run := rfl
  table := by
    refine (List.filterMap_some (l := s.bundles.table)).symm.trans (List.filterMap_congr fun b hb => ?_)
    simp [findBundle_eq_none_iff.mp h b hb]
  bays := fun i => by simp [emptiedBySeal, h]
  tx := fun p => by simp [sealingNotices, h]
  roomy := fun _ hr => hr.mono (Nat.le_add_right _ _)
  other := fun _ _ => rfl

theorem sealed_of_not_filling (hnd : (bundleNumbers s).Nodup) (hx : findBundle n s = some x) (h : x.state ≠ .filling) :
    Sealed [n] s s where
  store := rfl
  run := rfl
  table := by
    rw [sealedTable_singleton hnd hx]
    refine (List.filterMap_some (l := s.bundles.table)).symm.trans (List.filterMap_congr fun b hb => ?_)
    by_cases hbn : b.number = n
    · have hbx : b = x :=
        eq_of_mem_of_nodup hnd hb (List.mem_of_find?_eq_some hx) (hbn.trans (findBundle_number hx).symm)
      simp [sealedEntry, closesSealed, h, hbx]
    · simp [hbn]
  bays := fun i => by simp [emptiedBySeal, hx, closesSealed, h]
  tx := fun p => by simp [sealingNotices, hx, sealNotices, closesSealed, h]
  roomy := fun _ hr => hr.mono (Nat.le_add_right _ _)
  other := fun _ _ => rfl

/-- A bundle's entry with its state SEALED. -/
def sealState (n : Nat) (s : State) : State := updateBundle n (fun b => { b with state := .sealed }) s

theorem findBundle_sealState (hx : findBundle n s = some x) :
    findBundle n (sealState n s) = some { x with state := .sealed } := by
  rw [sealState, findBundle_updateBundle_same (by exact fun _ => rfl), hx]
  rfl

theorem closeReady_sealed (x : Bundle) (s : State) :
    closeReady { x with state := .sealed } (sealState n s) = exhausted s.store.queue x := by
  rw [Bool.eq_iff_iff, closeReady_iff, exhausted, decide_eq_true_eq]
  simp [sealState, updateBundle]

theorem sealBundle_of_filling (hx : findBundle n s = some x) (h : x.state = .filling) :
    sealBundle n s = closeCheck n (sealState n s) := by
  simp [sealBundle, hx, h, sealState]

theorem findBundle_sealBundle_other {m : Nat} (h : m ≠ n) (hx : findBundle n s = some x) (hf : x.state = .filling) :
    findBundle m (sealBundle n s) = findBundle m s := by
  rw [sealBundle_of_filling hx hf, findBundle_closeCheck_other h]
  exact findBundle_updateBundle_other (by exact fun _ => rfl) h

/-- A bundle with something left is sealed and stays. -/
theorem sealed_of_left (hnd : (bundleNumbers s).Nodup) (hx : findBundle n s = some x) (hf : x.state = .filling)
    (h : exhausted s.store.queue x = false) : Sealed [n] s (sealBundle n s) := by
  have heq : sealBundle n s = sealState n s := by
    rw [sealBundle_of_filling hx hf, closeCheck_of_not_ready (findBundle_sealState hx) (by simp [closeReady_sealed, h])]
  have hcloses : closesSealed s.store.queue x = false := by simp [closesSealed, h]
  refine ⟨by rw [heq]; rfl, by rw [heq]; rfl, ?_, fun i => ?_, fun p => ?_,
    fun k hr => by rw [heq]; exact (hr.mono (Nat.le_add_right _ _)).of_link rfl,
    fun m hm => findBundle_sealBundle_other (by simpa using hm) hx hf⟩
  · rw [sealedTable_singleton hnd hx, heq, sealState, updateBundle, State.setBundles_bundles, ← List.filterMap_eq_map]
    refine List.filterMap_congr fun b hb => ?_
    by_cases hbn : b.number = n
    · have hbx : b = x :=
        eq_of_mem_of_nodup hnd hb (List.mem_of_find?_eq_some hx) (hbn.trans (findBundle_number hx).symm)
      subst hbx
      simp [sealedEntry, hcloses, hf, hbn]
    · simp [hbn]
  · rw [heq]
    simp [emptiedBySeal, hx, hcloses, sealState, updateBundle]
  · rw [heq]
    simp [sealingNotices, sealNotices, hx, hcloses, sealState, txQueue, portState]

/-- A bundle with nothing left of which something was delivered or is suspect is broken. -/
theorem sealed_of_broken (hnd : (bundleNumbers s).Nodup) (hx : findBundle n s = some x) (hf : x.state = .filling)
    (h : exhausted s.store.queue x = true) (hb : bare x = false) (hr : txHasRoom .delivery s = true) :
    Sealed [n] s (sealBundle n s) := by
  have hnumber := findBundle_number hx
  have hcloses : closesSealed s.store.queue x = true := by simp [closesSealed, h, hf]
  have hsome : ¬(x.delivered = 0 ∧ x.suspects = 0) := by simpa [bare] using hb
  have heq : sealBundle n s = updateBundle n (fun b => { b with state := .closing, tieTimer := some 0 })
      (post .delivery (breakFrame x.number x.bay x.delivered) (sealState n s)) := by
    rw [sealBundle_of_filling hx hf, closeCheck_of_ready (findBundle_sealState hx) (by simp [closeReady_sealed, h]),
      closeBundle_of_some (x := { x with state := .sealed }) hsome]
    exact congrArg (fun m => updateBundle m _ _) hnumber
  refine ⟨by rw [heq]; simp [sealState, updateBundle], by rw [heq]; simp [sealState, updateBundle], ?_, fun i => ?_,
    fun p => ?_,
    fun k hr => by rw [heq]; exact (Roomy.post (s := sealState n s) (hr.of_link rfl) _ _).of_link rfl, fun m hm => findBundle_sealBundle_other (by simpa using hm) hx hf⟩
  · rw [sealedTable_singleton hnd hx, heq]
    simp only [sealState, updateBundle, State.setBundles_bundles, post_keeps]
    rw [List.map_map, ← List.filterMap_eq_map]
    refine List.filterMap_congr fun b hb' => ?_
    by_cases hbn : b.number = n
    · have hbx : b = x :=
        eq_of_mem_of_nodup hnd hb' (List.mem_of_find?_eq_some hx) (hbn.trans hnumber.symm)
      subst hbx
      simp [sealedEntry, hcloses, hb, hbn]
    · simp [hbn]
  · rw [heq]
    simp [emptiedBySeal, hx, hb, sealState, updateBundle]
  · have hq : txQueue p (sealBundle n s) =
        txQueue p (post .delivery (breakFrame x.number x.bay x.delivered) (sealState n s)) := by rw [heq]; rfl
    have hnotices : sealingNotices p [n] s = if p = .delivery then [breakFrame x.number x.bay x.delivered] else [] := by
      simp [sealingNotices, sealNotices, hx, hcloses, hb]
    rw [hq, hnotices]
    by_cases hp : p = .delivery
    · rw [hp, if_pos rfl, txQueue_post_same (s := sealState n s) hr]
      rfl
    · rw [if_neg hp, txQueue_post_other _ _ hp, List.append_nil]
      rfl

/-- A bundle with nothing left of which nothing was delivered and nothing is suspect is emptied. -/
theorem sealed_of_emptied (hnd : (bundleNumbers s).Nodup) (hj : jobFinishing s = false) (hx : findBundle n s = some x)
    (hf : x.state = .filling) (h : exhausted s.store.queue x = true) (hb : bare x = true)
    (hr : txHasRoom .address s = true) : Sealed [n] s (sealBundle n s) := by
  have hnumber := findBundle_number hx
  have hcloses : closesSealed s.store.queue x = true := by simp [closesSealed, h, hf]
  obtain ⟨hdelivered, hsuspects⟩ : x.delivered = 0 ∧ x.suspects = 0 := by simpa [bare] using hb
  have heq : sealBundle n s = post .address (bundleEmptyFrame x.number) (removeBundle n (sealState n s)) := by
    rw [sealBundle_of_filling hx hf, closeCheck_of_ready (findBundle_sealState hx) (by simp [closeReady_sealed, h]),
      closeBundle_of_none (x := { x with state := .sealed }) hdelivered hsuspects, completionCheck_of_not_ready]
    · rw [hnumber]
    · have hjob : jobFinishing (post .address (bundleEmptyFrame x.number) (removeBundle x.number (sealState n s))) =
          jobFinishing s := by simp [jobFinishing, removeBundle, sealState, updateBundle]
      simp [completionReady, hjob, hj]
  refine ⟨by rw [heq]; simp [sealState, updateBundle, removeBundle], by rw [heq]; simp [sealState, updateBundle, removeBundle],
    ?_, fun i => ?_, fun p => ?_,
    fun k hr => by rw [heq]; exact Roomy.post (s := removeBundle n (sealState n s)) (hr.of_link rfl) _ _,
    fun m hm => findBundle_sealBundle_other (by simpa using hm) hx hf⟩
  · rw [sealedTable_singleton hnd hx, heq]
    simp only [sealState, updateBundle, removeBundle, State.setBundles_bundles, post_keeps]
    rw [← List.filterMap_eq_filter, ← List.filterMap_eq_map, List.filterMap_filterMap]
    refine List.filterMap_congr fun b _ => ?_
    by_cases hbn : b.number = n
    · simp [sealedEntry, hcloses, hb, hbn, Option.guard]
    · simp [hbn, Option.guard]
  · have hbays : (sealBundle n s).bundles.bays = (removeBundle n (sealState n s)).bundles.bays := by rw [heq]; simp
    rw [hbays, bays_removeBundle]
    simp [emptiedBySeal, hx, hcloses, hb, sealState, updateBundle]
  · have hnotices : sealingNotices p [n] s = if p = .address then [bundleEmptyFrame x.number] else [] := by
      simp [sealingNotices, sealNotices, hx, hcloses, hb]
    rw [heq, hnotices]
    by_cases hp : p = .address
    · rw [hp, if_pos rfl, txQueue_post_same (s := removeBundle n (sealState n s)) hr]
      rfl
    · rw [if_neg hp, txQueue_post_other _ _ hp, List.append_nil]
      rfl

/-- What the sealing of one bundle does while the job is loading and every queue has room (R139 to R141). -/
theorem sealed_sealBundle (hnd : (bundleNumbers s).Nodup) (hj : jobFinishing s = false)
    (hr : ∀ p, txHasRoom p s = true) (n : Nat) : Sealed [n] s (sealBundle n s) := by
  cases hx : findBundle n s with
  | none =>
    have heq : sealBundle n s = s := by simp [sealBundle, hx]
    rw [heq]
    exact sealed_of_none hx
  | some x =>
    by_cases hf : x.state = .filling
    · cases h : exhausted s.store.queue x with
      | false => exact sealed_of_left hnd hx hf h
      | true =>
        cases hb : bare x with
        | false => exact sealed_of_broken hnd hx hf h hb (hr .delivery)
        | true => exact sealed_of_emptied hnd hj hx hf h hb (hr .address)
    · have heq : sealBundle n s = s := by simp [sealBundle, hx, hf]
      rw [heq]
      exact sealed_of_not_filling hnd hx hf

/-- What the sealing of several bundles does while the job is loading and every queue has room for a message from each
(R139 to R141). -/
theorem sealed_sealBundles (hns : ns.Nodup) (hnd : (bundleNumbers s).Nodup) (hj : jobFinishing s = false)
    (hr : Roomy ns.length s) : Sealed ns s (sealBundles ns s) := by
  induction ns generalizing s with
  | nil => exact Sealed.refl s
  | cons n ns ih =>
    obtain ⟨hn, hns⟩ := List.nodup_cons.mp hns
    have hone := sealed_sealBundle hnd hj (fun p => Roomy.hasRoom (n := ns.length) hr p) n
    refine hone.cons hn (ih hns ((Checked.sealBundle n s).numbers.nodup hnd) ?_ (hone.roomy _ hr))
    rw [jobFinishing, hone.store]
    exact hj

/-! ## The bundles below a mark -/

/-- A bundle below a mark that stands in FILLING with nothing left (R50). -/
def fallsEmpty (mark : Nat) (q : List Record) (b : Bundle) : Bool := decide (b.number < mark) && closesSealed q b

/-- The numbers of the bundles below a mark, in table order. -/
def numbersBelow (mark : Nat) (s : State) : List Nat := (bundleNumbers s).filter fun m => m < mark

theorem mem_numbersBelow {mark : Nat} (hx : x ∈ s.bundles.table) : x.number ∈ numbersBelow mark s ↔ x.number < mark := by
  simp only [numbersBelow, List.mem_filter, decide_eq_true_eq, and_iff_right_iff_imp]
  exact fun _ => List.mem_map_of_mem hx

theorem findBundle_of_mem (hnd : (bundleNumbers s).Nodup) (hx : x ∈ s.bundles.table) :
    findBundle x.number s = some x := by
  cases h : findBundle x.number s with
  | none => exact absurd rfl (findBundle_eq_none_iff.mp h x hx)
  | some y => rw [eq_of_mem_of_nodup hnd (List.mem_of_find?_eq_some h) hx (findBundle_number h)]

theorem sealedTable_below (mark : Nat) (s : State) (q : List Record) :
    sealedTable (numbersBelow mark s) q s.bundles.table =
      (s.bundles.table.filter fun x => !(fallsEmpty mark q x && bare x)).map fun x =>
        if fallsEmpty mark q x then { x with state := .closing, tieTimer := some 0 }
        else if x.number < mark ∧ x.state = .filling then { x with state := .sealed } else x := by
  rw [← List.filterMap_eq_map, ← List.filterMap_eq_filter, List.filterMap_filterMap, sealedTable]
  refine List.filterMap_congr fun b hb => ?_
  by_cases hlow : b.number < mark
  · by_cases hcloses : closesSealed q b = true
    · by_cases hbare : bare b = true <;>
        simp [mem_numbersBelow hb, hlow, sealedEntry, hcloses, hbare, fallsEmpty, Option.guard]
    · by_cases hf : b.state = .filling <;>
        simp [mem_numbersBelow hb, hlow, sealedEntry, hcloses, hf, fallsEmpty, Option.guard]
  · simp [mem_numbersBelow hb, hlow, fallsEmpty, Option.guard]

theorem exists_emptied_below (hnd : (bundleNumbers s).Nodup) (mark : Nat) (i : Fin 16) :
    (∃ n ∈ numbersBelow mark s, emptiedBySeal n s = true ∧ s.bundles.bays[i] = some n) ↔
      ∃ x ∈ s.bundles.table.filter (fun x => fallsEmpty mark s.store.queue x && bare x),
        s.bundles.bays[i] = some x.number := by
  constructor
  · rintro ⟨n, hn, hempty, hbay⟩
    obtain ⟨x, hx, hcloses⟩ := (Option.any_eq_true _ _).mp hempty
    have hmem := List.mem_of_find?_eq_some hx
    have hnumber := findBundle_number hx
    refine ⟨x, List.mem_filter.mpr ⟨hmem, ?_⟩, hnumber.symm ▸ hbay⟩
    have hlow := (mem_numbersBelow hmem).mp (hnumber.symm ▸ hn)
    simpa [fallsEmpty, hlow] using hcloses
  · rintro ⟨x, hx, hbay⟩
    obtain ⟨hmem, hfalls⟩ := List.mem_filter.mp hx
    obtain ⟨⟨hlow, hcloses⟩, hbare⟩ : (x.number < mark ∧ closesSealed s.store.queue x = true) ∧ bare x = true := by
      simpa [fallsEmpty] using hfalls
    exact ⟨x.number, (mem_numbersBelow hmem).mpr hlow, by simp [emptiedBySeal, findBundle_of_mem hnd hmem, hcloses, hbare],
      hbay⟩

/-- The notices of the sealing below a mark come in table order. -/
theorem sealingNotices_below (hnd : (bundleNumbers s).Nodup) (mark : Nat) (p : Port) :
    sealingNotices p (numbersBelow mark s) s =
      (s.bundles.table.filter fun x => decide (x.number < mark)).flatMap (sealNotices p s.store.queue) := by
  rw [sealingNotices, numbersBelow, bundleNumbers, List.filter_map, List.flatMap_map]
  refine List.flatMap_congr fun x hx => ?_
  rw [findBundle_of_mem hnd (List.mem_filter.mp hx).1]
  rfl

theorem flatMap_ite_singleton {α β : Type} (p : α → Bool) (f : α → β) (l : List α) :
    (l.flatMap fun x => if p x then [f x] else []) = (l.filter p).map f := by
  induction l with
  | nil => rfl
  | cons x l ih => by_cases h : p x = true <;> simp [h, ih]

theorem addressNotices_below (hnd : (bundleNumbers s).Nodup) (mark : Nat) :
    sealingNotices .address (numbersBelow mark s) s =
      (s.bundles.table.filter fun x => fallsEmpty mark s.store.queue x && bare x).map fun x =>
        bundleEmptyFrame x.number := by
  have hone : sealNotices .address s.store.queue = fun x : Bundle =>
      if closesSealed s.store.queue x && bare x then [bundleEmptyFrame x.number] else [] := by
    funext x
    by_cases hc : closesSealed s.store.queue x = true <;> by_cases hb : bare x = true <;> simp [sealNotices, hc, hb]
  rw [sealingNotices_below hnd, hone, flatMap_ite_singleton, List.filter_filter]
  refine congrArg (List.map _) (List.filter_congr fun x _ => ?_)
  simp only [fallsEmpty]
  ac_rfl

theorem deliveryNotices_below (hnd : (bundleNumbers s).Nodup) (mark : Nat) :
    sealingNotices .delivery (numbersBelow mark s) s =
      (s.bundles.table.filter fun x => fallsEmpty mark s.store.queue x && !bare x).map fun x =>
        breakFrame x.number x.bay x.delivered := by
  have hone : sealNotices .delivery s.store.queue = fun x : Bundle =>
      if closesSealed s.store.queue x && !bare x then [breakFrame x.number x.bay x.delivered] else [] := by
    funext x
    by_cases hc : closesSealed s.store.queue x = true <;> by_cases hb : bare x = true <;> simp [sealNotices, hc, hb]
  rw [sealingNotices_below hnd, hone, flatMap_ite_singleton, List.filter_filter]
  refine congrArg (List.map _) (List.filter_congr fun x _ => ?_)
  simp only [fallsEmpty]
  ac_rfl

/-- No notice of a sealing goes to another port. -/
theorem sealingNotices_other {p : Port} (ha : p ≠ .address) (hd : p ≠ .delivery) (s : State) :
    sealingNotices p ns s = [] := by
  refine List.flatMap_eq_nil_iff.mpr fun n _ => ?_
  cases findBundle n s with
  | none => rfl
  | some x => simp [sealNotices, ha, hd]

end

end Sys2Proof.Machine


/-! LOAD by its checks (R48, R49, R50). -/

namespace Sys2Proof.Machine

/-- A record appended to the queue, with its text taken and its key entered (R49 steps 1 to 3). -/
def recordAppended (r : Record) (s : State) : State :=
  s.setStore { s.store with
    queue := s.store.queue ++ [r]
    textUsed := s.store.textUsed + textSize r
    map := insertPlace r.key .queue s.store.map }

theorem loadRecord_eq (r : Record) (s : State) : loadRecord r s = raiseLoadMark r.bundle (recordAppended r s) := rfl

theorem recordAppended_silent (r : Record) (p : Port) (s : State) :
    recordAppended r (silent p s) = silent p (recordAppended r s) := by
  rw [recordAppended, recordAppended, silent_setStore]
  simp

theorem raiseLoadMark_of_same {n : Nat} {s : State} (h : n = s.store.loadMark) : raiseLoadMark n s = s :=
  if_neg (by omega)

/-- The load mark raised, with the bundles below it not yet sealed. -/
def markRaised (n : Nat) (s : State) : State := s.setStore { s.store with loadMark := n }

theorem raiseLoadMark_of_lt {n : Nat} {s : State} (h : s.store.loadMark < n) :
    raiseLoadMark n s = sealBundles (numbersBelow n s) (markRaised n s) := if_pos h

theorem attempt_of_parseLoad {b : List Byte} {r : Record} (h : parseLoad b = some r) : r.attempt = 0 := by
  unfold parseLoad at h
  split at h
  · simp at h
  · obtain ⟨lines, -, rfl⟩ := Option.map_eq_some_iff.mp h
    rfl

/-! ## The refusals -/

section
variable {num : Byte} {b : List Byte} {r : Record} {s : State}

theorem exec_load_of_refused {reason : Reason} {n : Nat} (hr : Roomy (n + 1) s)
    (h : takeLoad .address num b (silent .address s) = refuse .address num reason (silent .address s)) :
    exec (.load .address num b) s = .next (replied .address (refuseFrame num reason) s) :=
  answerMessage_reply hr _ _ (takeLoad .address num b) h

theorem takeLoad_of_record (hj : s.store.jobState = .loading) (hb : parseLoad b = some r) :
    takeLoad .address num b (silent .address s) =
      if recordInRange r = false then refuse .address num .outOfRange (silent .address s)
      else if (placeOf r.key s).isSome then refuse .address num .duplicate (silent .address s)
      else if r.bundle < s.store.loadMark then refuse .address num .order (silent .address s)
      else if 512 ≤ s.store.queue.length then refuse .address num .queueFull (silent .address s)
      else if 131072 - s.store.textUsed < textSize r then refuse .address num .textFull (silent .address s)
      else accept .address num (loadRecord r (silent .address s)) := by
  simp [takeLoad, hj, hb, placeOf_silent, textRoom, Config.loadLimit, Config.textCapacity]

/-! ## An accepted LOAD -/

/-- An accepted LOAD of a record: its effect, and then its ACCEPT (R49). -/
def loadAccepted (num : Byte) (r : Record) (s : State) : State :=
  accept .address num (raiseLoadMark r.bundle (recordAppended r (silent .address s)))

theorem exec_load (hj : s.store.jobState = .loading) (hb : parseLoad b = some r) (hrange : recordInRange r = true)
    (hfresh : placeOf r.key s = none) (hmark : s.store.loadMark ≤ r.bundle) (hqueue : s.store.queue.length < 512)
    (htext : textSize r ≤ 131072 - s.store.textUsed) :
    exec (.load .address num b) s = .next (settle (loadAccepted num r s)) := by
  show answerMessage .address (takeLoad .address num b) s = _
  rw [answerMessage_settled, takeLoad_of_record hj hb]
  simp [hrange, hfresh, Nat.not_lt.mpr hmark, Nat.not_le.mpr hqueue, Nat.not_lt.mpr htext, loadRecord_eq, loadAccepted]

/-- The store after an accepted LOAD (R49). -/
def storeLoaded (r : Record) (x : Store) : Store := { x with
    queue := x.queue ++ [r]
    textUsed := x.textUsed + textSize r
    loadMark := r.bundle
    map := insertPlace r.key .queue x.map }

/-- The record appended and the mark raised, before the sealing. -/
def loadedUnsealed (r : Record) (s : State) : State := markRaised r.bundle (recordAppended r s)

theorem store_loadedUnsealed (r : Record) (s : State) : (loadedUnsealed r s).store = storeLoaded r s.store := rfl

/-- The sealing that an accepted LOAD brings is that of the bundles below a raised mark. -/
theorem loadRecord_cases (hmark : s.store.loadMark ≤ r.bundle) :
    (s.store.loadMark = r.bundle ∧ loadRecord r s = loadedUnsealed r s) ∨
      (s.store.loadMark < r.bundle ∧
        loadRecord r s = sealBundles (numbersBelow r.bundle s) (loadedUnsealed r s)) := by
  rcases Nat.eq_or_lt_of_le hmark with h | h
  · refine .inl ⟨h, ?_⟩
    rw [loadRecord_eq, raiseLoadMark_of_same (s := recordAppended r s) h.symm, loadedUnsealed, markRaised, ← h]
    rfl
  · exact .inr ⟨h, (loadRecord_eq r s).trans (raiseLoadMark_of_lt h)⟩

theorem jobFinishing_of_loading (h : s.store.jobState = .loading) : jobFinishing s = false := by
  simp [jobFinishing, h]

theorem checked_loadRecord (hmark : s.store.loadMark ≤ r.bundle) : Checked (loadedUnsealed r s) (loadRecord r s) := by
  rcases loadRecord_cases hmark with ⟨-, h⟩ | ⟨-, h⟩
  · rw [h]
    exact Checked.refl _
  · rw [h]
    exact Checked.sealBundles _ _

/-- What an accepted LOAD leaves in the store: a record waits, so that no job completes. -/
theorem store_loadRecord (hmark : s.store.loadMark ≤ r.bundle) :
    (loadRecord r s).store = storeLoaded r s.store ∧ (loadRecord r s).entry = s.entry := by
  have hc := checked_loadRecord hmark
  obtain ⟨hstate, hnumber, hm, -, hentry⟩ := hc.job_of_held (.inl (by simp [store_loadedUnsealed, storeLoaded]))
  refine ⟨?_, hentry⟩
  have hq := hc.queue
  have hl := hc.lane
  have hmap := hc.map
  have ht := hc.text
  have hback := hc.backlog
  rw [← store_loadedUnsealed]
  generalize (loadRecord r s).store = a at *
  generalize (loadedUnsealed r s).store = c at *
  cases a
  cases c
  simp_all

theorem mem_loadRecord_of_low {x : Bundle} (hlt : s.store.loadMark < r.bundle) (hnd : (bundleNumbers s).Nodup)
    (hx : x ∈ (loadRecord r s).bundles.table) (hlow : x.number < r.bundle) : x.state ≠ .filling := by
  intro hf
  rw [loadRecord_eq, raiseLoadMark_of_lt (s := recordAppended r s) hlt] at hx
  obtain ⟨hmem, hn⟩ := mem_sealBundles_of_filling (s := loadedUnsealed r s) hnd hx hf
  exact hn ((mem_numbersBelow (s := s) hmem).mpr hlow)

theorem loadAccepted_eq (num : Byte) (r : Record) (s : State) :
    loadAccepted num r s = accept .address num (loadRecord r (silent .address s)) := rfl

/-- With a bundle number equal to the load mark no bundle is sealed. -/
theorem exec_load_of_same (hr : Roomy 1 s) (hj : s.store.jobState = .loading) (hb : parseLoad b = some r)
    (hrange : recordInRange r = true) (hfresh : placeOf r.key s = none) (hmark : r.bundle = s.store.loadMark)
    (hqueue : s.store.queue.length < 512) (htext : textSize r ≤ 131072 - s.store.textUsed) :
    exec (.load .address num b) s = .next (replied .address (acceptFrame num []) (recordAppended r s)) := by
  refine answerMessage_effect (n := 0) (t := recordAppended r s) hr rfl _ _ (takeLoad .address num b) ?_
  rw [takeLoad_of_record hj hb]
  have hsame : raiseLoadMark r.bundle (silent .address (recordAppended r s)) = silent .address (recordAppended r s) :=
    raiseLoadMark_of_same (by rw [hmark]; simp [recordAppended])
  simp [hrange, hfresh, Nat.not_lt.mpr hmark.ge, Nat.not_le.mpr hqueue, Nat.not_lt.mpr htext, loadRecord_eq, hsame, accept,
    recordAppended_silent]

/-- A bundle that a LOAD seals from FILLING. -/
def fallsBelow (mark : Nat) (x : Bundle) : Bool := decide (x.number < mark ∧ x.state = .filling)

theorem fallsEmpty_appended (x : Bundle) :
    fallsEmpty r.bundle (s.store.queue ++ [r]) x = (fallsBelow r.bundle x && exhausted s.store.queue x) := by
  rw [Bool.eq_iff_iff]
  simp only [fallsEmpty, closesSealed, fallsBelow, exhausted, Bool.and_eq_true, decide_eq_true_eq, List.mem_append,
    List.mem_singleton]
  constructor
  · rintro ⟨hlow, hf, hq, hflight, hlane⟩
    exact ⟨⟨hlow, hf⟩, fun y hy => hq y (.inl hy), hflight, hlane⟩
  · rintro ⟨⟨hlow, hf⟩, hq, hflight, hlane⟩
    refine ⟨hlow, hf, ?_, hflight, hlane⟩
    rintro y (hy | rfl)
    · exact hq y hy
    · omega

/-- What an accepted LOAD above the mark does to the bundles below it, with room for every notice (R50, R139 to R141). -/
theorem sealed_loadRecord (hr : Roomy (s.bundles.table.length + 1) s) (hnd : (bundleNumbers s).Nodup)
    (hj : s.store.jobState = .loading) (hlt : s.store.loadMark < r.bundle) :
    Sealed (numbersBelow r.bundle s) (loadedUnsealed r s) (loadRecord r s) ∧ Roomy 1 (loadRecord r s) := by
  have hlen : (numbersBelow r.bundle s).length ≤ s.bundles.table.length :=
    (List.length_filter_le _ _).trans (by simp [bundleNumbers])
  have hroom : Roomy (1 + (numbersBelow r.bundle s).length) (loadedUnsealed r s) :=
    (hr.mono (by omega)).of_link rfl
  have hsealed : Sealed (numbersBelow r.bundle s) (loadedUnsealed r s)
      (sealBundles (numbersBelow r.bundle s) (loadedUnsealed r s)) :=
    sealed_sealBundles (hnd.filter _) hnd (jobFinishing_of_loading hj) (hroom.mono (by omega))
  have heq : loadRecord r s = sealBundles (numbersBelow r.bundle s) (loadedUnsealed r s) :=
    (loadRecord_eq r s).trans (raiseLoadMark_of_lt hlt)
  rw [heq]
  exact ⟨hsealed, hsealed.roomy 1 hroom⟩

end

/-- Settles O25: LOAD by its checks in their order; an accepted one by the load mark. -/
theorem loadIsCheckedAndAppendsItsRecord : Obligations.LoadIsCheckedAndAppendsItsRecord := by
  refine ⟨fun num b s hr => ⟨fun hj => ?_, fun hj => ⟨fun hb => ?_, fun r hb => ⟨fun hrange => ?_, fun hrange =>
    ⟨fun hheld => ?_, fun hfresh => ⟨fun hlow => ?_, fun hmark => ⟨fun hfull => ?_, fun hqueue htext => ?_⟩⟩⟩⟩⟩⟩,
    fun num b r s hj hb hrange hfresh hmark hqueue htext => ⟨attempt_of_parseLoad hb, ?_, fun hr hnd hlt => ?_,
      fun hr hsame => exec_load_of_same hr hj hb hrange hfresh hsame hqueue htext⟩⟩
  · exact exec_load_of_refused (n := 0) hr (by simp [takeLoad, hj])
  · exact exec_load_of_refused (n := 0) hr (by simp [takeLoad, hj, hb])
  · exact exec_load_of_refused (n := 0) hr (by rw [takeLoad_of_record hj hb, if_pos hrange])
  · exact exec_load_of_refused (n := 0) hr (by simp [takeLoad_of_record hj hb, hrange, hheld])
  · exact exec_load_of_refused (n := 0) hr (by simp [takeLoad_of_record hj hb, hrange, hfresh, hlow])
  · exact exec_load_of_refused (n := 0) hr (by
      simp [takeLoad_of_record hj hb, hrange, hfresh, Nat.not_lt.mpr hmark, hfull])
  · exact exec_load_of_refused (n := 0) hr (by
      simp [takeLoad_of_record hj hb, hrange, hfresh, Nat.not_lt.mpr hmark, Nat.not_le.mpr hqueue, htext])
  · have hmark' : (silent .address s).store.loadMark ≤ r.bundle := by simpa using hmark
    obtain ⟨hstore, hentry⟩ := store_loadRecord hmark'
    have hkeeps : (loadRecord r (silent .address s)).track = s.track ∧
        (loadRecord r (silent .address s)).carrier = s.carrier ∧ (loadRecord r (silent .address s)).reg = s.reg ∧
        (loadRecord r (silent .address s)).lines = s.lines ∧ (loadRecord r (silent .address s)).disp = s.disp ∧
        (loadRecord r (silent .address s)).setup = s.setup := by
      simp [loadRecord_eq, recordAppended]
    obtain ⟨htrack, hcarrier, hreg, hlines, hdisp, hsetup⟩ := hkeeps
    refine ⟨_, exec_load hj hb hrange hfresh hmark hqueue htext, ?_, fun hnd x hx hlow hlt => ?_, ?_⟩
    · rw [loadAccepted_eq]
      simp only [accept, settle_keeps, post_keeps, hstore]
      simp [storeLoaded]
    · rw [loadAccepted_eq] at hx
      simp only [accept, settle_keeps, post_keeps] at hx
      refine mem_loadRecord_of_low (s := silent .address s) (by simpa using hlt) ?_ hx hlow
      simpa [bundleNumbers] using hnd
    · rw [loadAccepted_eq]
      simpa [accept, htrack, hcarrier, hreg, hlines, hdisp, hsetup] using hentry
  · intro falls ready bareOf emptied broken
    have hroom : Roomy ((silent .address s).bundles.table.length + 1) (silent .address s) := by
      rw [show (silent .address s).bundles = s.bundles by simp]
      exact hr.silent .address
    have hnumbers : numbersBelow r.bundle (silent .address s) = numbersBelow r.bundle s := by
      simp [numbersBelow, bundleNumbers]
    obtain ⟨hsealed, hone⟩ := sealed_loadRecord (r := r) hroom (by simpa [bundleNumbers] using hnd) (by simpa using hj)
      (by simpa using hlt)
    have haccepted : settle (loadAccepted num r s) = accept .address num (loadRecord r (silent .address s)) :=
      settle_of_roomy (Roomy.post (n := 0) hone _ _)
    have hunsealed : (loadedUnsealed r (silent .address s)).bundles = s.bundles := by
      simp [loadedUnsealed, markRaised, recordAppended]
    have hqueueU : (loadedUnsealed r (silent .address s)).store.queue = s.store.queue ++ [r] := by
      simp [store_loadedUnsealed, storeLoaded]
    have hnd' : (bundleNumbers (loadedUnsealed r (silent .address s))).Nodup := by
      simpa only [bundleNumbers, hunsealed] using hnd
    have hbelow : numbersBelow r.bundle s = numbersBelow r.bundle (loadedUnsealed r (silent .address s)) := by
      simp only [numbersBelow, bundleNumbers, hunsealed]
    have hfalls : fallsEmpty r.bundle (s.store.queue ++ [r]) = fun x => falls x && ready x :=
      funext fun x => fallsEmpty_appended x
    have htx (p : Port) : txQueue p (accept .address num (loadRecord r (silent .address s))) =
        txQueue p s ++ sealingNotices p (numbersBelow r.bundle s) (loadedUnsealed r (silent .address s)) ++
          if p = .address then [acceptFrame num []] else [] := by
      rw [accept, txQueue_post (n := 0) hone, hsealed.tx, hnumbers]
      exact congrArg (fun q => q ++ _ ++ _) (txQueue_silent .address p s)
    refine ⟨_, (exec_load hj hb hrange hfresh hmark hqueue htext).trans (congrArg _ haccepted), ?_, fun i => ?_, ?_, ?_,
      ?_, ?_, ?_, ?_⟩
    · simp only [accept, post_keeps]
      rw [hsealed.table, hnumbers, hbelow, sealedTable_below, hunsealed, hqueueU, hfalls]
      refine List.map_congr_left fun x _ => ?_
      simp only [falls, decide_eq_true_eq]
    · simp only [accept, post_keeps]
      rw [hsealed.bays, hunsealed, hnumbers, hbelow]
      refine if_congr ?_ rfl rfl
      have := exists_emptied_below hnd' r.bundle i
      rw [hunsealed, hqueueU, hfalls] at this
      exact this
    · rw [htx, hbelow, addressNotices_below hnd', hunsealed, hqueueU, hfalls]
      rfl
    · rw [htx, hbelow, deliveryNotices_below hnd', hunsealed, hqueueU, hfalls]
      exact List.append_nil _
    · rw [htx, sealingNotices_other (by decide) (by decide)]
      simp
    · rw [htx, sealingNotices_other (by decide) (by decide)]
      simp
    · simp [accept, loadRecord_eq, recordAppended]
    · have hrun := hsealed.run
      simp only [accept, post_keeps, hrun]
      simp [loadedUnsealed, markRaised, recordAppended]

end Sys2Proof.Machine


/-! One millisecond of the claim's expiry timer, of the tie timers and of the receivers' gaps (R29, R145, R167). -/

namespace Sys2Proof.Machine

/-! ## What no message and no fault changes -/

/-- The ports' speeds and receivers are as before. -/
def SameReception (s t : State) : Prop :=
  ∀ p, (portState p t).speed = (portState p s).speed ∧ (portState p t).receiver = (portState p s).receiver

namespace SameReception

variable {s t u : State}

theorem of_link (h : t.link = s.link) : SameReception s t := fun p => by simp [portState, h]

theorem refl (s : State) : SameReception s s := of_link rfl

theorem trans (h : SameReception s t) (h' : SameReception t u) : SameReception s u := fun p =>
  ⟨(h' p).1.trans (h p).1, (h' p).2.trans (h p).2⟩

theorem from_link (h : SameReception t u) (hl : t.link = s.link) : SameReception s u := (of_link hl).trans h

theorem post (p : Port) (f : Frame) (s : State) : SameReception s (post p f s) := fun q => by
  by_cases hq : q = p
  · subst hq
    cases hr : txHasRoom q s with
    | true => rw [post_of_room hr]; simp
    | false => rw [post_of_full hr]; exact ⟨rfl, rfl⟩
  · rw [portState_post_other f s hq]
    exact ⟨rfl, rfl⟩

theorem postTo (ps : List Port) (f : Frame) (s : State) : SameReception s (postTo ps f s) := by
  induction ps generalizing s with
  | nil => exact refl s
  | cons p ps ih => exact (post p f s).trans (ih _)

theorem changeGate (g : GateState) (s : State) : SameReception s (changeGate g s) := by
  unfold Machine.changeGate
  split
  · exact refl s
  · exact (postTo _ _ _).from_link (by exact rfl)

theorem enterLog (c : LogClass) (f : FaultRecord) (s : State) : SameReception s (enterLog c f s) := by
  unfold Machine.enterLog
  split
  · exact (postTo _ _ _).from_link (by simp)
  · exact of_link (by simp)

theorem setStopLatch (s : State) : SameReception s (setStopLatch s) := by
  unfold Machine.setStopLatch
  split
  · exact refl s
  · exact (changeGate _ _).from_link (by exact rfl)

theorem raise (f : FaultRecord) (s : State) : SameReception s (raise f s) := by
  by_cases ha : actionOf f.kind s = .off
  · rw [raise_of_off ha]
    exact refl s
  · rw [raise_of_not_off ha]
    have hc : SameReception s (countedAndSteered f.kind s) := of_link (by rw [countedAndSteered_eq]; rfl)
    refine hc.trans ?_
    unfold logAndStop
    split
    · exact refl _
    · exact refl _
    · exact enterLog _ _ _
    · exact (enterLog _ _ _).trans (setStopLatch _)

theorem foldOverflows (ps : List Port) (s : State) : SameReception s (ps.foldl (fun s p => raiseOverflow p s) s) := by
  induction ps generalizing s with
  | nil => exact refl s
  | cons p ps ih => exact (raise _ s).trans (ih _)

theorem takeOverflows (s : State) : SameReception s (takeOverflows s) :=
  SameReception.trans (t := s.setLink { s.link with dropped := [] }) (fun _ => ⟨rfl, rfl⟩) (foldOverflows _ _)

theorem settle (s : State) : SameReception s (settle s) := (takeOverflows s).trans (takeOverflows _)

end SameReception

theorem actionOf_settle (k : FaultKind) (s : State) : actionOf k (settle s) = actionOf k s :=
  settle_keeps_of (P := fun t => actionOf k t = actionOf k s) (fun f _ h => (actionOf_raise k f _).trans h)
    (fun _ _ h => h) rfl

/-- `s` with the run control, the bundle table, the fault unit and the link unit of `t`. -/
def withTimers (s t : State) : State :=
  (((s.setRun t.run).setBundles t.bundles).setFault t.fault).setLink t.link

theorem eq_withTimers {s t : State} (h : t.pending = s.pending ∧ t.pins = s.pins ∧ t.reg = s.reg ∧ t.lines = s.lines ∧
    t.setup = s.setup ∧ t.store = s.store ∧ t.entry = s.entry ∧ t.track = s.track ∧
    t.callOutstanding = s.callOutstanding ∧ t.carrier = s.carrier ∧ t.verify = s.verify ∧ t.disp = s.disp ∧
    t.freeTaken = s.freeTaken) : t = withTimers s t := by
  cases s
  cases t
  simp_all [withTimers, State.setRun, State.setBundles, State.setFault, State.setLink]

theorem eq_withTimers_trans {s t u : State} (h : t = withTimers s t) (h' : u = withTimers t u) : u = withTimers s u := calc
  u = withTimers t u := h'
  _ = withTimers (withTimers s t) u := congrArg (withTimers · u) h
  _ = withTimers s u := rfl

/-- What a millisecond of any timer keeps. -/
structure Passed (s t : State) : Prop where
  only : t = withTimers s t
  grows : Grows s t
  speed : ∀ p, (portState p t).speed = (portState p s).speed
  action : ∀ k, actionOf k t = actionOf k s
  latch : s.fault.stopLatch = true → t.fault.stopLatch = true

theorem Passed.refl (s : State) : Passed s s := ⟨rfl, Grows.refl s, fun _ => rfl, fun _ => rfl, id⟩

theorem Passed.trans {s t u : State} (h : Passed s t) (h' : Passed t u) : Passed s u where
  only := eq_withTimers_trans h.only h'.only
  grows := h.grows.trans h'.grows
  speed := fun p => (h'.speed p).trans (h.speed p)
  action := fun k => (h'.action k).trans (h.action k)
  latch := h'.latch ∘ h.latch

/-- Neither a fault nor a message. -/
structure Uneventful (s t : State) : Prop where
  gate : t.run.gate = s.run.gate
  fault : t.fault = s.fault
  dropped : t.link.dropped = s.link.dropped
  tx : ∀ p, txQueue p t = txQueue p s

theorem Uneventful.refl (s : State) : Uneventful s s := ⟨rfl, rfl, rfl, fun _ => rfl⟩

theorem Uneventful.trans {s t u : State} (h : Uneventful s t) (h' : Uneventful t u) : Uneventful s u where
  gate := h'.gate.trans h.gate
  fault := h'.fault.trans h.fault
  dropped := h'.dropped.trans h.dropped
  tx := fun p => (h'.tx p).trans (h.tx p)

/-- What the end of an event with one fault keeps. -/
theorem passed_fault (f : FaultRecord) (s : State) : Passed s (settle (raise f s)) where
  only := eq_withTimers (by simp)
  grows := (Grows.raise f s).trans (Grows.settle _)
  speed := fun p => (((SameReception.raise f s).trans (SameReception.settle _)) p).1
  action := fun k => (actionOf_settle k _).trans (actionOf_raise k f s)
  latch := fun h => stopLatch_settle (stopLatch_raise h)

theorem receiver_fault (f : FaultRecord) (s : State) (p : Port) :
    (portState p (settle (raise f s))).receiver = (portState p s).receiver :=
  (((SameReception.raise f s).trans (SameReception.settle _)) p).2

theorem claim_fault (f : FaultRecord) (s : State) : (settle (raise f s)).run.claim = s.run.claim := by
  rw [(overflowOnly_settle _).claim, run_raise]

/-- The other kinds' counts after an event with one fault. -/
theorem counts_fault_other {k : FaultKind} {f : FaultRecord} (hk : k ≠ .linkOverflow) (hf : k ≠ f.kind) (s : State) :
    (settle (raise f s)).fault.counts[kindIndex k] = s.fault.counts[kindIndex k] := by
  rw [(overflowOnly_settle _).others k hk]
  by_cases ha : actionOf f.kind s = .off
  · rw [raise_of_off ha]
  · rw [counts_raise ha, if_neg hf]

/-- The kind's own count after an event with one fault. -/
theorem counts_fault_same {k : FaultKind} {f : FaultRecord} {s : State} (hf : f.kind = k) (hk : k ≠ .linkOverflow)
    (ha : actionOf k s ≠ .off) (hc : s.fault.counts[kindIndex k] ≤ 65535) :
    (settle (raise f s)).fault.counts[kindIndex k] = min 65535 (s.fault.counts[kindIndex k] + 1) := by
  subst hf
  rw [(overflowOnly_settle _).others _ hk, counts_raise_same ha, countedOne_eq_min hc]

theorem stopLatch_fault {f : FaultRecord} {s : State} (ha : actionOf f.kind s = .stop) :
    (settle (raise f s)).fault.stopLatch = true :=
  stopLatch_settle (by rw [latch_raise, ha]; simp)

/-! ## The claim -/

/-- A claim a millisecond older; none at its limit (R29). -/
def claimAged (c : Claim) : Option Claim :=
  if c.elapsed + 1 < 10000 then some { c with elapsed := c.elapsed + 1 } else none

/-- What a millisecond of the claim's timer does (R29). -/
structure ClaimTicked (s t : State) : Prop where
  passed : Passed s t
  claim : t.run.claim = s.run.claim.bind claimAged
  bundles : t.bundles = s.bundles
  receiver : ∀ p, (portState p t).receiver = (portState p s).receiver
  counts : ∀ k, k ≠ .linkOverflow → t.fault.counts[kindIndex k] = s.fault.counts[kindIndex k]
  told : ∀ c, s.run.claim = some c → 10000 ≤ c.elapsed + 1 → txHasRoom c.holder s = true →
    ∃ more, txQueue c.holder t = txQueue c.holder s ++ claimExpiredFrame :: more
  quiet : (∀ c, s.run.claim = some c → c.elapsed + 1 < 10000) → Uneventful s t

theorem tickClaim_of_none {s : State} (h : s.run.claim = none) : tickClaim s = s := by simp [tickClaim, h]

theorem tickClaim_of_due {c : Claim} {s : State} (h : s.run.claim = some c) (hd : 10000 ≤ c.elapsed + 1) :
    tickClaim s = settle (expireClaim s) := by
  simp [tickClaim, h, Config.claimLimit, Nat.not_lt.mpr hd]

theorem tickClaim_of_running {c : Claim} {s : State} (h : s.run.claim = some c) (hd : c.elapsed + 1 < 10000) :
    tickClaim s = s.setRun { s.run with claim := some { c with elapsed := c.elapsed + 1 } } := by
  simp [tickClaim, h, Config.claimLimit, hd]

theorem expireClaim_of_some {c : Claim} {s : State} (h : s.run.claim = some c) :
    expireClaim s = post c.holder claimExpiredFrame (s.setRun { s.run with claim := none }) := by
  rw [expireClaim, h]

theorem claimTicked (s : State) : ClaimTicked s (tickClaim s) := by
  cases h : s.run.claim with
  | none =>
    rw [tickClaim_of_none h]
    exact ⟨Passed.refl s, by rw [h]; rfl, rfl, fun _ => rfl, fun _ _ => rfl, by simp [h],
      fun _ => Uneventful.refl s⟩
  | some c =>
    by_cases hd : c.elapsed + 1 < 10000
    · rw [tickClaim_of_running h hd]
      refine ⟨⟨rfl, Grows.of_link rfl, fun _ => rfl, fun _ => rfl, id⟩, by rw [h]; simp [claimAged, hd], rfl, fun _ => rfl,
        fun _ _ => rfl, fun x hx hdue => ?_, fun _ => ⟨rfl, rfl, rfl, fun _ => rfl⟩⟩
      obtain rfl := Option.some.inj (h.symm.trans hx)
      omega
    · have hdue : 10000 ≤ c.elapsed + 1 := Nat.not_lt.mp hd
      rw [tickClaim_of_due h hdue, expireClaim_of_some h]
      let u := s.setRun { s.run with claim := none }
      have hreception : SameReception s (settle (post c.holder claimExpiredFrame u)) :=
        ((SameReception.post c.holder claimExpiredFrame u).trans (SameReception.settle _)).from_link rfl
      have hgrows : Grows (post c.holder claimExpiredFrame u) (settle (post c.holder claimExpiredFrame u)) :=
        Grows.settle _
      have hover := overflowOnly_settle (post c.holder claimExpiredFrame u)
      refine ⟨⟨eq_withTimers (by simp), ((Grows.post c.holder claimExpiredFrame u).trans hgrows).from_link rfl,
        fun p => (hreception p).1, fun k => ?_, fun hl => stopLatch_settle (by simpa using hl)⟩, ?_, by simp,
        fun p => (hreception p).2, fun k hk => ?_, fun x hx _ hroom => ?_, fun hquiet => absurd (hquiet c h) hd⟩
      · exact (actionOf_settle k _).trans (actionOf_congr (by simp) k)
      · rw [hover.claim, h, Option.bind_some, claimAged, if_neg hd]
        simp [u]
      · rw [hover.others k hk]
        simp [u]
      · obtain rfl := Option.some.inj (h.symm.trans hx)
        obtain ⟨more, hmore⟩ := hgrows.exists_append c.holder
        refine ⟨more, ?_⟩
        rw [hmore, txQueue_post_same (s := u) hroom, List.append_assoc]
        rfl

end Sys2Proof.Machine


/-! One millisecond of the tie timers and of the receivers' gaps, and the idle step (R145, R167). -/

namespace Sys2Proof.Machine

/-! ## The tie timers -/

/-- A bundle's entry a millisecond later (R145). -/
def tieAged (b : Bundle) : Bundle :=
  { b with tieTimer := b.tieTimer.bind fun n => if n + 1 < 30000 then some (n + 1) else none }

/-- A bundle's tie timer reaches its limit with this millisecond (R145). -/
def tieIsDue (b : Bundle) : Bool := b.tieTimer.any fun n => 30000 ≤ n + 1

/-- The tie timer of the bundle with a number is due. -/
def tieDueOf (s : State) (n : Nat) : Bool := (findBundle n s).any tieIsDue

/-- What a millisecond of several bundles' tie timers does (R145). -/
structure TiesTicked (ns : List Nat) (s t : State) : Prop where
  passed : Passed s t
  claim : t.run.claim = s.run.claim
  bundles : t.bundles =
    { s.bundles with table := s.bundles.table.map fun b => if b.number ∈ ns then tieAged b else b }
  receiver : ∀ p, (portState p t).receiver = (portState p s).receiver
  others : ∀ k, k ≠ .linkOverflow → k ≠ .deliveryFault →
    t.fault.counts[kindIndex k] = s.fault.counts[kindIndex k]
  count : actionOf .deliveryFault s ≠ .off → s.fault.counts[kindIndex .deliveryFault] ≤ 65535 →
    t.fault.counts[kindIndex .deliveryFault] =
      min 65535 (s.fault.counts[kindIndex .deliveryFault] + ns.countP (tieDueOf s))
  stop : actionOf .deliveryFault s = .stop → ns.any (tieDueOf s) = true → t.fault.stopLatch = true
  quiet : ns.any (tieDueOf s) = false → Uneventful s t

section
variable {n : Nat} {ns : List Nat} {x : Bundle} {s t u : State}

theorem TiesTicked.refl (s : State) : TiesTicked [] s s where
  passed := Passed.refl s
  claim := rfl
  bundles := by simp
  receiver := fun _ => rfl
  others := fun _ _ _ => rfl
  count := fun _ hc => by simpa using hc
  stop := fun _ h => by simp at h
  quiet := fun _ => Uneventful.refl s

theorem findBundle_of_tiesTicked {m : Nat} (h : TiesTicked ns s t) (hm : m ∉ ns) : findBundle m t = findBundle m s := by
  rw [findBundle, h.bundles, findBundle, List.find?_map]
  have hsame : ((fun b => b.number == m) ∘ fun b => if b.number ∈ ns then tieAged b else b) = fun b => b.number == m := by
    funext b
    by_cases hb : b.number ∈ ns <;> simp [hb, tieAged]
  rw [hsame]
  cases hx : s.bundles.table.find? fun b => b.number == m with
  | none => rfl
  | some b =>
    have hb : b.number = m := by simpa using List.find?_some hx
    simp [hb, hm]

theorem TiesTicked.cons (hn : n ∉ ns) (h : TiesTicked [n] s t) (h' : TiesTicked ns t u) : TiesTicked (n :: ns) s u := by
  have hdue (m : Nat) (hm : m ∈ ns) : tieDueOf t m = tieDueOf s m := by
    rw [tieDueOf, findBundle_of_tiesTicked h fun hmn => hn (List.mem_singleton.mp hmn ▸ hm), tieDueOf]
  have hcountP : ns.countP (tieDueOf t) = ns.countP (tieDueOf s) := List.countP_congr fun m hm => by rw [hdue m hm]
  have hany : ns.any (tieDueOf t) = ns.any (tieDueOf s) := by
    rw [Bool.eq_iff_iff, List.any_eq_true, List.any_eq_true]
    exact exists_congr fun m => and_congr_right fun hm => by rw [hdue m hm]
  have hsplit : (n :: ns).countP (tieDueOf s) = [n].countP (tieDueOf s) + ns.countP (tieDueOf s) :=
    List.countP_append (l₁ := [n])
  refine ⟨h.passed.trans h'.passed, h'.claim.trans h.claim, ?_, fun p => (h'.receiver p).trans (h.receiver p),
    fun k hk hd => (h'.others k hk hd).trans (h.others k hk hd), fun ha hc => ?_, fun ha hd => ?_, fun hq => ?_⟩
  · rw [h'.bundles, h.bundles, List.map_map]
    refine congrArg (fun table => ({ s.bundles with table := table } : BundleUnit)) (List.map_congr_left fun b _ => ?_)
    by_cases hb : b.number = n
    · simp [hb, tieAged, hn]
    · simp [hb]
  · have hone := h.count ha hc
    rw [h'.count ((h.passed.action _).trans_ne ha) (by omega), hone, hcountP, hsplit]
    omega
  · rw [List.any_cons, Bool.or_eq_true] at hd
    rcases hd with hd | hd
    · exact h'.passed.latch (h.stop ha (by simpa using hd))
    · exact h'.stop ((h.passed.action _).trans ha) (hany.trans hd)
  · rw [List.any_cons, Bool.or_eq_false_iff] at hq
    exact (h.quiet (by simpa using hq.1)).trans (h'.quiet (hany.trans hq.2))

/-- A bundle's entry changed as its tie timer ages is the one entry of its number changed. -/
theorem updateBundle_eq_map (hnd : (bundleNumbers s).Nodup) (hx : findBundle n s = some x) {f : Bundle → Bundle}
    (hf : f x = tieAged x) : (updateBundle n f s).bundles =
      { s.bundles with table := s.bundles.table.map fun b => if b.number ∈ [n] then tieAged b else b } := by
  refine congrArg (fun table => ({ s.bundles with table := table } : BundleUnit)) (List.map_congr_left fun b hb => ?_)
  by_cases hbn : b.number = n
  · have hbx : b = x :=
      eq_of_mem_of_nodup hnd hb (List.mem_of_find?_eq_some hx) (hbn.trans (findBundle_number hx).symm)
    rw [if_pos hbn, if_pos (List.mem_singleton.mpr hbn), hbx, hf]
  · rw [if_neg hbn, if_neg (List.mem_singleton.not.mpr hbn)]

theorem tickTie_of_still (h : (findBundle n s).bind Bundle.tieTimer = none) : tickTie n s = s := by
  simp [tickTie, h]

theorem tickTie_of_running {m : Nat} (h : (findBundle n s).bind Bundle.tieTimer = some m) (hm : m + 1 < 30000) :
    tickTie n s = updateBundle n (fun b => { b with tieTimer := some (m + 1) }) s := by
  simp [tickTie, h, Config.tieLimit, hm]

theorem tickTie_of_due {m : Nat} (h : (findBundle n s).bind Bundle.tieTimer = some m) (hm : 30000 ≤ m + 1) :
    tickTie n s = settle (expireTieTimer n s) := by
  simp [tickTie, h, Config.tieLimit, Nat.not_lt.mpr hm]

theorem expireTieTimer_of_running {m : Nat} (hx : findBundle n s = some x) (h : x.tieTimer = some m) :
    expireTieTimer n s =
      deliveryFault .none (some n) (updateBundle n (fun b => { b with tieTimer := none }) s) := by
  simp [expireTieTimer, hx, tieTimerRuns, h]

/-- A tie timer that does not run, or not in the table, passes no millisecond. -/
theorem tiesTicked_of_still (hnd : (bundleNumbers s).Nodup) (h : (findBundle n s).bind Bundle.tieTimer = none) :
    TiesTicked [n] s s := by
  have hdue : tieDueOf s n = false := by
    cases hx : findBundle n s with
    | none => simp [tieDueOf, hx]
    | some x =>
      have htimer : x.tieTimer = none := by simpa [hx] using h
      simp [tieDueOf, hx, tieIsDue, htimer]
  refine ⟨Passed.refl s, rfl, ?_, fun _ => rfl, fun _ _ _ => rfl, fun _ hc => by simpa [hdue] using hc,
    fun _ hd => by simp [hdue] at hd, fun _ => Uneventful.refl s⟩
  have hsame : (s.bundles.table.map fun b => if b.number ∈ [n] then tieAged b else b) = s.bundles.table := by
    refine (List.map_congr_left fun b hb => ?_).trans (List.map_id _)
    by_cases hbn : b.number = n
    · have htimer : b.tieTimer = none := by
        rw [← hbn, findBundle_of_mem hnd hb] at h
        exact h
      rw [if_pos (List.mem_singleton.mpr hbn), tieAged, htimer, Option.bind_none, ← htimer]
      rfl
    · simp [hbn]
  rw [hsame]

/-- A tie timer below its limit rises by one. -/
theorem tiesTicked_of_running {m : Nat} (hnd : (bundleNumbers s).Nodup) (hx : findBundle n s = some x)
    (h : x.tieTimer = some m) (hm : m + 1 < 30000) :
    TiesTicked [n] s (updateBundle n (fun b => { b with tieTimer := some (m + 1) }) s) := by
  have hdue : tieDueOf s n = false := by
    simp only [tieDueOf, hx, tieIsDue, h, Option.any_some, decide_eq_false_iff_not]
    omega
  exact ⟨⟨rfl, Grows.of_link rfl, fun _ => rfl, fun _ => rfl, id⟩, rfl,
    updateBundle_eq_map hnd hx (by simp [tieAged, h, hm]), fun _ => rfl, fun _ _ _ => rfl,
    fun _ hc => by simpa [hdue, updateBundle] using hc, fun _ hd => by simp [hdue] at hd, fun _ => ⟨rfl, rfl, rfl, fun _ => rfl⟩⟩

/-- A tie timer at its limit stops, with its DELIVERY_FAULT. -/
theorem tiesTicked_of_due {m : Nat} (hnd : (bundleNumbers s).Nodup) (hx : findBundle n s = some x)
    (h : x.tieTimer = some m) (hm : 30000 ≤ m + 1) : TiesTicked [n] s (settle (expireTieTimer n s)) := by
  have hdue : tieDueOf s n = true := by simp only [tieDueOf, hx, tieIsDue, h, Option.any_some, decide_eq_true_eq, hm]
  rw [expireTieTimer_of_running hx h, deliveryFault]
  generalize hu : updateBundle n (fun b => { b with tieTimer := none }) s = u
  generalize hf : ({ plainFault .deliveryFault .none u with bundle := some n } : FaultRecord) = f
  have hkind : f.kind = .deliveryFault := by rw [← hf]; rfl
  have hbundles : u.bundles =
      { s.bundles with table := s.bundles.table.map fun b => if b.number ∈ [n] then tieAged b else b } := by
    rw [← hu]
    exact updateBundle_eq_map hnd hx (by simp [tieAged, h, Nat.not_lt.mpr hm])
  have hfault : u.fault = s.fault := by rw [← hu]; rfl
  have hpassed : Passed s u := by
    rw [← hu]
    exact ⟨rfl, Grows.of_link rfl, fun _ => rfl, fun _ => rfl, id⟩
  have hclaim : u.run.claim = s.run.claim := by rw [← hu]; rfl
  have hreceiver (p : Port) : (portState p u).receiver = (portState p s).receiver := by rw [← hu]; rfl
  refine ⟨hpassed.trans (passed_fault f u), (claim_fault f u).trans hclaim, by simpa using hbundles,
    fun p => (receiver_fault f u p).trans (hreceiver p), fun k hk hd => ?_, fun ha hc => ?_, fun ha _ => ?_,
    fun hq => by simp [hdue] at hq⟩
  · rw [counts_fault_other hk (by rwa [hkind]), hfault]
  · have hcount := counts_fault_same (s := u) hkind (by decide) ((hpassed.action _).trans_ne ha) (by rwa [hfault])
    rw [hcount, hfault]
    simp [hdue]
  · exact stopLatch_fault (by rw [hkind, hpassed.action]; exact ha)

theorem tiesTicked_one (hnd : (bundleNumbers s).Nodup) (n : Nat) : TiesTicked [n] s (tickTie n s) := by
  cases hx : findBundle n s with
  | none =>
    have hstill : (findBundle n s).bind Bundle.tieTimer = none := by rw [hx]; rfl
    rw [tickTie_of_still hstill]
    exact tiesTicked_of_still hnd hstill
  | some x =>
    have hbind : (findBundle n s).bind Bundle.tieTimer = x.tieTimer := by rw [hx]; rfl
    cases h : x.tieTimer with
    | none =>
      rw [tickTie_of_still (hbind.trans h)]
      exact tiesTicked_of_still hnd (hbind.trans h)
    | some m =>
      by_cases hm : m + 1 < 30000
      · rw [tickTie_of_running (hbind.trans h) hm]
        exact tiesTicked_of_running hnd hx h hm
      · rw [tickTie_of_due (hbind.trans h) (Nat.not_lt.mp hm)]
        exact tiesTicked_of_due hnd hx h (Nat.not_lt.mp hm)

theorem bundleNumbers_of_tiesTicked (h : TiesTicked ns s t) : bundleNumbers t = bundleNumbers s := by
  rw [bundleNumbers, h.bundles, bundleNumbers, List.map_map]
  refine List.map_congr_left fun b _ => ?_
  by_cases hb : b.number ∈ ns <;> simp [hb, tieAged]

theorem tiesTicked_fold (hns : ns.Nodup) (hnd : (bundleNumbers s).Nodup) :
    TiesTicked ns s (ns.foldl (fun s n => tickTie n s) s) := by
  induction ns generalizing s with
  | nil => exact TiesTicked.refl s
  | cons n ns ih =>
    obtain ⟨hn, hns⟩ := List.nodup_cons.mp hns
    have hone := tiesTicked_one hnd n
    exact hone.cons hn (ih hns (by rwa [bundleNumbers_of_tiesTicked hone]))

/-- The tie timers that are due, by the entries of the table. -/
theorem map_tieDueOf (hnd : (bundleNumbers s).Nodup) :
    (bundleNumbers s).map (tieDueOf s) = s.bundles.table.map tieIsDue := by
  rw [bundleNumbers, List.map_map]
  refine List.map_congr_left fun b hb => ?_
  rw [Function.comp, tieDueOf, findBundle_of_mem hnd hb]
  rfl

end

end Sys2Proof.Machine


/-! One millisecond of the receivers' gaps, and the idle step (R29, R145, R167). -/

namespace Sys2Proof.Machine

/-! ## The gaps -/

/-- A receiver a millisecond later; IDLE where its gap passes the limit (R167). -/
def gapAged (limit : Nat) : Receiver → Receiver
  | .idle => .idle
  | .inMessage chars gap => if gap + 1 ≤ limit then .inMessage chars (gap + 1) else .idle

/-- A receiver's gap passes the limit with this millisecond (R167). -/
def gapIsDue (limit : Nat) : Receiver → Bool
  | .idle => false
  | .inMessage _ gap => limit < gap + 1

/-- A port's limit for the gap, by its speed (R167). -/
def limitOf (s : State) (p : Port) : Nat := Config.gapLimit (portState p s).speed

/-- The gap of a port's receiver passes its limit with this millisecond. -/
def gapDueOf (s : State) (p : Port) : Bool := gapIsDue (limitOf s p) (portState p s).receiver

/-- What a millisecond of several receivers' gaps does (R167). -/
structure GapsTicked (ps : List Port) (s t : State) : Prop where
  passed : Passed s t
  claim : t.run.claim = s.run.claim
  bundles : t.bundles = s.bundles
  receiver : ∀ p, (portState p t).receiver =
    if p ∈ ps then gapAged (limitOf s p) (portState p s).receiver else (portState p s).receiver
  others : ∀ k, k ≠ .linkOverflow → k ≠ .linkError → t.fault.counts[kindIndex k] = s.fault.counts[kindIndex k]
  count : actionOf .linkError s ≠ .off → s.fault.counts[kindIndex .linkError] ≤ 65535 →
    t.fault.counts[kindIndex .linkError] =
      min 65535 (s.fault.counts[kindIndex .linkError] + ps.countP (gapDueOf s))
  quiet : ps.any (gapDueOf s) = false → Uneventful s t

section
variable {p : Port} {ps : List Port} {chars : List Byte} {gap : Nat} {s t u : State}

theorem GapsTicked.refl (s : State) : GapsTicked [] s s where
  passed := Passed.refl s
  claim := rfl
  bundles := rfl
  receiver := by simp
  others := fun _ _ _ => rfl
  count := fun _ hc => by simpa using hc
  quiet := fun _ => Uneventful.refl s

theorem limitOf_of_passed (h : Passed s t) (p : Port) : limitOf t p = limitOf s p := by
  rw [limitOf, h.speed, limitOf]

theorem GapsTicked.cons (hp : p ∉ ps) (h : GapsTicked [p] s t) (h' : GapsTicked ps t u) : GapsTicked (p :: ps) s u := by
  have hsame (q : Port) (hq : q ≠ p) : (portState q t).receiver = (portState q s).receiver :=
    (h.receiver q).trans (if_neg (List.mem_singleton.not.mpr hq))
  have hdue (q : Port) (hq : q ∈ ps) : gapDueOf t q = gapDueOf s q := by
    rw [gapDueOf, limitOf_of_passed h.passed, hsame q fun e => hp (e ▸ hq), gapDueOf]
  have hcountP : ps.countP (gapDueOf t) = ps.countP (gapDueOf s) := List.countP_congr fun q hq => by rw [hdue q hq]
  have hany : ps.any (gapDueOf t) = ps.any (gapDueOf s) := by
    rw [Bool.eq_iff_iff, List.any_eq_true, List.any_eq_true]
    exact exists_congr fun q => and_congr_right fun hq => by rw [hdue q hq]
  have hsplit : (p :: ps).countP (gapDueOf s) = [p].countP (gapDueOf s) + ps.countP (gapDueOf s) :=
    List.countP_append (l₁ := [p])
  refine ⟨h.passed.trans h'.passed, h'.claim.trans h.claim, h'.bundles.trans h.bundles, fun q => ?_,
    fun k hk hl => (h'.others k hk hl).trans (h.others k hk hl), fun ha hc => ?_, fun hq => ?_⟩
  · rw [h'.receiver, limitOf_of_passed h.passed]
    by_cases he : q = p
    · subst he
      rw [if_neg hp, h.receiver, if_pos List.mem_cons_self, if_pos List.mem_cons_self]
    · rw [hsame q he]
      exact if_congr ⟨List.mem_cons_of_mem p, fun hm => (List.mem_cons.mp hm).resolve_left he⟩ rfl rfl
  · have hone := h.count ha hc
    rw [h'.count ((h.passed.action _).trans_ne ha) (by omega), hone, hcountP, hsplit]
    omega
  · rw [List.any_cons, Bool.or_eq_false_iff] at hq
    exact (h.quiet (by simpa using hq.1)).trans (h'.quiet (hany.trans hq.2))

theorem tickGap_of_idle (h : (portState p s).receiver = .idle) : tickGap p s = s := by simp [tickGap, h]

theorem tickGap_of_running (h : (portState p s).receiver = .inMessage chars gap) (hg : gap + 1 ≤ limitOf s p) :
    tickGap p s = setReceiver p (.inMessage chars (gap + 1)) s := by
  rw [limitOf] at hg
  simp [tickGap, h, hg]

theorem tickGap_of_due (h : (portState p s).receiver = .inMessage chars gap) (hg : limitOf s p < gap + 1) :
    tickGap p s = settle (expireGap p s) := by
  rw [limitOf] at hg
  simp [tickGap, h, Nat.not_le.mpr hg]

theorem receiver_setReceiver (p q : Port) (x : Receiver) (s : State) : (portState q (setReceiver p x s)).receiver =
    if q = p then x else (portState q s).receiver := by
  by_cases h : q = p
  · subst h
    simp [setReceiver]
  · rw [setReceiver, portState_setPortState_other _ _ h, if_neg h]

theorem passed_setReceiver (p : Port) (x : Receiver) (s : State) : Passed s (setReceiver p x s) where
  only := rfl
  grows := fun q => by rw [txQueue_setReceiver]
  speed := fun q => by
    by_cases h : q = p
    · subst h
      simp [setReceiver]
    · rw [setReceiver, portState_setPortState_other _ _ h]
  action := fun _ => rfl
  latch := id

theorem expireGap_of_inMessage (h : (portState p s).receiver = .inMessage chars gap) :
    expireGap p s = linkError p (setReceiver p .idle s) := by
  simp [expireGap, h, abandonMessage]

theorem gapsTicked_of_idle (h : (portState p s).receiver = .idle) : GapsTicked [p] s s := by
  have hdue : gapDueOf s p = false := by rw [gapDueOf, h, gapIsDue]
  refine ⟨Passed.refl s, rfl, rfl, fun q => ?_, fun _ _ _ => rfl, fun _ hc => by simpa [hdue] using hc,
    fun _ => Uneventful.refl s⟩
  by_cases hq : q = p
  · rw [hq, if_pos List.mem_cons_self, h, gapAged]
  · rw [if_neg (List.mem_singleton.not.mpr hq)]

theorem gapsTicked_of_running (h : (portState p s).receiver = .inMessage chars gap) (hg : gap + 1 ≤ limitOf s p) :
    GapsTicked [p] s (setReceiver p (.inMessage chars (gap + 1)) s) := by
  have hdue : gapDueOf s p = false := by
    rw [gapDueOf, h, gapIsDue, decide_eq_false_iff_not]
    omega
  refine ⟨passed_setReceiver _ _ _, rfl, rfl, fun q => ?_, fun _ _ _ => rfl,
    fun _ hc => by simpa [hdue, setReceiver] using hc, fun _ => ⟨rfl, rfl, rfl, fun q => txQueue_setReceiver _ _ _ _⟩⟩
  rw [receiver_setReceiver]
  by_cases hq : q = p
  · rw [hq, if_pos rfl, if_pos List.mem_cons_self, h, gapAged, if_pos hg]
  · rw [if_neg hq, if_neg (List.mem_singleton.not.mpr hq)]

theorem gapsTicked_of_due (h : (portState p s).receiver = .inMessage chars gap) (hg : limitOf s p < gap + 1) :
    GapsTicked [p] s (settle (expireGap p s)) := by
  have hdue : gapDueOf s p = true := by rw [gapDueOf, h, gapIsDue, decide_eq_true hg]
  have hpassed := passed_setReceiver p .idle s
  rw [expireGap_of_inMessage h, linkError]
  generalize hf : plainFault .linkError (.port p) (setReceiver p .idle s) = f
  have hkind : f.kind = .linkError := by rw [← hf]; rfl
  refine ⟨hpassed.trans (passed_fault f _), (claim_fault f _).trans rfl, by simp [setReceiver], fun q => ?_,
    fun k hk hl => ?_, fun ha hc => ?_, fun hq => by simp [hdue] at hq⟩
  · rw [receiver_fault, receiver_setReceiver]
    by_cases hq : q = p
    · rw [hq, if_pos rfl, if_pos List.mem_cons_self, h, gapAged, if_neg (Nat.not_le.mpr hg)]
    · rw [if_neg hq, if_neg (List.mem_singleton.not.mpr hq)]
  · rw [counts_fault_other hk (by rwa [hkind])]
    rfl
  · rw [counts_fault_same hkind (by decide) ((hpassed.action _).trans_ne ha) hc]
    simp [hdue, setReceiver]

theorem gapsTicked_one (p : Port) (s : State) : GapsTicked [p] s (tickGap p s) := by
  cases h : (portState p s).receiver with
  | idle =>
    rw [tickGap_of_idle h]
    exact gapsTicked_of_idle h
  | inMessage chars gap =>
    by_cases hg : gap + 1 ≤ limitOf s p
    · rw [tickGap_of_running h hg]
      exact gapsTicked_of_running h hg
    · rw [tickGap_of_due h (Nat.not_le.mp hg)]
      exact gapsTicked_of_due h (Nat.not_le.mp hg)

theorem gapsTicked_fold (hps : ps.Nodup) : GapsTicked ps s (ps.foldl (fun s p => tickGap p s) s) := by
  induction ps generalizing s with
  | nil => exact GapsTicked.refl s
  | cons p ps ih =>
    obtain ⟨hp, hps⟩ := List.nodup_cons.mp hps
    exact (gapsTicked_one p s).cons hp (ih hps)

end

/-! ## One timer alone -/

theorem foldl_of_fixed {α σ : Type} {f : σ → α → σ} {s : σ} {l : List α} (h : ∀ n ∈ l, f s n = s) :
    l.foldl f s = s := by
  induction l with
  | nil => rfl
  | cons n l ih => rw [List.foldl_cons, h n List.mem_cons_self, ih fun m hm => h m (List.mem_cons_of_mem n hm)]

theorem foldl_of_one {α σ : Type} {f : σ → α → σ} {s : σ} {m : α} {l : List α} (hnd : l.Nodup) (hm : m ∈ l)
    (hbefore : ∀ n ∈ l, n ≠ m → f s n = s) (hafter : ∀ n ∈ l, n ≠ m → f (f s m) n = f s m) : l.foldl f s = f s m := by
  induction l with
  | nil => exact absurd hm List.not_mem_nil
  | cons n l ih =>
    obtain ⟨hn, hnd⟩ := List.nodup_cons.mp hnd
    rw [List.foldl_cons]
    by_cases he : n = m
    · rw [he]
      exact foldl_of_fixed fun k hk => hafter k (List.mem_cons_of_mem n hk) fun e => hn (he ▸ e ▸ hk)
    · rw [hbefore n List.mem_cons_self he]
      exact ih hnd ((List.mem_cons.mp hm).resolve_left (Ne.symm he)) (fun k hk => hbefore k (List.mem_cons_of_mem n hk))
        fun k hk => hafter k (List.mem_cons_of_mem n hk)

/-- The tie timers a millisecond later. -/
def tickTies (s : State) : State := (bundleNumbers s).foldl (fun s n => tickTie n s) s

/-- The gaps a millisecond later. -/
def tickGaps (s : State) : State := allPorts.foldl (fun s p => tickGap p s) s

theorem step_of_idle {s : State} (h : s.pending = []) : step s = .next (tickGaps (tickTies (tickClaim s))) := by
  rw [step, h]
  rfl

section
variable {b : Bundle} {p : Port} {s : State}

theorem tickTies_of_still (h : ∀ b ∈ s.bundles.table, b.tieTimer = none) : tickTies s = s := by
  refine foldl_of_fixed fun n _ => tickTie_of_still ?_
  cases hx : findBundle n s with
  | none => rfl
  | some x => exact h x (List.mem_of_find?_eq_some hx)

theorem tickGaps_of_idle (h : ∀ p, (portState p s).receiver = .idle) : tickGaps s = s :=
  foldl_of_fixed fun p _ => tickGap_of_idle (h p)

/-- Of the tie timers one alone runs. -/
theorem tickTies_of_one (hnd : (bundleNumbers s).Nodup) (hb : b ∈ s.bundles.table)
    (hothers : ∀ x ∈ s.bundles.table, x ≠ b → x.tieTimer = none) : tickTies s = tickTie b.number s := by
  have hstill (n : Nat) (hn : n ≠ b.number) : (findBundle n s).bind Bundle.tieTimer = none := by
    cases hx : findBundle n s with
    | none => rfl
    | some x => exact hothers x (List.mem_of_find?_eq_some hx) fun e => hn (e ▸ (findBundle_number hx).symm)
  refine foldl_of_one hnd (List.mem_map_of_mem hb) (fun n _ hn => tickTie_of_still (hstill n hn)) fun n _ hn => ?_
  refine tickTie_of_still ?_
  rw [findBundle_of_tiesTicked (tiesTicked_one hnd b.number) (List.mem_singleton.not.mpr hn)]
  exact hstill n hn

/-- Of the receivers one alone is in a message. -/
theorem tickGaps_of_one (hothers : ∀ q, q ≠ p → (portState q s).receiver = .idle) : tickGaps s = tickGap p s := by
  refine foldl_of_one nodup_allPorts (mem_allPorts p) (fun q _ hq => tickGap_of_idle (hothers q hq)) fun q _ hq => ?_
  refine tickGap_of_idle ?_
  rw [(gapsTicked_one p s).receiver, if_neg (List.mem_singleton.not.mpr hq)]
  exact hothers q hq

theorem receiver_tickTies (hnd : (bundleNumbers s).Nodup) (p : Port) :
    (portState p (tickTies s)).receiver = (portState p s).receiver := (tiesTicked_fold hnd hnd).receiver p

/-- The claim's timer alone runs and is due. -/
theorem step_of_claim {c : Claim} (hpending : s.pending = []) (hclaim : s.run.claim = some c) (hdue : 10000 ≤ c.elapsed + 1)
    (hties : ∀ b ∈ s.bundles.table, b.tieTimer = none) (hidle : ∀ p, (portState p s).receiver = .idle) :
    step s = exec .claimExpiry s := by
  have hticked := claimTicked s
  rw [step_of_idle hpending, tickTies_of_still (by rw [hticked.bundles]; exact hties),
    tickGaps_of_idle fun p => (hticked.receiver p).trans (hidle p), tickClaim_of_due hclaim hdue]
  rfl

/-- One tie timer alone runs and is due. -/
theorem step_of_tie (hpending : s.pending = []) (hnd : (bundleNumbers s).Nodup) (hb : b ∈ s.bundles.table)
    (hdue : tieIsDue b = true) (hclaim : s.run.claim = none)
    (hothers : ∀ x ∈ s.bundles.table, x ≠ b → x.tieTimer = none) (hidle : ∀ p, (portState p s).receiver = .idle) :
    step s = exec (.tieTimerExpiry b.number) s := by
  obtain ⟨m, htimer, hm⟩ : ∃ m, b.tieTimer = some m ∧ 30000 ≤ m + 1 := by
    obtain ⟨m, htimer, hm⟩ := (Option.any_eq_true _ _).mp hdue
    exact ⟨m, htimer, of_decide_eq_true hm⟩
  have hrunning : (findBundle b.number s).bind Bundle.tieTimer = some m := by
    rw [findBundle_of_mem hnd hb]
    exact htimer
  rw [step_of_idle hpending, tickClaim_of_none hclaim,
    tickGaps_of_idle fun p => (receiver_tickTies hnd p).trans (hidle p), tickTies_of_one hnd hb hothers,
    tickTie_of_due hrunning hm]
  rfl

/-- One receiver's gap alone runs and is due. -/
theorem step_of_gap (hpending : s.pending = []) (hdue : gapDueOf s p = true) (hclaim : s.run.claim = none)
    (hties : ∀ b ∈ s.bundles.table, b.tieTimer = none)
    (hothers : ∀ q, q ≠ p → (portState q s).receiver = .idle) : step s = exec (.gapLimitExpiry p) s := by
  rw [step_of_idle hpending, tickClaim_of_none hclaim, tickTies_of_still hties, tickGaps_of_one hothers]
  cases h : (portState p s).receiver with
  | idle => rw [gapDueOf, h, gapIsDue] at hdue; cases hdue
  | inMessage chars gap =>
    rw [gapDueOf, h, gapIsDue, decide_eq_true_eq] at hdue
    rw [tickGap_of_due h hdue]
    rfl

/-! ## The idle step -/

/-- The three kinds of timer a millisecond later. -/
def ticked (s : State) : State := tickGaps (tickTies (tickClaim s))

/-- What the millisecond of an idle step does. -/
structure Ticked (s t : State) : Prop where
  passed : Passed s t
  claim : t.run.claim = s.run.claim.bind claimAged
  bundles : t.bundles = { s.bundles with table := s.bundles.table.map tieAged }
  receiver : ∀ p, (portState p t).receiver = gapAged (limitOf s p) (portState p s).receiver
  told : ∀ c, s.run.claim = some c → 10000 ≤ c.elapsed + 1 → txHasRoom c.holder s = true →
    ∃ more, txQueue c.holder t = txQueue c.holder s ++ claimExpiredFrame :: more
  delivery : actionOf .deliveryFault s ≠ .off → s.fault.counts[kindIndex .deliveryFault] ≤ 65535 →
    t.fault.counts[kindIndex .deliveryFault] =
      min 65535 (s.fault.counts[kindIndex .deliveryFault] + s.bundles.table.countP tieIsDue)
  link : actionOf .linkError s ≠ .off → s.fault.counts[kindIndex .linkError] ≤ 65535 →
    t.fault.counts[kindIndex .linkError] =
      min 65535 (s.fault.counts[kindIndex .linkError] + allPorts.countP (gapDueOf s))
  stop : actionOf .deliveryFault s = .stop → s.bundles.table.any tieIsDue = true → t.fault.stopLatch = true
  quiet : (∀ c, s.run.claim = some c → c.elapsed + 1 < 10000) → s.bundles.table.any tieIsDue = false →
    allPorts.any (gapDueOf s) = false → Uneventful s t

theorem ticked_rules (hnd : (bundleNumbers s).Nodup) : Ticked s (ticked s) := by
  have hclaim := claimTicked s
  rw [ticked]
  generalize tickClaim s = u at hclaim
  have hnumbers : bundleNumbers u = bundleNumbers s := by rw [bundleNumbers, hclaim.bundles, bundleNumbers]
  have hnd' : (bundleNumbers u).Nodup := by rwa [hnumbers]
  have hties : TiesTicked (bundleNumbers u) u (tickTies u) := tiesTicked_fold hnd' hnd'
  have hdues : (bundleNumbers u).map (tieDueOf u) = s.bundles.table.map tieIsDue := by
    rw [map_tieDueOf hnd', hclaim.bundles]
  have hcount : (bundleNumbers u).countP (tieDueOf u) = s.bundles.table.countP tieIsDue := by
    have := congrArg (List.countP id) hdues
    rwa [List.countP_map, List.countP_map] at this
  have hany : (bundleNumbers u).any (tieDueOf u) = s.bundles.table.any tieIsDue := by
    have := congrArg (List.any · id) hdues
    rwa [List.any_map, List.any_map] at this
  generalize tickTies u = v at hties
  have hgaps : GapsTicked allPorts v (tickGaps v) := gapsTicked_fold nodup_allPorts
  generalize tickGaps v = t at hgaps
  have hsv := hclaim.passed.trans hties.passed
  have hreceiver (p : Port) : (portState p v).receiver = (portState p s).receiver :=
    (hties.receiver p).trans (hclaim.receiver p)
  have hgapDue : gapDueOf v = gapDueOf s := funext fun p => by
    rw [gapDueOf, limitOf_of_passed hsv, hreceiver, gapDueOf]
  refine ⟨hsv.trans hgaps.passed, hgaps.claim.trans (hties.claim.trans hclaim.claim), ?_, fun p => ?_,
    fun c hc hdue hroom => ?_, fun ha hc => ?_, fun ha hc => ?_, fun ha hdue => ?_, fun hc hd hg => ?_⟩
  · rw [hgaps.bundles, hties.bundles, hclaim.bundles]
    refine congrArg (fun table => ({ s.bundles with table := table } : BundleUnit)) (List.map_congr_left fun b hb => ?_)
    rw [hnumbers]
    exact if_pos (List.mem_map_of_mem hb)
  · rw [hgaps.receiver, if_pos (mem_allPorts p), limitOf_of_passed hsv, hreceiver]
  · obtain ⟨more, hmore⟩ := hclaim.told c hc hdue hroom
    obtain ⟨rest, hrest⟩ := (hties.passed.grows.trans hgaps.passed.grows).exists_append c.holder
    exact ⟨more ++ rest, by rw [hrest, hmore, List.append_assoc, List.cons_append]⟩
  · have hu : u.fault.counts[kindIndex .deliveryFault] = s.fault.counts[kindIndex .deliveryFault] :=
      hclaim.counts _ (by decide)
    rw [hgaps.others _ (by decide) (by decide), hties.count ((hclaim.passed.action _).trans_ne ha) (by rwa [hu]), hu, hcount]
  · have hv : v.fault.counts[kindIndex .linkError] = s.fault.counts[kindIndex .linkError] :=
      (hties.others _ (by decide) (by decide)).trans (hclaim.counts _ (by decide))
    rw [hgaps.count ((hsv.action _).trans_ne ha) (by rwa [hv]), hv, hgapDue]
  · exact hgaps.passed.latch (hties.stop ((hclaim.passed.action _).trans ha) (hany.trans hdue))
  · exact ((hclaim.quiet hc).trans (hties.quiet (hany.trans hd))).trans (hgaps.quiet (hgapDue ▸ hg))

end

/-- Settles O3: the three kinds of timer one after another, and each of them alone. -/
theorem idleStepCountsOneMillisecond : Obligations.IdleStepCountsOneMillisecond := by
  intro s hpending hnd limit tieDue gapDue
  have hgapDue : gapDue = gapDueOf s := by
    funext p
    simp only [gapDue, limit, gapDueOf, limitOf]
    cases (portState p s).receiver <;> rfl
  have hticked := ticked_rules hnd
  refine ⟨⟨ticked s, step_of_idle hpending, hticked.claim, hticked.bundles,
    fun p => ⟨hticked.passed.speed p, hticked.passed.grows p, ?_⟩, hticked.passed.only, hticked.told, hticked.delivery,
    ?_, hticked.stop, fun hc hd hg => ?_⟩, fun c hc hdue hties hidle => step_of_claim hpending hc hdue hties hidle,
    fun b hb hdue hc hothers hidle => step_of_tie hpending hnd hb hdue hc hothers hidle,
    fun p hdue hc hties hothers => step_of_gap hpending (hgapDue ▸ hdue) hc hties hothers⟩
  · rw [hticked.receiver p]
    cases (portState p s).receiver <;> rfl
  · rw [hgapDue]
    exact hticked.link
  · obtain ⟨hgate, hfault, hdropped, htx⟩ := hticked.quiet hc hd (hgapDue ▸ hg)
    exact ⟨hgate, hfault, hdropped, htx⟩

end Sys2Proof.Machine
